-- ==== Sys2Proof/Word.lean ====
section
/-! DEFINITION. The words of the LN742's two serial links: bytes and 24-bit identities. -/

namespace Sys2Proof

/-- A byte of either serial link, of the site beacon or of a recall slot. -/
abbrev Byte := BitVec 8

/-- A 24-bit radio identity, group ID or mask (R130, R134, R135). -/
abbrev Identity := BitVec 24

end Sys2Proof
end

