-- ==== Sys2Proof/Syntax.lean ====
section
/-! DEFINITION. The commands of the LN742: one constructor for each row of spec/opcode_table.json, in its order. -/

namespace Sys2Proof

/-- The steps of the part as spec/opcode_table.json lists them (95_what_each_step_holds.md). The rows of the two receive
lines carry the bytes that arrive; three limit rows carry the index of the entry they concern. A host command carries no
operand: it is taken from the command intake queue, where its frame waits (R157; log 1). -/
inductive Instr where
  | frameRecordComplete (bytes : List Byte)
  | burstDone (bytes : List Byte)
  | recordTaken
  | heardAgeLimit (index : Nat)
  | barEnd (index : Nat)
  | departureDecay
  | digestAgeLimit (index : Nat)
  | servingReport
  | servingLossLimit
  | huntListenReadLimit
  | huntLimit
  | readingUnreadable
  | grantWaitTimeout
  | tooLong
  | affilAckWaitTimeout
  | silenceTimeout
  | hostFrameComplete (bytes : List Byte)
  | interByteGapTimeout
  | unknownKindCommand
  | provision
  | setParameters
  | loadSite
  | dropSite
  | setHuntChannels
  | setGroups
  | start
  | stop
  | callState
  | roamHold
  | roamTo
  | roamAbort
  | querySite
  | queryStatus
  | recallClear
  | reset
  | recordSent
  | softReset
  | rstnLow
  | powerOn
  | recallWriteComplete
  | recallEraseComplete
  | powerLoss
  | hostFrameLengthDiscard (bytes : List Byte)
  | frontEndLengthDiscard (bytes : List Byte)
  deriving DecidableEq, Repr

end Sys2Proof
end

