-- ==== Sys2Proof/Decode.lean ====
section
/-! DEFINITION. The command a table word spells. -/

namespace Sys2Proof

/-- No row of spec/opcode_table.json gives a command any bits (its "fields" are empty and it has no "fixed"), so no word
spells a command. What a frame's bytes mean is read in Machine/Operands.lean (log 26). -/
def decodeTableWord (nbits w : Nat) : Option Instr :=
  match nbits, w with
  | _, _ => none

end Sys2Proof
end

