-- ==== Sys2Proof/Config.lean ====
section
/-! DEFINITION. The free values: what spec/ leaves open while the machine goes on. Each is an opaque constant
applied to a plain counter of the state, so no proof can see what it answers. -/

namespace Sys2Proof.Config

/-- R60 and R95: when a SERVING LOST of the loss counter is acted on. Read modulo 3: 0 before the Ranking Unit,
1 after its updates and before its triggers, 2 after its triggers. Free value (log 6). -/
opaque lossOrder : Nat → Nat

/-- R129: whether a SERVING LOST with cause IDENTITY is acted on before the Address Filter handles the record's
block. Free value (log 7). -/
opaque identityFirst : Nat → Bool

/-- R95, R98 and R129: whether the Ranking Unit's triggers are acted on after the Address Filter has handled the
record's block. Free value (log 8). -/
opaque triggersLate : Nat → Bool

/-- R95 and R129: where triggers acted on late stand beside an IDENTITY loss of the same record and the filter's handling of its
block. Read modulo 3: 0 before both, 1 between them, 2 behind both. Free value (log 8). -/
opaque lateTriggers : Nat → Nat

/-- R153: what a write ended unfinished leaves. Read modulo 3: 0 blank, 1 torn, 2 valid. Free value (log 14). -/
opaque interruptedWrite : Nat → Nat

/-- R150: whether a write that runs to its completion has failed and leaves a torn slot. Free value (log 14). -/
opaque writeFails : Nat → Bool

/-- The six bytes a torn slot holds (R149). Free value (log 14). -/
opaque tornBytes : Nat → List Byte

/-- R153: whether an erase ended unfinished has left a slot blank (else the slot is as it was): the state's counter,
then the slot. Free value (log 14). -/
opaque eraseReached : Nat → Nat → Bool

/-- A backoff draw before the generator is seeded, which no rule gives a value (R115). Free value (log 21). -/
opaque unseededDraw : Nat → Nat

end Sys2Proof.Config
end

