-- ==== Sys2Proof/Machine/Codec.lean ====
section
/-! DEFINITION. The checks and byte orders of the records (R24, R42, section 12): CRC-8, CRC-16, big-endian fields. -/

namespace Sys2Proof.Machine

/-- `f` applied `n` times. -/
def iterate {α : Type} (f : α → α) : Nat → α → α
  | 0, x => x
  | n + 1, x => iterate f n (f x)

/-- One bit of the CRC-8 with generator x^8 + x^2 + x + 1, most significant bit first (R24). -/
def crc8Bit (c : BitVec 8) : BitVec 8 :=
  if c.msb then (c <<< 1) ^^^ 0x07#8 else c <<< 1

/-- One byte of the CRC-8 (R24). -/
def crc8Byte (c b : BitVec 8) : BitVec 8 := iterate crc8Bit 8 (c ^^^ b)

/-- The CRC-8 of both links and of the recall slot: initial value 0, no final inversion (R24, R149, R154). -/
def crc8 (bytes : List Byte) : Byte := bytes.foldl crc8Byte 0

/-- One bit of the CRC-16 with generator x^16 + x^12 + x^5 + 1, most significant bit first (R42). -/
def crc16Bit (c : BitVec 16) : BitVec 16 :=
  if c.msb then (c <<< 1) ^^^ 0x1021#16 else c <<< 1

/-- One byte of the CRC-16 (R42). -/
def crc16Byte (c : BitVec 16) (b : BitVec 8) : BitVec 16 :=
  iterate crc16Bit 8 (c ^^^ (b.setWidth 16 <<< 8))

/-- The beacon check: the register starts at all ones, no final inversion (R42). -/
def crc16 (bytes : List Byte) : BitVec 16 := bytes.foldl crc16Byte 0xFFFF#16

/-- The byte of a number's low 8 bits. -/
def byte (n : Nat) : Byte := BitVec.ofNat 8 n

/-- A 16-bit field, most significant byte first (section 12). -/
def be16 (n : Nat) : List Byte := [byte (n / 256), byte n]

/-- A 24-bit field, most significant byte first (section 12). -/
def be24 (n : Nat) : List Byte := [byte (n / 65536), byte (n / 256), byte n]

/-- The number a big-endian field holds (section 12). -/
def natOfBytes (bytes : List Byte) : Nat := bytes.foldl (fun a b => a * 256 + b.toNat) 0

/-- A byte in two's complement (section 12: signed fields). -/
def signedByte (i : Int) : Byte := BitVec.ofInt 8 i

/-- A 16-bit score in two's complement, most significant byte first (R166). -/
def signedBe16 (i : Int) : List Byte := be16 (BitVec.ofInt 16 i).toNat

/-- Bits `lo` to `lo + width - 1` of a byte. -/
def bits (b : Byte) (lo width : Nat) : Nat := b.toNat / 2 ^ lo % 2 ^ width

/-- Bit `i` of a byte. -/
def flag (b : Byte) (i : Nat) : Bool := b.getLsbD i

/-- The byte with the one bit `i` set when `f` holds. -/
def flagBit (f : Bool) (i : Nat) : Nat := if f then 2 ^ i else 0

/-- The byte at a place of a body, 0 beyond its end. -/
def at8 (body : List Byte) (i : Nat) : Byte := body.getD i 0

/-- The 16-bit field at a place of a body. -/
def at16 (body : List Byte) (i : Nat) : Nat := natOfBytes [at8 body i, at8 body (i + 1)]

/-- The 24-bit field at a place of a body. -/
def at24 (body : List Byte) (i : Nat) : Nat :=
  natOfBytes [at8 body i, at8 body (i + 1), at8 body (i + 2)]

/-- A 16-bit saturating counter, one higher (R38, R56, R127, R163). -/
def sat16 (n : Nat) : Nat := min (n + 1) 65535

/-- A record framed for the Front-End Link: lead byte 0xB5, length, kind, body, check (R24). -/
def frontEndFrame (kind : Byte) (body : List Byte) : List Byte :=
  let counted := byte (body.length + 1) :: kind :: body
  0xB5#8 :: counted ++ [crc8 counted]

/-- A record framed for the Host Link: lead byte 0xA7, length, kind, tag, body, check (R154). -/
def hostFrame (kind tag : Byte) (body : List Byte) : List Byte :=
  let counted := byte (body.length + 2) :: kind :: tag :: body
  0xA7#8 :: counted ++ [crc8 counted]

end Sys2Proof.Machine
end

