-- ==== Sys2Proof/Machine/Params.lean ====
section
/-! DEFINITION. The parameter table of 11.5.1: codes, ranges and defaults. -/

namespace Sys2Proof.Machine

/-- The 27 parameters, in the order of their codes (11.5.1). -/
inductive Param where
  | kServing
  | kCandidate
  | entryThreshold
  | weakThreshold
  | weakCountLimit
  | lossLimit
  | hysteresis
  | dwellLimit
  | minimumSamples
  | loadStep
  | isolatedPenalty
  | departurePenalty
  | decayInterval
  | heardAgeLimit
  | digestAgeLimit
  | barTime
  | budgetIdle
  | budgetReceiving
  | roamInCall
  | attemptLimit
  | grantWait
  | readLimit
  | registrationLimit
  | huntLimit
  | directChannel
  | allCallEnable
  | reportInterval
  deriving DecidableEq, Repr

/-- A parameter's place in the parameter set: its code less 1 (11.5.1). -/
def Param.place : Param → Nat
  | .kServing => 0
  | .kCandidate => 1
  | .entryThreshold => 2
  | .weakThreshold => 3
  | .weakCountLimit => 4
  | .lossLimit => 5
  | .hysteresis => 6
  | .dwellLimit => 7
  | .minimumSamples => 8
  | .loadStep => 9
  | .isolatedPenalty => 10
  | .departurePenalty => 11
  | .decayInterval => 12
  | .heardAgeLimit => 13
  | .digestAgeLimit => 14
  | .barTime => 15
  | .budgetIdle => 16
  | .budgetReceiving => 17
  | .roamInCall => 18
  | .attemptLimit => 19
  | .grantWait => 20
  | .readLimit => 21
  | .registrationLimit => 22
  | .huntLimit => 23
  | .directChannel => 24
  | .allCallEnable => 25
  | .reportInterval => 26

/-- The range of each parameter, in the order of the codes; an off/on parameter is 0 or 1 (11.5.1, R161). -/
def paramRanges : List (Nat × Nat) :=
  [(0, 6), (0, 6), (0, 255), (0, 255), (1, 31), (1, 63), (0, 63), (1, 15), (1, 15),
   (0, 7), (0, 63), (0, 63), (1, 255), (1, 255), (1, 255), (1, 255), (0, 4), (0, 4),
   (0, 1), (1, 15), (1, 255), (16, 64), (1, 63), (1, 255), (0, 1023), (0, 1), (0, 255)]

/-- The default of each parameter, in the order of the codes (11.5.1). -/
def paramDefaults : List Nat :=
  [4, 2, 40, 36, 8, 16, 12, 3, 4,
   2, 20, 16, 4, 40, 60, 30, 3, 1,
   0, 6, 32, 32, 12, 63, 0, 1, 0]

/-- A value clamped to the range of the parameter at a place (R161). -/
def clampParam (place value : Nat) : Nat :=
  let range := paramRanges.getD place (0, 0)
  max range.1 (min value range.2)

end Sys2Proof.Machine
end

