-- ==== Sys2Proof/Machine/State.lean ====
section
/-! DEFINITION. The state of the LN742: one structure for each block (00_scope.md, "Blocks of the LN742"), the pins, the
Front-End records issued, the model's free-value counter and the queue of commands; and the state right after reset. -/

namespace Sys2Proof.Machine

/-- Why the machine stops with a fault. No rule of the spec stops the LN742, so there is no constructor: no command
faults (safe: nothing is claimed of a stop). -/
inductive Fault where
  deriving DecidableEq, Repr

/-- Why the machine refuses a command. -/
inductive Refusal where
  /-- Raised by an arm of `exec` that has no meaning yet; no arm of this model answers it (safe: a run would stop). -/
  | notModelled (mnemonic : String)
  deriving DecidableEq, Repr

/-! ## Records of the Front-End Link -/

/-- The modem's check of a frame's content (R26); `unchecked` is NONE. -/
inductive FrameCheck where
  | unchecked | pass | fail
  deriving DecidableEq, Repr

/-- A site fragment: a beacon's edition and three of its bytes (R26, R41). -/
structure Fragment where
  edition : Nat
  byte0 : Byte
  byte1 : Byte
  byte2 : Byte
  deriving DecidableEq, Repr

/-- A control block as the record carries it (12.1): destination kind 0..3, destination (0 for ALL), type code 0..15 and
six payload bytes. What it means is judged when it is read (R128). -/
structure ControlBlock where
  kind : Nat
  destination : Identity
  code : Nat
  payload : List Byte
  deriving DecidableEq, Repr

/-- A FRAME record that has passed its check and examination (R26). `sync` is the colour when SYNCED. -/
structure Frame where
  position : Nat
  channel : Nat
  sync : Option Nat
  level : Nat
  settling : Bool
  check : FrameCheck
  fragment : Option Fragment
  block : Option ControlBlock
  deriving DecidableEq, Repr

/-- The burst kinds of a BURST record (R28). -/
inductive BurstKind where
  | register | affiliate | continuation
  deriving DecidableEq, Repr

/-- A record the LN742 sends on the Front-End Link (R28). -/
inductive FrontEndRecord where
  | tune (channel : Nat)
  | burst (position : Nat) (kind : BurstKind) (payload : List Byte)
  deriving DecidableEq, Repr

/-! ## Frame Intake -/

/-- The timing reference (R33). -/
inductive Timing where
  | tracking | holdover
  deriving DecidableEq, Repr

/-- The Frame Intake. Intake is stopped exactly while a held record exists (R29). -/
structure FrameIntake where
  queue : List Frame
  held : Option Frame
  counter : Nat
  timing : Timing
  loss : Nat
  silenceRunning : Bool
  lostFrames : Nat
  slips : Nat
  checkErrors : Nat
  received : List Byte
  deriving DecidableEq, Repr

/-! ## Site Table -/

/-- An entry's status (R2). -/
inductive Status where
  | free | listed | heard | serving
  deriving DecidableEq, Repr

/-- An entry's origin (R3). -/
inductive Origin where
  | pinned | neighbour | found | recalled
  deriving DecidableEq, Repr

/-- What only a site's own beacon tells of it (R1): present exactly when the digest's source is OWN BEACON. -/
structure OwnBeacon where
  closed : Bool
  emergencyOnly : Bool
  slots : Nat
  window : Nat
  deriving DecidableEq, Repr

/-- A digest (R1, R54). Its source is OWN BEACON when `own` is present and NEIGHBOUR LIST otherwise. -/
structure Digest where
  load : Nat
  isolated : Bool
  own : Option OwnBeacon
  age : Nat
  deriving DecidableEq, Repr

/-- One record of the Site Table (section 1.1). -/
structure Entry where
  status : Status
  code : Nat
  channel : Nat
  colour : Nat
  origin : Origin
  preference : Int
  level : Nat
  samples : Nat
  dwell : Nat
  heardAge : Nat
  barred : Nat
  penalty : Nat
  digest : Option Digest
  deriving DecidableEq, Repr

/-- A FREE entry: every other field 0, no digest (R1); the origin is the one of code 0 (12.4.2, log 35). -/
def Entry.free : Entry :=
  { status := .free, code := 0, channel := 0, colour := 0, origin := .pinned, preference := 0, level := 0
    samples := 0, dwell := 0, heardAge := 0, barred := 0, penalty := 0, digest := none }

/-- The number of entries (section 1.1). -/
abbrev tableSize : Nat := 12

/-- The Site Table. -/
structure SiteTable where
  entries : List Entry
  decay : Nat
  conflicts : Nat
  skips : Nat
  deriving DecidableEq, Repr

/-! ## Beacon Assembler -/

/-- A beacon summary (R44): what the LN742 keeps of an accepted beacon. -/
structure Summary where
  code : Nat
  edition : Nat
  isolated : Bool
  closed : Bool
  emergencyOnly : Bool
  load : Nat
  slots : Nat
  window : Nat
  hold : Nat
  deriving DecidableEq, Repr

/-- One item of a beacon's neighbour list (R9, R40). -/
structure Neighbour where
  code : Nat
  colour : Nat
  channel : Nat
  load : Nat
  isolated : Bool
  deriving DecidableEq, Repr

/-- A store: one beacon under construction (section 3.2). -/
structure Store where
  edition : Option Nat
  places : List (Option (List Byte))
  deriving DecidableEq, Repr

/-- A cleared store: no edition, every position empty. -/
def Store.cleared : Store := { edition := none, places := List.replicate 16 none }

/-- A channel and colour, which name at most one entry (R5). -/
structure Pair where
  channel : Nat
  colour : Nat
  deriving DecidableEq, Repr

/-- The Beacon Assembler. -/
structure BeaconAssembler where
  servingStore : Store
  watchStore : Store
  owner : Option Pair
  lastWatch : Option Summary
  lastServing : Option Summary
  failures : Nat
  deriving DecidableEq, Repr

/-! ## Ranking Unit -/

/-- The Ranking Unit's own four items (section 4); F, n and the dwell count stand in the entries. -/
structure RankingUnit where
  watch : Option Nat
  weakCount : Nat
  weakReported : Bool
  reportCount : Nat
  deriving DecidableEq, Repr

/-! ## Scan Sequencer -/

/-- Which record a visit waits for; `ended` once its measure record has been named (R75). -/
inductive Stage where
  | settle | measure | ended
  deriving DecidableEq, Repr

/-- A visit in CAMPED: its object's identity as recorded at the decision record, whether its object has been evicted or dropped
since (R15, R16, R76), and its start position (R75, R76). -/
structure Visit where
  code : Nat
  channel : Nat
  colour : Nat
  objectGone : Bool
  start : Nat
  stage : Stage
  deriving DecidableEq, Repr

/-- A hunt visit (R84). -/
structure HuntVisit where
  channel : Nat
  stage : Stage
  deriving DecidableEq, Repr

/-- A hunt-listen (R85), with the level code of the measure record that found the site (R101). -/
structure Listen where
  channel : Nat
  colour : Nat
  limit : Nat
  count : Nat
  level : Nat
  deriving DecidableEq, Repr

/-- The Scan Sequencer. `decided` holds the start positions whose decision record has been taken since the last multiframe
start, in every engine state, which R87 reads on entry to CAMPED (log 38). -/
structure ScanSequencer where
  rotation : Nat
  pointer : Nat
  watchTurn : Bool
  spent : List Nat
  decided : List Nat
  visit : Option Visit
  hunt : Option HuntVisit
  huntChannels : List Nat
  huntList : List Nat
  cursor : Nat
  listen : Option Listen
  pace : Bool
  deriving DecidableEq, Repr

/-! ## Roam Engine -/

/-- The engine states (R89). -/
inductive Engine where
  | stopped | hunt | camped | registering | direct
  deriving DecidableEq, Repr

/-- The roam reasons (R99). -/
inductive Reason where
  | dwell | urgent | loss | forced | move | hunt
  deriving DecidableEq, Repr

/-- The Roam Engine. `enteredFrom` is the state the registration was entered from (R105). -/
structure RoamEngine where
  engine : Engine
  hold : Bool
  huntTimer : Nat
  expired : Bool
  previous : Option Nat
  reason : Option Reason
  enteredFrom : Engine
  deriving DecidableEq, Repr

/-! ## Access Unit -/

/-- The access states, with the phases of REGISTERING (R107). -/
inductive AccessState where
  | idle | tuning | reading | contending | awaitingGrant | continuing | affiliating
  deriving DecidableEq, Repr

/-- A slot count N and a backoff window W (R110). -/
structure AccessParams where
  slots : Nat
  window : Nat
  deriving DecidableEq, Repr

/-- A burst outstanding: its position and the list places of the group entries it carries (R108, R124, R125). -/
structure Burst where
  position : Nat
  carried : List Nat
  deriving DecidableEq, Repr

/-- The Access Unit: its state and context (R107, R108, R124, R125), the generator (R115) and its counters (R127). -/
structure AccessUnit where
  state : AccessState
  target : Nat
  previous : Nat
  attempts : Nat
  backoff : Nat
  outstanding : Option Burst
  redirectUsed : Bool
  queuedUsed : Bool
  attemptLimit : Nat
  grantWait : Nat
  readLimit : Nat
  registrationLimit : Nat
  params : Option AccessParams
  sitePosition : Option Nat
  wait : Nat
  multiframes : Nat
  skipReading : Bool
  reserved : Nat
  burstSent : Bool
  awaitingAck : Bool
  generator : Option (BitVec 16)
  collisions : Nat
  missedSlots : Nat
  deriving DecidableEq, Repr

/-- The Access Unit after reset (R127). -/
def AccessUnit.reset : AccessUnit :=
  { state := .idle, target := 0, previous := 0, attempts := 0, backoff := 0, outstanding := none
    redirectUsed := false, queuedUsed := false, attemptLimit := 0, grantWait := 0, readLimit := 0
    registrationLimit := 0, params := none, sitePosition := none, wait := 0, multiframes := 0
    skipReading := false, reserved := 0, burstSent := false, awaitingAck := false
    generator := none, collisions := 0, missedSlots := 0 }

/-! ## Address Filter and Group List -/

/-- The delivery states (R135, R137). -/
inductive Delivery where
  | unsent | sent | confirmed
  deriving DecidableEq, Repr

/-- One entry of the group list (R135). -/
structure Group where
  id : Identity
  mask : Identity
  delivery : Delivery
  deriving DecidableEq, Repr

/-- The Address Filter and Group List. -/
structure GroupList where
  identity : Option Identity
  groups : List Group
  deriving DecidableEq, Repr

/-! ## Call Coordination -/

/-- The call states (R143). -/
inductive Call where
  | idle | receiving | transmitting
  deriving DecidableEq, Repr

/-- The call state record (R143). -/
structure CallRecord where
  call : Call
  emergency : Bool
  deriving DecidableEq, Repr

/-! ## Recall Area -/

/-- A recorded site: the content of a valid slot, an append request or a recall list item (R149, R150, R152). -/
structure Site where
  code : Nat
  channel : Nat
  colour : Nat
  deriving DecidableEq, Repr

/-- The writer and its operation in flight (R150). -/
inductive Writer where
  | idle | writing (request : Site) | erasing
  deriving DecidableEq, Repr

/-- The Recall Area. The page is the nonvolatile memory: (address, byte) pairs, an unlisted address reading 0xFF. -/
structure RecallArea where
  page : List Host.Cell
  fill : Nat
  writer : Writer
  pendingWrite : Option Site
  clearRequested : Bool
  list : List Site
  deriving DecidableEq, Repr

/-! ## Host Link -/

/-- A checked frame of the command intake queue (R157). -/
structure HostFrame where
  kind : Byte
  tag : Byte
  body : List Byte
  deriving DecidableEq, Repr

/-- One pair of a SET GROUPS command (R136). -/
structure GroupPair where
  id : Identity
  mask : Identity
  deriving DecidableEq, Repr

/-- A group assembly: the pairs gathered and the next part number expected (R167). -/
structure Assembly where
  pairs : List GroupPair
  next : Nat
  deriving DecidableEq, Repr

/-- The Host Link. The transmit queue holds records as they are framed: kind 0x80 for a reply (12.4). -/
structure HostLink where
  received : List Byte
  intake : List HostFrame
  transmit : List HostFrame
  locked : Bool
  active : List Nat
  pendingParams : List (Option Nat)
  sequence : Byte
  linkError : Bool
  checkErrors : Nat
  droppedEvents : Nat
  resetTaken : Bool
  assembly : Option Assembly
  deriving DecidableEq, Repr

/-! ## Pins and supplies -/

/-- The supplies and the RSTN input: running, RSTN held low, or no power (R153, R164). -/
inductive Supply where
  | running | resetHeld | off
  deriving DecidableEq, Repr

/-- The TXINH output and the supplies (R141, R164). -/
structure Pins where
  txinh : Bool
  supply : Supply
  deriving DecidableEq, Repr

/-- The whole state. `frontEnd` is what has been issued on MTX since the reset, oldest first (R28, log 15); `free` is the
model's own counter, to which the free values are applied; `pending` is the queue of commands that wait. -/
structure State where
  intake : FrameIntake
  table : SiteTable
  beacon : BeaconAssembler
  ranking : RankingUnit
  scan : ScanSequencer
  roam : RoamEngine
  access : AccessUnit
  groups : GroupList
  call : CallRecord
  recallArea : RecallArea
  host : HostLink
  pins : Pins
  frontEnd : List FrontEndRecord
  free : Nat
  pending : List Instr
  deriving DecidableEq, Repr

/-- The machine right after a power-on reset with a blank recall page (log 13): R23, R39, R56, R74, R88, R106, R127, R140,
R148, R152, R164, R165. The transmit queue holds the ENGINE STATE event of the reset, with tag 0 and cause POWER-ON. -/
def State.reset : State :=
  { intake :=
      { queue := [], held := none, counter := 0, timing := .holdover, loss := 0, silenceRunning := true
        lostFrames := 0, slips := 0, checkErrors := 0, received := [] }
    table := { entries := List.replicate tableSize Entry.free, decay := 0, conflicts := 0, skips := 0 }
    beacon :=
      { servingStore := Store.cleared, watchStore := Store.cleared, owner := none, lastWatch := none
        lastServing := none, failures := 0 }
    ranking := { watch := none, weakCount := 0, weakReported := false, reportCount := 0 }
    scan :=
      { rotation := 0, pointer := 0, watchTurn := false, spent := [], decided := [], visit := none, hunt := none
        huntChannels := [], huntList := [], cursor := 0, listen := none, pace := false }
    roam :=
      { engine := .stopped, hold := false, huntTimer := 0, expired := false, previous := none
        reason := none, enteredFrom := .stopped }
    access := AccessUnit.reset
    groups := { identity := none, groups := [] }
    call := { call := .idle, emergency := false }
    recallArea := { page := [], fill := 0, writer := .idle, pendingWrite := none, clearRequested := false, list := [] }
    host :=
      { received := [], intake := [], transmit := [{ kind := 0x41#8, tag := 0#8, body := [0#8, 0#8, 2#8, 0#8] }]
        locked := false, active := paramDefaults, pendingParams := List.replicate 27 none
        sequence := 1#8, linkError := false, checkErrors := 0, droppedEvents := 0, resetTaken := false
        assembly := none }
    pins := { txinh := false, supply := .running }
    frontEnd := []
    free := 0
    pending := [] }

end Sys2Proof.Machine
end

