-- ==== Sys2Proof/Machine/Flags.lean ====
section
/-! DEFINITION. The codes and flag bytes of replies and events (section 12.4), and the events' bodies. -/

namespace Sys2Proof.Machine

/-- The ENGINE STATE causes (R90). -/
inductive EngineCause where
  | start | stop | powerOn | softReset | loss | silence | identity | huntLimit | registration | outcome
  deriving DecidableEq, Repr

/-- The failure causes of a registration (R122). -/
inductive FailureCause where
  | unreadable | mismatch | closed | emergencyOnly | noAccess | rejected | redirectRefused | tableFull | redirectLoop
  | tooLong | aborted
  deriving DecidableEq, Repr

/-- The MOVE IGNORED causes (R98). -/
inductive MoveCause where
  | serving | barred | conflict | tableFull
  deriving DecidableEq, Repr

/-- The reply codes (R158). -/
inductive ReplyCode where
  | ok | adjusted | format | unknownKind | busy | state | notProvisioned | locked | invalidIdentity | inUse | full
  | unknownSite | barred | tooLate
  deriving DecidableEq, Repr

/-- 12.4.2: the reply codes. -/
def ReplyCode.toByte : ReplyCode → Byte
  | .ok => 0
  | .adjusted => 1
  | .format => 2
  | .unknownKind => 3
  | .busy => 4
  | .state => 5
  | .notProvisioned => 6
  | .locked => 7
  | .invalidIdentity => 8
  | .inUse => 9
  | .full => 10
  | .unknownSite => 11
  | .barred => 12
  | .tooLate => 13

/-- 12.4.2: the engine state codes. -/
def Engine.toByte : Engine → Byte
  | .stopped => 0
  | .hunt => 1
  | .camped => 2
  | .registering => 3
  | .direct => 4

/-- 12.4.2: the access state codes. -/
def AccessState.toByte : AccessState → Byte
  | .idle => 0
  | .tuning => 1
  | .reading => 2
  | .contending => 3
  | .awaitingGrant => 4
  | .continuing => 5
  | .affiliating => 6

/-- 12.4.2: the status codes of an entry. -/
def Status.toByte : Status → Byte
  | .free => 0
  | .listed => 1
  | .heard => 2
  | .serving => 3

/-- 12.4.2: the origin codes of an entry. -/
def Origin.toByte : Origin → Byte
  | .pinned => 0
  | .neighbour => 1
  | .found => 2
  | .recalled => 3

/-- 12.4.1: the call state codes. -/
def Call.toByte : Call → Byte
  | .idle => 0
  | .receiving => 1
  | .transmitting => 2

/-- 12.4.3: the ENGINE STATE cause codes. -/
def EngineCause.toByte : EngineCause → Byte
  | .start => 0
  | .stop => 1
  | .powerOn => 2
  | .softReset => 3
  | .loss => 4
  | .silence => 5
  | .identity => 6
  | .huntLimit => 7
  | .registration => 8
  | .outcome => 9

/-- 12.4.3: the roam reason codes. -/
def Reason.toByte : Reason → Byte
  | .dwell => 0
  | .urgent => 1
  | .loss => 2
  | .forced => 3
  | .move => 4
  | .hunt => 5

/-- 12.4.3: the failure cause codes. -/
def FailureCause.toByte : FailureCause → Byte
  | .unreadable => 0
  | .mismatch => 1
  | .closed => 2
  | .emergencyOnly => 3
  | .noAccess => 4
  | .rejected => 5
  | .redirectRefused => 6
  | .tableFull => 7
  | .redirectLoop => 8
  | .tooLong => 9
  | .aborted => 10

/-- 12.4.3: the MOVE IGNORED cause codes. -/
def MoveCause.toByte : MoveCause → Byte
  | .serving => 0
  | .barred => 1
  | .conflict => 2
  | .tableFull => 3

/-- 12.1: the burst kind codes. -/
def BurstKind.toByte : BurstKind → Byte
  | .register => 1
  | .affiliate => 2
  | .continuation => 3

/-- An index, or 0xFF for none (R166). -/
def indexByte : Option Nat → Byte
  | some i => byte i
  | none => 0xFF

/-- A one-bit field: 1 when it holds. -/
def boolByte (f : Bool) : Byte := if f then 1 else 0

/-- The closed, emergency-only and isolated bits shared by the digest byte and BEACON CHANGED (12.4.2, 12.4.3). -/
def siteFlags (isolated closed emergencyOnly : Bool) : Nat :=
  flagBit isolated 2 + flagBit closed 1 + flagBit emergencyOnly 0

/-- 12.4.2, entry bytes 16 to 20: the digest; absent fields are sent as 0. -/
def digestBytes : Option Digest → List Byte
  | none => [0, 0, 0, 0, 0]
  | some d =>
    match d.own with
    | none => [byte (flagBit true 7 + siteFlags d.isolated false false), byte d.load, 0, 0, byte d.age]
    | some o =>
      [byte (flagBit true 7 + flagBit true 6 + siteFlags d.isolated o.closed o.emergencyOnly), byte d.load,
        byte o.slots, byte o.window, byte d.age]

/-- 12.4.2: the 21 bytes of an entry. -/
def entryBytes (index : Nat) (e : Entry) : List Byte :=
  [byte index, e.status.toByte] ++ be16 e.code ++ be16 e.channel
    ++ [byte e.colour, e.origin.toByte, signedByte e.preference] ++ be16 e.level
    ++ [byte e.samples, byte e.dwell, byte e.heardAge, byte e.barred, byte e.penalty] ++ digestBytes e.digest

/-- The twelve events (11.6), each with what it carries. -/
inductive Event where
  | engineState (previous new : Engine) (cause : EngineCause) (txinh : Bool)
  | roamed (oldCode index newCode : Nat) (reason : Option Reason)
  | roamFailed (index : Option Nat) (code : Nat) (cause : FailureCause) (reason : Option Reason) (bar : Nat)
  | servingWeak (index code level weak : Nat)
  | servingReport (index code level samples : Nat) (score : Int) (weak : Nat)
  | beaconChanged (index code oldEdition newEdition : Nat) (isolated closed emergencyOnly : Bool)
  | page (servingCode : Nat) (payload : List Byte)
  | groupNotice (servingCode kind : Nat) (destination : Identity) (matching : Option Nat) (payload : List Byte)
  | affiliation (count servingCode entries confirmed unsent : Nat)
  | moveIgnored (code channel colour : Nat) (cause : MoveCause)
  | frontEndSilent
  | linkError (count : Nat)
  deriving DecidableEq, Repr

/-- 12.4: the events have kinds 0x41 to 0x4C. -/
def Event.kind : Event → Byte
  | .engineState .. => 0x41
  | .roamed .. => 0x42
  | .roamFailed .. => 0x43
  | .servingWeak .. => 0x44
  | .servingReport .. => 0x45
  | .beaconChanged .. => 0x46
  | .page .. => 0x47
  | .groupNotice .. => 0x48
  | .affiliation .. => 0x49
  | .moveIgnored .. => 0x4A
  | .frontEndSilent => 0x4B
  | .linkError .. => 0x4C

/-- The reason byte of an outcome's event; every registration has a reason (R99). -/
def reasonByte : Option Reason → Byte
  | some r => r.toByte
  | none => 0xFF

/-- 12.4.3: the event bodies. -/
def Event.body : Event → List Byte
  | .engineState p n c t => [p.toByte, n.toByte, c.toByte, boolByte t]
  | .roamed o i n r => be16 o ++ [byte i] ++ be16 n ++ [reasonByte r]
  | .roamFailed i code c r bar => [indexByte i] ++ be16 code ++ [c.toByte, reasonByte r, byte bar]
  | .servingWeak i code level weak => [byte i] ++ be16 code ++ be16 level ++ [byte weak]
  | .servingReport i code level n score weak =>
    [byte i] ++ be16 code ++ be16 level ++ [byte n] ++ signedBe16 score ++ [byte weak]
  | .beaconChanged i code p n iso cl eo => [byte i] ++ be16 code ++ [byte p, byte n, byte (siteFlags iso cl eo)]
  | .page code payload => be16 code ++ payload
  | .groupNotice code kind dest idx payload =>
    be16 code ++ [byte kind] ++ be24 dest.toNat ++ [indexByte idx] ++ payload
  | .affiliation m code entries confirmed unsent =>
    [byte m] ++ be16 code ++ [byte entries, byte confirmed, byte unsent]
  | .moveIgnored code channel colour c => be16 code ++ be16 channel ++ [byte colour, c.toByte]
  | .frontEndSilent => []
  | .linkError n => be16 n

end Sys2Proof.Machine
end

