-- ==== Sys2Proof/Machine/Operands.lean ====
section
/-! DEFINITION. What the bytes of records mean: the examination of Front-End records (R25, 12.1), control blocks (R128),
the beacon (R40, 12.2), the recall slot (R149), and the bodies of the host's commands (12.4.1). -/

namespace Sys2Proof.Machine

/-! ## Front-End records -/

/-- The lengths allowed for any record kind from the modem (12.1). -/
def modemLengths : List Nat := [3, 6, 10, 17, 20]

/-- 12.1: the control block at the end of a FRAME body. -/
def readControlBlock (b : List Byte) : ControlBlock :=
  let kind := bits (at8 b 0) 6 2
  { kind := kind
    destination := if kind = 2 then 0 else BitVec.ofNat 24 (at24 b 1)
    code := bits (at8 b 0) 0 4
    payload := if kind = 2 then b.drop 1 else b.drop 4 }

/-- The body length a FRAME record's present parts call for (12.1): a block of destination kind ALL is 7 bytes long. -/
def frameBodyLength (body : List Byte) : Nat :=
  let fragment := flag (at8 body 0) 6
  let block := flag (at8 body 0) 7
  let start := if fragment then 9 else 5
  if block then start + (if bits (at8 body start) 6 2 = 2 then 7 else 10) else start

/-- R25 and 12.1: the examination of a FRAME record's body, none when it fails. Position, colour and edition have no bits
for a value above their range, so those cases of R25 cannot arise; spare bits are ignored (R166). -/
def examineFrame (body : List Byte) : Option Frame :=
  let b0 := at8 body 0
  let b3 := at8 body 3
  let hasBlock := flag b0 7
  let hasFragment := flag b0 6
  let synced := flag b0 4
  let check := bits b3 6 2
  let channel := at16 body 1
  if body.length = frameBodyLength body
      ∧ channel ≤ 1023
      ∧ check ≠ 3
      ∧ (synced = true ↔ check ≠ 0)
      ∧ (hasFragment = true ↔ check = 1)
      ∧ (hasBlock = true → check = 1) then
    some
      { position := bits b0 0 4
        channel := channel
        sync := if synced then some (bits b3 0 6) else none
        level := (at8 body 4).toNat
        settling := flag b0 5
        check := if check = 1 then .pass else if check = 2 then .fail else .unchecked
        fragment :=
          if hasFragment then
            some { edition := bits (at8 body 5) 0 4, byte0 := at8 body 6, byte1 := at8 body 7, byte2 := at8 body 8 }
          else none
        block := if hasBlock then some (readControlBlock (body.drop 9)) else none }
  else none

/-- R25 and 12.1: the examination of a BURST DONE record's body: the position and whether the burst was MISSED. -/
def examineBurstDone (body : List Byte) : Option (Nat × Bool) :=
  let outcome := (at8 body 1).toNat
  if body.length = 2 ∧ (outcome = 1 ∨ outcome = 2) then some (bits (at8 body 0) 0 4, outcome = 2) else none

/-- A modem record that has passed its examination. -/
inductive ModemRecord where
  | frame (f : Frame)
  | burstDone (position : Nat) (missed : Bool)
  deriving DecidableEq, Repr

/-- R25: the examination of a record by its kind: FRAME is 0x01 and BURST DONE 0x02 (12.1). -/
def examine (kind : Byte) (body : List Byte) : Option ModemRecord :=
  if kind = 0x01#8 then (examineFrame body).map .frame
  else if kind = 0x02#8 then (examineBurstDone body).map fun r => .burstDone r.1 r.2
  else none

/-- 12.1: the kind and body of a record the LN742 sends. -/
def FrontEndRecord.content : FrontEndRecord → Byte × List Byte
  | .tune channel => (0x11, be16 channel)
  | .burst position kind payload => (0x12, byte position :: kind.toByte :: payload)

/-- The bytes of a record the LN742 sends on MTX (R24, R28). -/
def FrontEndRecord.bytes (r : FrontEndRecord) : List Byte := frontEndFrame r.content.1 r.content.2

/-- The bytes of a record the LN742 sends on HTX (R154). -/
def HostFrame.bytes (r : HostFrame) : List Byte := hostFrame r.kind r.tag r.body

/-! ## Control blocks -/

/-- The result of a GRANT block (R119, 12.1); `other` is passed over. -/
inductive Grant where
  | accept (count : Nat)
  | reject (hold : Nat)
  | redirect (code channel colour : Nat)
  | queued
  | other
  deriving DecidableEq, Repr

/-- A control block with the meaning of its type (R128). -/
inductive Message where
  | echo (slot : Nat)
  | grant (result : Grant)
  | affilAck (count : Nat)
  | page (payload : List Byte)
  | groupNotice (payload : List Byte)
  | move (code channel colour : Nat)
  deriving DecidableEq, Repr

/-- R119: the result of a GRANT; a continuation count above 4 is taken as 4, and a REDIRECT that names a site code outside
1..4095 or a channel above 1023 is no known result. -/
def readGrant (p : List Byte) : Grant :=
  let result := (at8 p 0).toNat
  if result = 1 then .accept (min (at8 p 1).toNat 4)
  else if result = 2 then .reject (at8 p 2).toNat
  else if result = 3 then
    let code := at16 p 1
    let channel := at16 p 4
    if 1 ≤ code ∧ code ≤ 4095 ∧ channel ≤ 1023 then .redirect code channel (bits (at8 p 3) 0 6) else .other
  else if result = 4 then .queued
  else .other

/-- R128, R166: what a control block says, none when it is passed over: a type that is none of the six, a destination kind not
valid for the type, an ECHO with a slot outside 0..7 (log 45), or a MOVE naming a site code outside 1..4095 or a channel above
1023. -/
def readMessage (b : ControlBlock) : Option Message :=
  let p := b.payload
  if b.code = 1 ∧ b.kind = 0 then
    let slot := (at8 p 0).toNat
    if slot ≤ 7 then some (.echo slot) else none
  else if b.code = 2 ∧ b.kind = 0 then some (.grant (readGrant p))
  else if b.code = 3 ∧ b.kind = 0 then some (.affilAck (min (at8 p 0).toNat 16))
  else if b.code = 4 ∧ b.kind = 0 then some (.page (p.take 4))
  else if b.code = 5 ∧ (b.kind = 1 ∨ b.kind = 2) then some (.groupNotice (p.take 4))
  else if b.code = 6 ∧ (b.kind = 0 ∨ b.kind = 2) then
    let code := at16 p 0
    let channel := at16 p 3
    if 1 ≤ code ∧ code ≤ 4095 ∧ channel ≤ 1023 then some (.move code channel (bits (at8 p 2) 0 6)) else none
  else none

/-! ## The site beacon -/

/-- 12.2: neighbour item `k` of a beacon: bits 31-20 site code, 19-14 colour, 13-4 channel, 3-1 load class, 0 isolated. -/
def readNeighbour (beacon : List Byte) (k : Nat) : Neighbour :=
  let w := natOfBytes ((beacon.drop (6 + 4 * k)).take 4)
  { code := w / 2 ^ 20 % 2 ^ 12
    colour := w / 2 ^ 14 % 2 ^ 6
    channel := w / 2 ^ 4 % 2 ^ 10
    load := w / 2 % 2 ^ 3
    isolated := w % 2 = 1 }

/-- 12.2: the neighbour count of a beacon. -/
def neighbourCount (beacon : List Byte) : Nat := bits (at8 beacon 3) 0 4

/-- R40: the neighbour items within the count, in beacon order. -/
def readNeighbours (beacon : List Byte) : List Neighbour :=
  (List.range (neighbourCount beacon)).map (readNeighbour beacon)

/-- R40, R44, 12.2: the summary of a beacon read under an edition. -/
def readSummary (edition : Nat) (beacon : List Byte) : Summary :=
  { code := at16 beacon 0 / 16
    edition := edition
    isolated := flag (at8 beacon 1) 3
    closed := flag (at8 beacon 1) 2
    emergencyOnly := flag (at8 beacon 1) 1
    load := bits (at8 beacon 3) 5 3
    slots := bits (at8 beacon 4) 5 3 + 1
    window := bits (at8 beacon 4) 0 4
    hold := (at8 beacon 5).toNat }

/-- R42: the check over bytes 0 to 45 equals the value in bytes 46 and 47. -/
def beaconCheckMatches (beacon : List Byte) : Bool := (crc16 (beacon.take 46)).toNat == at16 beacon 46

/-- R40, R46: a beacon that passes its check can be used unless its site code is 0, its neighbour count is above 10 or its
backoff window is 0. -/
def beaconUsable (beacon : List Byte) : Bool :=
  at16 beacon 0 / 16 != 0 && decide (neighbourCount beacon ≤ 10) && bits (at8 beacon 4) 0 4 != 0

/-! ## The recall slot -/

/-- 12.3: the six bytes of a slot that records a site. -/
def slotBytes (site : Site) : List Byte :=
  let content := be16 site.code ++ be16 site.channel ++ [byte site.colour]
  content ++ [crc8 content]

/-- R149: all six bytes are 0xFF. -/
def slotBlank (b : List Byte) : Bool := b.all (· == 0xFF#8)

/-- R149: the site a valid slot records; none for a blank slot, a torn slot, or fields outside their ranges. -/
def readSlot (b : List Byte) : Option Site :=
  let site : Site := { code := at16 b 0, channel := at16 b 2, colour := (at8 b 4).toNat }
  if slotBlank b = false ∧ crc8 (b.take 5) = at8 b 5 ∧ 1 ≤ site.code ∧ site.code ≤ 4095 ∧ site.channel ≤ 1023
      ∧ site.colour ≤ 63 then some site
  else none

/-! ## Command bodies -/

/-- 12.4: the command kinds. -/
abbrev kindProvision : Byte := 0x01
abbrev kindSetParameters : Byte := 0x02
abbrev kindLoadSite : Byte := 0x03
abbrev kindDropSite : Byte := 0x04
abbrev kindSetHuntChannels : Byte := 0x05
abbrev kindSetGroups : Byte := 0x06
abbrev kindStart : Byte := 0x07
abbrev kindStop : Byte := 0x08
abbrev kindCallState : Byte := 0x09
abbrev kindRoamHold : Byte := 0x0A
abbrev kindRoamTo : Byte := 0x0B
abbrev kindRoamAbort : Byte := 0x0C
abbrev kindQuerySite : Byte := 0x0D
abbrev kindQueryStatus : Byte := 0x0E
abbrev kindRecallClear : Byte := 0x0F
abbrev kindReset : Byte := 0x10

/-- R158: the kind is one of the sixteen commands. -/
def isCommandKind (kind : Byte) : Bool := decide (1 ≤ kind.toNat ∧ kind.toNat ≤ 16)

/-- R161, 12.4.1: the items of SET PARAMETERS, each a code and a value; none when the length is not 3k, k 0..13. -/
def readItems : List Byte → Option (List (Nat × Nat))
  | [] => some []
  | [_] => none
  | [_, _] => none
  | c :: h :: l :: rest => (readItems rest).map fun items => (c.toNat, natOfBytes [h, l]) :: items

/-- 12.4.1: the channels of SET HUNT CHANNELS, 10 bits each, packed without gaps after byte 0, first channel first; none when
the body's length is not 1 + ⌈10c/8⌉ for its count c (R82). -/
def readChannels : List Byte → Option (List Nat)
  | [] => none
  | count :: packed =>
    let c := count.toNat
    if packed.length = (10 * c + 7) / 8 then
      let w := natOfBytes packed
      some ((List.range c).map fun i => w / 2 ^ (8 * packed.length - 10 * (i + 1)) % 1024)
    else none

/-- R136: the pairs of a SET GROUPS part; none when the length is not a whole number of pairs. -/
def readPairs : List Byte → Option (List GroupPair)
  | [] => some []
  | a :: b :: c :: d :: e :: f :: rest =>
    (readPairs rest).map fun pairs =>
      { id := BitVec.ofNat 24 (natOfBytes [a, b, c]), mask := BitVec.ofNat 24 (natOfBytes [d, e, f]) } :: pairs
  | _ => none

/-- 12.4.1: the call state byte. -/
def readCall (b : Byte) : Option Call :=
  if b = 0 then some .idle else if b = 1 then some .receiving else if b = 2 then some .transmitting else none

/-- 12.4.1: a byte that may be 0 (off, no) or 1 (on, yes) and nothing else. -/
def readSwitch (b : Byte) : Option Bool :=
  if b = 0 then some false else if b = 1 then some true else none

end Sys2Proof.Machine
end

