-- ==== Sys2Proof/Machine/Memory.lean ====
section
/-! DEFINITION. The recall page (R149): the LN742's one addressed memory, 32 slots of 6 bytes at addresses 0 to 191. -/

namespace Sys2Proof.Machine

/-- What an unlisted address of the page reads as: a blank slot is six bytes 0xFF (R149). -/
abbrev blankByte : Byte := 0xFF

/-- The number of slots (R149). -/
abbrev slotCount : Nat := 32

/-- The bytes of a slot (R149). -/
abbrev slotSize : Nat := 6

/-- The number of addresses of the page. -/
abbrev pageSize : Nat := 192

/-- The byte at an address. -/
def Memory.read : List Host.Cell → Nat → Byte
  | [], _ => blankByte
  | (a, b) :: m, x => if x = a then b else Memory.read m x

/-- Writes one byte; writing 0xFF removes the entry, so equal pages are equal lists. -/
def Memory.write : List Host.Cell → Nat → Byte → List Host.Cell
  | [], x, v => if v = blankByte then [] else [(x, v)]
  | (a, b) :: m, x, v =>
    if x < a then (if v = blankByte then (a, b) :: m else (x, v) :: (a, b) :: m)
    else if x = a then (if v = blankByte then m else (x, v) :: m)
    else (a, b) :: Memory.write m x v

/-- Writes bytes at successive addresses. -/
def Memory.writeBytes : List Host.Cell → Nat → List Byte → List Host.Cell
  | m, _, [] => m
  | m, x, v :: vs => Memory.writeBytes (Memory.write m x v) (x + 1) vs

/-- Every address is above `low`, below the page's size, the addresses strictly rise, and no entry is 0xFF. -/
def Memory.wfAbove (low : Nat) : List Host.Cell → Bool
  | [] => true
  | (a, b) :: m => decide (low ≤ a) && decide (a < pageSize) && b != blankByte && Memory.wfAbove (a + 1) m

/-- The page's canonical form. -/
def Memory.wf (m : List Host.Cell) : Bool := Memory.wfAbove 0 m

/-- The six bytes of a slot (R149). -/
def readSlotBytes (m : List Host.Cell) (slot : Nat) : List Byte :=
  (List.range slotSize).map fun k => Memory.read m (slotSize * slot + k)

/-- Writes the first six of the bytes into a slot; a slot number above 31 names no slot. -/
def writeSlot (m : List Host.Cell) (slot : Nat) (b : List Byte) : List Host.Cell :=
  if slot < slotCount then Memory.writeBytes m (slotSize * slot) (b.take slotSize) else m

/-- R149: a slot is used when it is not blank. -/
def slotUsed (m : List Host.Cell) (slot : Nat) : Bool := !slotBlank (readSlotBytes m slot)

/-- R149: the site a slot records, none when it is blank or torn. -/
def slotSite (m : List Host.Cell) (slot : Nat) : Option Site := readSlot (readSlotBytes m slot)

/-- R149: a slot that is torn: not blank, and not valid. -/
def slotTorn (m : List Host.Cell) (slot : Nat) : Bool := slotUsed m slot && (slotSite m slot).isNone

/-- The first slot below `n`, counted from `slot` upward, that is blank; `slot + n` when none is. -/
def firstBlank (m : List Host.Cell) : Nat → Nat → Nat
  | slot, 0 => slot
  | slot, n + 1 => if slotUsed m slot then firstBlank m (slot + 1) n else slot

/-- R152: the index of the first blank slot, or 32. -/
def usedPrefix (m : List Host.Cell) : Nat := firstBlank m 0 slotCount

/-- R152: the page is unsound when a used slot stands at a higher index than a blank slot. -/
def pageUnsound (m : List Host.Cell) : Bool :=
  (List.range slotCount).any fun i => decide (usedPrefix m < i) && slotUsed m i

/-- R149: the newest valid slot's site: the valid slot of highest index below the fill count. -/
def newestValid (m : List Host.Cell) : Nat → Option Site
  | 0 => none
  | n + 1 =>
    match slotSite m n with
    | some site => some site
    | none => newestValid m n

/-- R152: the build of the recall list from slot `n - 1` downward: each valid slot whose site code is not in the list yet,
until the list holds 4 items. -/
def buildRecallList (m : List Host.Cell) : Nat → List Site → List Site
  | 0, list => list
  | n + 1, list =>
    if 4 ≤ list.length then list
    else
      match slotSite m n with
      | some site =>
        if list.any (fun x => x.code == site.code) then buildRecallList m n list
        else buildRecallList m n (list ++ [site])
      | none => buildRecallList m n list

end Sys2Proof.Machine
end

