-- ==== Sys2Proof/Machine/Ops.lean ====
section
/-! DEFINITION. The named updates of the state and the operations every block shares: parameters, events, replies, tuning,
the Watch Store's owner. -/

namespace Sys2Proof.Machine

/-! ## Updates, one for each field -/

/-- The state with another `intake`. -/
def State.setIntake (s : State) (x : FrameIntake) : State := { s with intake := x }

/-- The state with another `table`. -/
def State.setTable (s : State) (x : SiteTable) : State := { s with table := x }

/-- The state with another `beacon`. -/
def State.setBeacon (s : State) (x : BeaconAssembler) : State := { s with beacon := x }

/-- The state with another `ranking`. -/
def State.setRanking (s : State) (x : RankingUnit) : State := { s with ranking := x }

/-- The state with another `scan`. -/
def State.setScan (s : State) (x : ScanSequencer) : State := { s with scan := x }

/-- The state with another `roam`. -/
def State.setRoam (s : State) (x : RoamEngine) : State := { s with roam := x }

/-- The state with another `access`. -/
def State.setAccess (s : State) (x : AccessUnit) : State := { s with access := x }

/-- The state with another `groups`. -/
def State.setGroups (s : State) (x : GroupList) : State := { s with groups := x }

/-- The state with another `call`. -/
def State.setCall (s : State) (x : CallRecord) : State := { s with call := x }

/-- The state with another `recallArea`. -/
def State.setRecallArea (s : State) (x : RecallArea) : State := { s with recallArea := x }

/-- The state with another `host`. -/
def State.setHost (s : State) (x : HostLink) : State := { s with host := x }

/-- The state with another `pins`. -/
def State.setPins (s : State) (x : Pins) : State := { s with pins := x }

/-- The state with another `frontEnd`. -/
def State.setFrontEnd (s : State) (x : List FrontEndRecord) : State := { s with frontEnd := x }

/-- The state with another `free`. -/
def State.setFree (s : State) (x : Nat) : State := { s with free := x }

/-- The state with another `pending`. -/
def State.setPending (s : State) (x : List Instr) : State := { s with pending := x }

/-! ## Reading -/

/-- The active value of a parameter (R161, R162). -/
def State.par (s : State) (p : Param) : Nat := s.host.active.getD p.place 0

/-- An off/on parameter is on (R161). -/
def State.isOn (s : State) (p : Param) : Bool := s.par p == 1

/-- An entry is occupied when its status is not FREE (R1). -/
def Entry.occupied (e : Entry) : Bool := e.status != .free

/-- The entry's channel and colour. -/
def Entry.pair (e : Entry) : Pair := { channel := e.channel, colour := e.colour }

/-- The entry at an index. -/
def State.entry (s : State) (i : Nat) : Entry := s.table.entries.getD i Entry.free

/-- The index of the SERVING entry, if there is one (R17). -/
def State.serving (s : State) : Option Nat := s.table.entries.findIdx? fun e => e.status == .serving

/-- The site code of the SERVING entry, 0 when there is none. -/
def State.servingCode (s : State) : Nat :=
  match s.serving with
  | some i => (s.entry i).code
  | none => 0

/-- The index of the occupied entry that holds a site code: the code match of R5. -/
def State.findCode (s : State) (code : Nat) : Option Nat :=
  s.table.entries.findIdx? fun e => e.occupied && e.code == code

/-- The index of the occupied entry that holds a channel and colour (R5). -/
def State.findPair (s : State) (p : Pair) : Option Nat :=
  s.table.entries.findIdx? fun e => e.occupied && e.pair == p

/-- The Access Unit runs a registration (R107). -/
def AccessState.registering : AccessState → Bool
  | .tuning => true
  | .reading => true
  | .contending => true
  | .awaitingGrant => true
  | _ => false

/-- The Access Unit runs an exchange at the serving site (R107). -/
def AccessState.exchange : AccessState → Bool
  | .continuing => true
  | .affiliating => true
  | _ => false

/-- The entry is the one that the registration context names as its target (R6, R108). -/
def State.isTarget (s : State) (e : Entry) : Bool :=
  e.occupied && s.access.state.registering && e.code == s.access.target

/-! ## Transmit queue -/

/-- A record of the transmit queue is a reply: every reply has kind 0x80 (12.4). -/
def HostFrame.isReply (r : HostFrame) : Bool := r.kind == 0x80#8

/-- A record of the transmit queue is a BUSY reply (R157). -/
def HostFrame.isBusy (r : HostFrame) : Bool := r.isReply && at8 r.body 1 == ReplyCode.busy.toByte

/-- The events waiting in the transmit queue (R159). -/
def eventsWaiting (queue : List HostFrame) : Nat := queue.countP fun r => !r.isReply

/-- The replies waiting in the transmit queue (R157). -/
def repliesWaiting (queue : List HostFrame) : Nat := queue.countP HostFrame.isReply

/-- R159: at most 12 events wait. -/
abbrev maxEvents : Nat := 12

/-- R159: there is room for an event. -/
def State.roomForEvent (s : State) : Bool := decide (eventsWaiting s.host.transmit < maxEvents)

/-- R159: an event is offered to the transmit queue. It takes the sequence number as its tag whether it is queued or, with
12 events waiting, dropped and counted. -/
def State.event (s : State) (e : Event) : State :=
  if s.roomForEvent then
    s.setHost
      { s.host with
        transmit := s.host.transmit ++ [{ kind := e.kind, tag := s.host.sequence, body := e.body }]
        sequence := s.host.sequence + 1 }
  else
    s.setHost
      { s.host with sequence := s.host.sequence + 1, droppedEvents := sat16 s.host.droppedEvents }

/-- R158, 12.4.2: the reply to a command, with its result bytes. -/
def replyFrame (f : HostFrame) (code : ReplyCode) (result : List Byte) : HostFrame :=
  { kind := 0x80#8, tag := f.tag, body := [f.kind, code.toByte] ++ result }

/-- R158, R159: a reply is queued. -/
def State.reply (s : State) (f : HostFrame) (code : ReplyCode) (result : List Byte := []) : State :=
  s.setHost { s.host with transmit := s.host.transmit ++ [replyFrame f code result] }

/-! ## Front-End Link, outbound -/

/-- R28: a record is issued on the Front-End Link. -/
def State.issue (s : State) (r : FrontEndRecord) : State := s.setFrontEnd (s.frontEnd ++ [r])

/-- R28: TUNE is sent with a channel. -/
def State.tune (s : State) (channel : Nat) : State := s.issue (.tune channel)

/-- TUNE with the serving channel (R75, R79, R81, R87). -/
def State.tuneServing (s : State) : State :=
  match s.serving with
  | some i => s.tune (s.entry i).channel
  | none => s

/-! ## The Watch Store's owner -/

/-- R44: the Watch Store's owner becomes the given pair or none. The store and the last watch beacon are cleared whenever
the pair changes, an owner appears or the owner goes; the same pair changes nothing. -/
def State.setOwner (s : State) (owner : Option Pair) : State :=
  if s.beacon.owner = owner then s
  else s.setBeacon { s.beacon with owner := owner, watchStore := Store.cleared, lastWatch := none }

/-! ## Entries and the watch -/

/-- One entry replaced. -/
def State.setEntry (s : State) (i : Nat) (e : Entry) : State :=
  s.setTable { s.table with entries := s.table.entries.set i e }

/-- R15, R16: the site that leaves the entry, by eviction or by DROP SITE, is lost as the object of a visit in progress for it. -/
def Visit.withoutSite (v : Visit) (e : Entry) : Visit :=
  { v with objectGone := v.objectGone || (e.occupied && e.code == v.code) }

/-- R15, R16: a visit in progress for the site that the entry at an index holds loses its object. -/
def State.loseObject (s : State) (i : Nat) : State :=
  s.setScan { s.scan with visit := s.scan.visit.map fun v => v.withoutSite (s.entry i) }

/-- R15, R16: the site an entry holds, if it holds one, leaves the table, and the index holds the given content. -/
def State.replaceEntry (s : State) (i : Nat) (e : Entry) : State := (s.loseObject i).setEntry i e

/-- Every entry changed in the same way. -/
def State.mapEntries (s : State) (f : Entry → Entry) : State :=
  s.setTable { s.table with entries := s.table.entries.map f }

/-- R70: the watch is cleared. In CAMPED the watch candidate is the Watch Store's owner, which goes with it (R44). -/
def State.clearWatch (s : State) : State :=
  let s1 := s.setRanking { s.ranking with watch := none }
  if s.roam.engine = .camped then s1.setOwner none else s1

/-- R70: the watch is cleared when the entry whose dwell count has become 0 is the watch candidate. -/
def State.dwellCleared (s : State) (i : Nat) : State :=
  if s.ranking.watch = some i then s.clearWatch else s

/-- The measurements fall away and the status becomes LISTED (R6, R18, R52). -/
def Entry.fallen (e : Entry) : Entry := { e with status := .listed, level := 0, samples := 0, dwell := 0 }

/-- An entry falls to LISTED with F, n and dwell count 0, and with them the watch if it was the candidate (R6, R18, R52,
R68, R70). -/
def State.fallToListed (s : State) (i : Nat) : State := (s.setEntry i (s.entry i).fallen).dwellCleared i

/-- The identity conflict counter rises (R163). -/
def State.countConflict (s : State) : State :=
  s.setTable { s.table with conflicts := sat16 s.table.conflicts }

/-- The import-skip counter rises (R163). -/
def State.countSkip (s : State) : State := s.setTable { s.table with skips := sat16 s.table.skips }

/-- The model's counter of free values moves on, so that the next open value is a fresh one. -/
def State.nextFree (s : State) : State := s.setFree (s.free + 1)

/-- Nothing happens unless the supplies are up and RSTN is high: while RSTN is held low the LN742 takes no record on either
link and sends nothing (R164), and without power it does nothing at all. -/
def whileRunning (f : State → State) (s : State) : State := if s.pins.supply = .running then f s else s

end Sys2Proof.Machine
end

