-- ==== Sys2Proof/Machine/Groups.lean ====
section
/-! DEFINITION. The group list's delivery states (R135, R137, R138) and the matching of destinations (R130). -/

namespace Sys2Proof.Machine

/-- R130: the entry matches a destination when they agree at every bit place where the mask holds 0. -/
def Group.matches (g : Group) (destination : Identity) : Bool := (destination ^^^ g.id) &&& ~~~g.mask == 0#24

/-- R130: the matching entry of lowest index. -/
def State.matchingGroup (s : State) (destination : Identity) : Option Nat :=
  s.groups.groups.findIdx? fun g => g.matches destination

/-- The group list changed. -/
def State.setGroupList (s : State) (groups : List Group) : State := s.setGroups { s.groups with groups := groups }

/-- R137: every entry becomes UNSENT: serving loss, STOP, acceptance of a registration. -/
def State.allUnsent (s : State) : State :=
  s.setGroupList (s.groups.groups.map fun g => { g with delivery := .unsent })

/-- A SENT entry returns to UNSENT (R137). -/
def Group.returned (g : Group) : Group := if g.delivery = .sent then { g with delivery := .unsent } else g

/-- R137: every SENT entry returns to UNSENT: a timeout, or an exchange that fails or is abandoned. -/
def State.returnSent (s : State) : State := s.setGroupList (s.groups.groups.map Group.returned)

/-- R137: the SENT entries among those a burst carried return to UNSENT (log 20). -/
def State.returnCarried (s : State) (carried : List Nat) : State :=
  s.setGroupList (s.groups.groups.mapIdx fun i g => if carried.contains i then g.returned else g)

/-- The list places of the UNSENT entries, in list order. -/
def State.unsentPlaces (s : State) : List Nat :=
  (List.range s.groups.groups.length).filter fun i =>
    match s.groups.groups[i]? with
    | some g => g.delivery == .unsent
    | none => false

/-- Some group is UNSENT. -/
def State.anyUnsent (s : State) : Bool := s.groups.groups.any fun g => g.delivery == .unsent

/-- R124, R125: the entries a burst carries: the first up to 4 UNSENT entries in list order. -/
def State.nextCarried (s : State) : List Nat := s.unsentPlaces.take 4

/-- R137: the entries a burst carries become SENT. -/
def State.markSent (s : State) (carried : List Nat) : State :=
  s.setGroupList (s.groups.groups.mapIdx fun i g => if carried.contains i then { g with delivery := .sent } else g)

/-- 12.1: the payload of an AFFILIATE or CONTINUE burst: the number of entries, then their group IDs in list order. -/
def State.groupPayload (s : State) (carried : List Nat) : List Byte :=
  byte carried.length :: carried.flatMap fun i =>
    match s.groups.groups[i]? with
    | some g => be24 g.id.toNat
    | none => []

/-- R138: the first m SENT entries become CONFIRMED and every other SENT entry UNSENT. -/
def acknowledge : Nat → List Group → List Group
  | _, [] => []
  | m, g :: rest =>
    if g.delivery = .sent then
      match m with
      | 0 => { g with delivery := .unsent } :: acknowledge 0 rest
      | k + 1 => { g with delivery := .confirmed } :: acknowledge k rest
    else g :: acknowledge m rest

/-- The number of entries in a delivery state. -/
def countDelivery (groups : List Group) (d : Delivery) : Nat := groups.countP fun g => g.delivery == d

/-- R138, R139: an AFFIL ACK is applied to the group list, and one AFFILIATION event is sent. -/
def State.affilAck (s : State) (count : Nat) : State :=
  let groups := acknowledge count s.groups.groups
  (s.setGroupList groups).event
    (.affiliation count s.servingCode groups.length (countDelivery groups .confirmed) (countDelivery groups .unsent))

end Sys2Proof.Machine
end

