-- ==== Sys2Proof/Machine/Score.lean ====
section
/-! DEFINITION. The score (R63), eligibility (R64) and the choices made by score (R14, R65, R72). -/

namespace Sys2Proof.Machine

/-- R63: the load class that enters the score, 0 when the digest is absent. -/
def Entry.load (e : Entry) : Nat :=
  match e.digest with
  | some d => d.load
  | none => 0

/-- R63: the digest is present with isolated set. -/
def Entry.isolated (e : Entry) : Bool :=
  match e.digest with
  | some d => d.isolated
  | none => false

/-- What the entry's digest holds of the site's own beacon, when its source is OWN BEACON (R54). -/
def Entry.own (e : Entry) : Option OwnBeacon := e.digest.bind Digest.own

/-- R63: S = F + 16 (P - L λ - I - D), in sixteenths. While the emergency flag is on, the load and departure terms are 0;
an entry with n = 0 is scored with F = 0. -/
def State.score (s : State) (e : Entry) : Int :=
  let level : Int := if e.samples = 0 then 0 else e.level
  let loadTerm : Int := if s.call.emergency then 0 else e.load * s.par .loadStep
  let isolatedTerm : Int := if e.isolated then s.par .isolatedPenalty else 0
  let departureTerm : Int := if s.call.emergency then 0 else e.penalty
  level + 16 * (e.preference - loadTerm - isolatedTerm - departureTerm)

/-- R64: the entry may be a roam target, but for the exclusion of the entry just lost. -/
def State.eligible (s : State) (e : Entry) : Bool :=
  e.status == .heard && e.barred == 0 && decide (s.par .minimumSamples ≤ e.samples)
    && decide (16 * s.par .entryThreshold ≤ e.level)
    && (match e.own with
        | some o => !o.closed && (!o.emergencyOnly || s.call.emergency)
        | none => true)

/-- The index of highest score in a list, ties going to the one that stands first. -/
def State.highest (s : State) : List Nat → Option Nat
  | [] => none
  | i :: rest =>
    match s.highest rest with
    | none => some i
    | some j => if s.score (s.entry i) < s.score (s.entry j) then some j else some i

/-- The index of lowest score in a list, ties going to the one that stands last. -/
def State.lowest (s : State) : List Nat → Option Nat
  | [] => none
  | i :: rest =>
    match s.lowest rest with
    | none => some i
    | some j => if s.score (s.entry i) < s.score (s.entry j) then some i else some j

/-- All indexes, rising. -/
def allIndexes : List Nat := List.range tableSize

/-- R65: the best eligible entry, ties going to the lowest index. At serving loss the entry just lost is left out (R64,
R96). -/
def State.bestEligible (s : State) (lost : Option Nat) : Option Nat :=
  s.highest (allIndexes.filter fun i => s.eligible (s.entry i) && some i != lost)

/-- R72: the URGENT target: the eligible entry of highest score among those whose score exceeds the serving score. -/
def State.urgentTarget (s : State) (serving : Nat) : Option Nat :=
  s.highest (allIndexes.filter fun i =>
    s.eligible (s.entry i) && decide (s.score (s.entry serving) < s.score (s.entry i)))

end Sys2Proof.Machine
end

