-- ==== Sys2Proof/Machine/ScanSequencer.lean ====
section
/-! DEFINITION. The Scan Sequencer (section 5): the hunt list, hunt visits and hunt-listens, the CAMPED plan and its visits,
and what a change of engine state does to them. -/

namespace Sys2Proof.Machine

/-! ## The hunt list -/

/-- Channels added in order, each only when the list does not hold it yet (R83). -/
def addChannels : List Nat → List Nat → List Nat
  | list, [] => list
  | list, c :: rest => if list.contains c then addChannels list rest else addChannels (list ++ [c]) rest

/-- An index put into a list ordered by filtered level from the highest, behind its equals (R83). -/
def State.insertByLevel (s : State) (i : Nat) : List Nat → List Nat
  | [] => [i]
  | j :: rest => if (s.entry j).level < (s.entry i).level then i :: j :: rest else j :: s.insertByLevel i rest

/-- Indexes in order of filtered level from the highest, equal levels in rising order (R83). -/
def State.orderByLevel (s : State) : List Nat → List Nat → List Nat
  | ordered, [] => ordered
  | ordered, i :: rest => s.orderByLevel (s.insertByLevel i ordered) rest

/-- R83: the occupied entries that are not barred, those with samples first by level, then those without by index. -/
def State.huntEntries (s : State) : List Nat :=
  let open_ := allIndexes.filter fun i => (s.entry i).occupied && (s.entry i).barred == 0
  s.orderByLevel [] (open_.filter fun i => (s.entry i).samples != 0)
    ++ open_.filter fun i => (s.entry i).samples == 0

/-- R83: the channels of the three sources, in order, each at most once. -/
def State.huntSources (s : State) : List Nat :=
  addChannels []
    (s.recallArea.list.map Site.channel ++ s.huntEntries.map (fun i => (s.entry i).channel) ++ s.scan.huntChannels)

/-- R83: the hunt list is built, with the cursor at its first item. -/
def State.buildHuntList (s : State) : State :=
  s.setScan { s.scan with huntList := s.huntSources, cursor := 0 }

/-- R83, R84: the cursor moves to the next item; past the last item the list is built again. -/
def State.moveCursor (s : State) : State :=
  if s.scan.cursor + 1 < s.scan.huntList.length then s.setScan { s.scan with cursor := s.scan.cursor + 1 }
  else s.buildHuntList

/-- R84: a hunt visit to the channel at the cursor begins, with its TUNE; none when the list is empty (R83). -/
def State.beginHuntVisit (s : State) : State :=
  match s.scan.huntList[s.scan.cursor]? with
  | some channel => (s.setScan { s.scan with hunt := some { channel := channel, stage := .settle } }).tune channel
  | none => s

/-- R84, R85, R86: what follows a hunt visit that found no site or a hunt-listen that ended without a registration: the
cursor moves on, and the next hunt visit begins in HUNT, or TUNE with the direct channel is sent in DIRECT. -/
def State.huntOn (s : State) : State :=
  let s1 := (s.setScan { s.scan with hunt := none, listen := none }).moveCursor
  match s.roam.engine with
  | .hunt => s1.beginHuntVisit
  | .direct => s1.tune (s.par .directChannel)
  | _ => s1

/-- R44, R85: a hunt-listen that ends without a registration: the Watch Store's owner goes. -/
def State.endListen (s : State) : State := (s.setOwner none).huntOn

/-! ## Changes of engine state -/

/-- R87: the visit, hunt visit or hunt-listen in progress ends; no further TUNE is sent for it. -/
def State.scanIdle (s : State) : State :=
  s.setScan { s.scan with visit := none, hunt := none, listen := none }

/-- R77: the index of a position in the plan with offset r, if the plan holds it. -/
def planIndex (r p : Nat) : Option Nat :=
  if (p + 16 - r % 16) % 4 = 0 then some ((p + 16 - r % 16) % 16 / 4) else none

/-- R77: the record after which the counter reads this value is the decision record of the start at the next position, at
counter 15 the one at position 0 of the coming multiframe. -/
def startAfter (counter : Nat) : Nat := (counter + 1) % 16

/-- R77, R87: the decision records taken since the last multiframe start, with the one of this counter value. -/
def decidedWith (decided : List Nat) (counter : Nat) : List Nat :=
  let before := if counter = 0 then [] else decided
  if before.contains (startAfter counter) then before else before ++ [startAfter counter]

/-- R87: on entry to CAMPED the plan is built anew: each of its starts, and the start at position 0 of the coming multiframe, is
spent when its decision record has been taken, the record of the entry included. The decision record of a start at position 0 of
this multiframe lay in the one before and cannot come again. -/
def State.rebuildPlan (s : State) : State :=
  s.setScan
    { s.scan with spent := s.scan.decided.filter fun p => p == 0 || (planIndex s.scan.rotation p).isSome }

/-! ## The CAMPED plan -/

/-- R78: the visit budget. -/
def State.budget (s : State) : Nat :=
  match s.call.call with
  | .transmitting => 0
  | .idle => if s.ranking.weakCount = 0 then s.par .budgetIdle else 4
  | .receiving => if s.ranking.weakCount = 0 then s.par .budgetReceiving else 4

/-- R79: the positions reserved for an exchange with N slots: 1 to 2N, with 0 in place of 16. -/
def reservedPosition (n p : Nat) : Bool := decide (1 ≤ p ∧ p ≤ 2 * n) || (p == 0 && n == 8)

/-- The slot count N in use (R110). -/
def State.slots (s : State) : Nat :=
  match s.access.params with
  | some a => a.slots
  | none => 1

/-- R79: a start at p is excluded while an exchange runs at the serving site. At a decision record it is judged by the Access
Unit's state as that record's own handling has left it (log 52, the model's choice). -/
def State.excluded (s : State) (p : Nat) : Bool :=
  s.access.state.exchange && (reservedPosition s.slots p || reservedPosition s.slots ((p + 1) % 16))

/-- R80: the entry is a candidate for a CAMPED visit. -/
def Entry.candidate (e : Entry) : Bool := (e.status == .listed || e.status == .heard) && e.barred == 0

/-- R80: the indexes after the pointer, then from 0 up to the pointer itself. -/
def afterPointer (pointer : Nat) : List Nat :=
  (allIndexes.filter fun i => decide (pointer < i)) ++ allIndexes.filter fun i => decide (i ≤ pointer)

/-- R80: the round-robin choice, leaving out one index if any. -/
def State.roundRobin (s : State) (without : Option Nat) : Option Nat :=
  (afterPointer s.scan.pointer).find? fun i => (s.entry i).candidate && some i != without

/-- R80: the object of a visit, with the candidate pointer and watch turn flag it leaves. -/
def State.chooseObject (s : State) : Option (Nat × Nat × Bool) :=
  match s.ranking.watch with
  | none => (s.roundRobin none).map fun i => (i, i, s.scan.watchTurn)
  | some w =>
    if s.scan.watchTurn then some (w, s.scan.pointer, false)
    else
      match s.roundRobin (some w) with
      | some i => some (i, i, true)
      | none => some (w, s.scan.pointer, true)

/-- R75: a visit to an entry begins at a decision record: its identity is recorded and TUNE sent, unless its channel is the
serving channel. -/
def State.beginVisit (s : State) (i start : Nat) : State :=
  let e := s.entry i
  let s1 := s.setScan
    { s.scan with
      visit :=
        some
          { code := e.code, channel := e.channel, colour := e.colour, objectGone := false, start := start
            stage := .settle } }
  match s.serving with
  | some v => if (s.entry v).channel = e.channel then s1 else s1.tune e.channel
  | none => s1.tune e.channel

/-- R77: the start whose decision record this is, with its index in its plan: position counter + 1 of this plan, or at
counter 15 position 0 of the coming one. -/
def State.startHere (s : State) : Option (Nat × Nat) :=
  let counter := s.intake.counter
  if counter = 15 then (planIndex ((s.scan.rotation + 3) % 16) 0).map fun j => (0, j)
  else (planIndex s.scan.rotation (counter + 1)).map fun j => (counter + 1, j)

/-- R77, R87: at the decision record of a start not yet spent, the start is spent; in CAMPED its visit begins unless its
index is not below the budget, a visit is in progress, R79 excludes it or there is no candidate. -/
def State.decideStart (s : State) : State :=
  match s.startHere with
  | none => s
  | some (p, j) =>
    if s.scan.spent.contains p then s
    else
      let s1 := s.setScan { s.scan with spent := s.scan.spent ++ [p] }
      if s.roam.engine ≠ .camped ∨ s.budget ≤ j ∨ s.scan.visit.isSome = true ∨ s.excluded p = true then s1
      else
        match s1.chooseObject with
        | none => s1
        | some (i, pointer, turn) =>
          (s1.setScan { s1.scan with pointer := pointer, watchTurn := turn }).beginVisit i p

/-- R75: after the measure record the visit ends with TUNE to the serving channel, unless its object shares that channel. -/
def State.endVisit (s : State) : State :=
  match s.scan.visit with
  | some v =>
    if v.stage = .ended then
      let s1 := s.setScan { s.scan with visit := none }
      match s.serving with
      | some i => if (s.entry i).channel = v.channel then s1 else s1.tuneServing
      | none => s1
    else s
  | none => s

/-- R79, R81: a visit is abandoned: TUNE with the serving channel at once, and no further record of it is named. -/
def State.abandonVisit (s : State) : State :=
  match s.scan.visit with
  | some _ => (s.setScan { s.scan with visit := none }).tuneServing
  | none => s

/-- R79: when an exchange begins, a visit with a frame not yet taken on a reserved position is abandoned. -/
def State.exchangeBegins (s : State) : State :=
  match s.scan.visit with
  | some v =>
    let settle := reservedPosition s.slots v.start
    let measure := reservedPosition s.slots ((v.start + 1) % 16)
    let hit : Bool :=
      match v.stage with
      | .settle => settle || measure
      | .measure => measure
      | .ended => false
    if hit then s.abandonVisit else s
  | none => s

/-- R77: at a multiframe start taken in CAMPED the offset advances by 3 and a new plan replaces the old one with no start
spent, except a start at position 0 whose visit began at the record before. -/
def State.advancePlan (s : State) : State :=
  let begun : Bool :=
    match s.scan.visit with
    | some v => v.start == 0 && v.stage == .settle
    | none => false
  s.setScan { s.scan with rotation := (s.scan.rotation + 3) % 16, spent := if begun then [0] else [] }

/-! ## The records of a visit -/

/-- What a taken record is to the sequencer (R58, R60, R75, R84, R111). -/
inductive Role where
  | plain
  | settle
  | measure (v : Visit)
  deriving DecidableEq, Repr

/-- The role of the record being taken: the settle record of a visit, a hunt visit or a TUNING phase, the measure record of
a CAMPED visit, or neither. The measure record of a hunt visit is plain to the Ranking Unit (R84). -/
def State.recordRole (s : State) : Role :=
  match s.scan.visit with
  | some v =>
    match v.stage with
    | .settle => .settle
    | .measure => .measure v
    | .ended => .plain
  | none =>
    match s.scan.hunt with
    | some h => if h.stage = .settle then .settle else .plain
    | none => if s.access.state = .tuning then .settle else .plain

/-- The stage after one record of a visit has been taken (R75). -/
def Stage.next : Stage → Stage
  | .settle => .measure
  | .measure => .ended
  | .ended => .ended

/-- The record is named: the visit and the hunt visit in progress wait for their next record, and the decision record that it
is has been taken (R77, R87). -/
def State.nameRecord (s : State) : State :=
  s.setScan
    { s.scan with
      decided := decidedWith s.scan.decided s.intake.counter
      visit := s.scan.visit.map fun v => { v with stage := v.stage.next }
      hunt := s.scan.hunt.map fun h => { h with stage := h.stage.next } }

/-- R84: the measure record of a hunt visit finds a site when it has settling clear, reports the hunted channel, is synced
and has frame check PASS; the colour it found. -/
def HuntVisit.finds (h : HuntVisit) (r : Frame) : Option Nat :=
  if h.stage = .ended ∧ r.settling = false ∧ r.channel = h.channel ∧ r.check = .pass then r.sync else none

/-- R85: the hunt-listen begins at the measure record that found a site: the Watch Store belongs to its channel and colour
from that record on. -/
def State.listenIfFound (s : State) (r : Frame) : State :=
  match s.scan.hunt with
  | some h =>
    match h.finds r with
    | some colour =>
      (s.setScan
        { s.scan with
          hunt := none
          listen :=
            some
              { channel := h.channel, colour := colour, limit := s.par .readLimit, count := 0
                level := r.level } }).setOwner (some { channel := h.channel, colour := colour })
    | none => s
  | none => s

/-- R84, R86: a hunt visit whose measure record found no site is over. -/
def State.huntVisitOver (s : State) : State :=
  match s.scan.hunt with
  | some h => if h.stage = .ended then s.huntOn else s
  | none => s

/-- R85: the hunt-listen counts one frame; at the read limit it ends without an acceptance. -/
def State.listenFrame (s : State) : State :=
  match s.scan.listen with
  | some l =>
    if l.limit ≤ l.count + 1 then s.endListen
    else s.setScan { s.scan with listen := some { l with count := l.count + 1 } }
  | none => s

/-- R86: at a multiframe start in DIRECT the pace flag changes; where it was set, a hunt visit falls due, and begins when the
call state is IDLE, the hunt list holds an item and no hunt visit or hunt-listen is in progress. A hunt visit or hunt-listen that
ends at this very record, by its measure record, its read limit or a declined acceptance, is still in progress for it (log 29, the
model's choice); `listening` says that a hunt-listen was when the record was taken. -/
def State.directPace (s : State) (listening : Bool) : State :=
  let s1 := s.setScan { s.scan with pace := !s.scan.pace }
  if s.scan.pace = true ∧ s.call.call = .idle ∧ s.scan.hunt = none ∧ s.scan.listen = none ∧ listening = false then
    s1.beginHuntVisit
  else s1

/-- R83: while the hunt list is empty it is built again at each multiframe start. -/
def State.rebuildEmpty (s : State) : State := if s.scan.huntList.isEmpty then s.buildHuntList else s

/-- The sequencer's work at the end of a taken record's handling. `engine0` is the engine state in which the record was
taken (log 12), `listening` whether a hunt-listen was in progress then, `multiframe` whether it is a multiframe start. Where a rebuilt
hunt list holds an item again, the hunt visit begins at the rebuilding record in HUNT, and in DIRECT the list is built before the
due visit is judged (R83; log 41, the model's choice). -/
def State.scanRecord (s : State) (engine0 : Engine) (listening multiframe : Bool) : State :=
  match engine0 with
  | .camped => s.decideStart.endVisit
  | .hunt =>
    if s.roam.engine = .hunt then
      let s1 :=
        if multiframe = true ∧ s.scan.huntList.isEmpty = true ∧ s.scan.hunt = none ∧ s.scan.listen = none then
          s.buildHuntList.beginHuntVisit
        else s
      let s2 := s1.huntVisitOver
      if listening then s2.listenFrame else s2
    else s
  | .direct =>
    if s.roam.engine = .direct then
      let s1 := if multiframe then s.rebuildEmpty.directPace listening else s
      let s2 := s1.huntVisitOver
      if listening then s2.listenFrame else s2
    else s
  | _ => s

end Sys2Proof.Machine
end

