-- ==== Sys2Proof/Machine/AccessUnit.lean ====
section
/-! DEFINITION. The Access Unit's shared operations (section 7): its context, the backoff generator, contention and bursts,
exchanges at the serving site, and what the unit reads of a record. -/

namespace Sys2Proof.Machine

/-! ## Context -/

/-- R122, R127: the context is cleared and the unit is IDLE; the generator and the counters stand. -/
def AccessUnit.idle (a : AccessUnit) : AccessUnit :=
  { AccessUnit.reset with generator := a.generator, collisions := a.collisions, missedSlots := a.missedSlots }

/-- The unit goes to IDLE. -/
def State.accessIdle (s : State) : State := s.setAccess s.access.idle

/-- R126: a continuation or affiliation exchange in progress is abandoned: every SENT entry returns to UNSENT, any burst
outstanding is cleared, and the unit goes to IDLE. -/
def State.abandonWork (s : State) : State :=
  if s.access.state.exchange then s.returnSent.accessIdle else s

/-- R110: the fallback access parameters. -/
def fallbackParams : AccessParams := { slots := 1, window := 8 }

/-- R110: the access parameters of an entry's digest, when present with source OWN BEACON. -/
def Entry.accessParams (e : Entry) : Option AccessParams :=
  e.own.map fun o => { slots := o.slots, window := o.window }

/-- R110: the slot count and backoff window of a registration: the last watch beacon when it names the target (a beacon
accepted in READING is that), else the target's OWN BEACON digest, else the fallback. -/
def State.registrationParams (s : State) : AccessParams :=
  let digest : Option AccessParams :=
    match s.findCode s.access.target with
    | some i => (s.entry i).accessParams
    | none => none
  match s.beacon.lastWatch with
  | some b =>
    if b.code = s.access.target then { slots := b.slots, window := b.window } else digest.getD fallbackParams
  | none => digest.getD fallbackParams

/-- R110: the access parameters of an exchange at the serving site. -/
def State.servingParams (s : State) : AccessParams :=
  match s.serving with
  | some i => (s.entry i).accessParams.getD fallbackParams
  | none => fallbackParams

/-! ## Backoff -/

/-- R115: one step of the generator: the exclusive-or of bits 0, 2, 3 and 5 goes into bit 15 of the value shifted right. -/
def generatorStep (g : BitVec 16) : BitVec 16 :=
  let t := (g.getLsbD 0 ^^ g.getLsbD 2) ^^ (g.getLsbD 3 ^^ g.getLsbD 5)
  (g >>> 1) ||| (if t then 0x8000#16 else 0#16)

/-- R115: the seed: the low 16 bits of the identity, or 0xACE1 when they are all zero. -/
def generatorSeed (identity : Identity) : BitVec 16 :=
  let low : BitVec 16 := identity.setWidth 16
  if low = 0#16 then 0xACE1#16 else low

/-- The backoff window W in use (R110). -/
def State.window (s : State) : Nat :=
  match s.access.params with
  | some a => a.window
  | none => fallbackParams.window

/-- R115: a draw steps the generator once and gives b = (g mod W) + 1. Before the seed no rule gives a value: the backoff
count is then a free value (log 21). -/
def State.draw (s : State) : State :=
  match s.access.generator with
  | some g =>
    let g1 := generatorStep g
    s.setAccess { s.access with generator := some g1, backoff := g1.toNat % s.window + 1 }
  | none => (s.setAccess { s.access with backoff := Config.unseededDraw s.free % s.window + 1 }).nextFree

/-! ## Slots and bursts -/

/-- R114: with N slots the slot positions are the odd positions 1 to 2N - 1. -/
def slotPosition (n p : Nat) : Bool := p % 2 == 1 && decide (p < 2 * n)

/-- R116, 12.1: the REGISTER payload. -/
def State.registerPayload (s : State) : List Byte :=
  be24 ((s.groups.identity.getD 0).toNat) ++ be16 s.access.previous
    ++ [byte s.groups.groups.length, boolByte s.call.emergency]

/-- A burst is sent and becomes the burst outstanding, with the group entries it carries (R116, R124, R125). -/
def State.sendBurst (s : State) (position : Nat) (kind : BurstKind) (carried : List Nat) (payload : List Byte) : State :=
  (s.setAccess { s.access with outstanding := some { position := position, carried := carried } }).issue
    (.burst position kind payload)

/-- R124, R125: a burst that carries the next UNSENT entries, which become SENT. -/
def State.sendGroups (s : State) (position : Nat) (kind : BurstKind) : State :=
  let carried := s.nextCarried
  (s.sendBurst position kind carried (s.groupPayload carried)).markSent carried

/-- R116: one attempt is counted. -/
def State.countAttempt (s : State) : State := s.setAccess { s.access with attempts := s.access.attempts + 1 }

/-- R116 step 2, R125: when b is 1, the next position is a slot position and attempts are left, the burst is sent. -/
def State.sendIfDue (s : State) : State :=
  match s.access.sitePosition with
  | some p =>
    let next := (p + 1) % 16
    if s.access.outstanding = none ∧ s.access.backoff = 1 ∧ slotPosition s.slots next = true
        ∧ s.access.attempts < s.access.attemptLimit then
      if s.access.state = .affiliating then s.countAttempt.sendGroups next .affiliate
      else s.countAttempt.sendBurst next .register [] s.registerPayload
    else s
  | none => s

/-- R116 step 1: at a slot position with b above 0, b decreases by one. -/
def State.countSlot (s : State) : State :=
  match s.access.sitePosition with
  | some p =>
    if slotPosition s.slots p = true ∧ 0 < s.access.backoff then
      s.setAccess { s.access with backoff := s.access.backoff - 1 }
    else s
  | none => s

/-- R116: the countdown at a record at which no burst is outstanding and the site position is known. -/
def State.countdown (s : State) : State := s.countSlot.sendIfDue

/-- R116: a draw made at a record is followed in the same handling by step 2. -/
def State.drawAtRecord (s : State) : State := s.draw.sendIfDue

/-! ## Exchanges at the serving site -/

/-- R109: an exchange that begins from IDLE takes its site position from the local frame counter in TRACKING. -/
def State.positionFromIdle (s : State) : Option Nat :=
  if s.intake.timing = .tracking then some s.intake.counter else none

/-- R125: an affiliation exchange begins: the limits are copied, N and W fixed, the attempt count 0 and a draw made; R79
judges a visit in progress. -/
def State.beginExchange (s : State) (sitePosition : Option Nat) : State :=
  (s.setAccess
    { s.access.idle with
      state := .affiliating, attemptLimit := s.par .attemptLimit, grantWait := s.par .grantWait
      params := some s.servingParams, sitePosition := sitePosition }).draw.exchangeBegins

/-- R124: after the group work of a record the unit goes to AFFILIATING when any group is UNSENT, and to IDLE otherwise. The
site position is kept (R109, log 19). A CONTINUE burst still outstanding is dropped (log 42, the model's choice). -/
def State.affiliateOrIdle (s : State) : State :=
  if s.anyUnsent then (s.beginExchange s.access.sitePosition).sendIfDue else s.accessIdle

/-- R124: after ACCEPT with continuation count c. -/
def State.afterAccept (s : State) (count : Nat) : State :=
  if count = 0 then s.affiliateOrIdle
  else
    s.setAccess
      { s.access.idle with
        state := .continuing, grantWait := s.par .grantWait, params := s.access.params
        sitePosition := s.access.sitePosition, reserved := count }

/-! ## What the unit reads of a record -/

/-- The record carries a pair: settling clear, synced, on its channel with its colour (R19, R32, R109). -/
def Frame.carries (r : Frame) (p : Pair) : Bool := !r.settling && r.channel == p.channel && r.sync == some p.colour

/-- R32: a serving sync record. -/
def State.servingSync (s : State) (r : Frame) : Bool :=
  match s.serving with
  | some i => r.carries (s.entry i).pair
  | none => false

/-- R109: a site sync record of the target. -/
def State.targetSync (s : State) (r : Frame) : Bool :=
  s.access.state.registering &&
    match s.findCode s.access.target with
    | some i => r.carries (s.entry i).pair
    | none => false

/-- R109: the site position at a taken record: a known one advances, and a site sync record sets it. -/
def State.trackSite (s : State) (r : Frame) (sync : Bool) : State :=
  let advanced := s.access.sitePosition.map fun p => (p + 1) % 16
  s.setAccess { s.access with sitePosition := if sync then some r.position else advanced }

/-- R111: the site position becomes unknown at each TUNING phase and the settle record sets none. -/
def State.inTuning (s : State) : Bool := s.access.state == .tuning

/-! ## The echo -/

/-- R114: the echo position of a burst's slot. -/
def Burst.echoPosition (b : Burst) : Nat := (b.position + 1) % 16

/-- R114: the inbound slot of a burst's position. -/
def Burst.slot (b : Burst) : Nat := (b.position - 1) / 2

/-- R118: the record is the one at which the outstanding burst's echo is judged: its site position is neither the slot
position nor the one before it. -/
def State.judgesEcho (s : State) (b : Burst) : Bool :=
  match s.access.sitePosition with
  | some p => p != b.position && (p + 1) % 16 != b.position
  | none => false

/-- What a record brings the Access Unit: the ECHO block it may judge, the GRANT block and the AFFIL ACK that passed the
filter, the accepted watch beacon, and whether the record is a site sync record (R37, R118, R129, R132, R51). -/
structure AccessInput where
  echo : Option (Identity × Nat)
  grant : Option Grant
  ack : Bool
  beacon : Option Summary
  sync : Bool
  multiframe : Bool
  deriving DecidableEq, Repr

/-- The echo outcomes (R118). -/
inductive EchoOutcome where
  | won
  | wonByGrant (grant : Grant)
  | lost
  | collided
  deriving DecidableEq, Repr

/-- R118: the judgement of the echo record of a burst; in an affiliation exchange a GRANT is a LOST echo (R125). -/
def State.judgeEcho (s : State) (b : Burst) (input : AccessInput) : EchoOutcome :=
  if s.access.sitePosition = some b.echoPosition ∧ input.sync = true then
    match input.echo, input.grant with
    | some (radio, slot), _ =>
      if some radio = s.groups.identity then (if slot = b.slot then .won else .lost) else .collided
    | none, some g => if s.access.state = .affiliating then .lost else .wonByGrant g
    | none, none => .lost
  else .lost

/-- R118, R125: a burst outstanding is cleared, and the entries an affiliation burst carried return to UNSENT when it is
lost. -/
def State.burstLost (s : State) (b : Burst) : State :=
  (s.setAccess { s.access with outstanding := none }).returnCarried b.carried

/-- R118: the collision counter rises at an echo naming another radio. -/
def State.countCollision (s : State) : State := s.setAccess { s.access with collisions := sat16 s.access.collisions }

/-! ## BURST DONE -/

/-- R117, R124: a MISSED burst: it is cleared, the entries it carried return to UNSENT and the missed-slot counter rises; in
contention the attempt is taken back and a new draw is made. -/
def State.burstMissed (s : State) (b : Burst) : State :=
  let s1 := s.burstLost b
  let s2 := s1.setAccess { s1.access with missedSlots := sat16 s1.access.missedSlots }
  if s.access.state = .continuing then s2
  else (s2.setAccess { s2.access with attempts := s2.access.attempts - 1 }).draw

/-- R117: a BURST DONE is acted on when its position is that of the burst outstanding, and ignored otherwise. A CONTINUE
burst is cleared by it (R124). -/
def State.burstDone (s : State) (position : Nat) (missed : Bool) : State :=
  match s.access.outstanding with
  | some b =>
    if b.position = position then
      if missed then s.burstMissed b
      else if s.access.state = .continuing then s.setAccess { s.access with outstanding := none }
      else s
    else s
  | none => s

end Sys2Proof.Machine
end

