-- ==== Sys2Proof/Machine/Recall.lean ====
section
/-! DEFINITION. The Recall Area (section 10): the writer, RECALL CLEAR, the build of the recall list, and what a reset or an
interruption does to it. -/

namespace Sys2Proof.Machine

/-- R150: a request is started by an idle writer: nothing when the newest valid slot holds the same site, a write into the
slot whose index equals the fill count, or at a full page an erase with the request pending. -/
def RecallArea.startRequest (a : RecallArea) (site : Site) : RecallArea :=
  if newestValid a.page a.fill = some site then a
  else if a.fill < slotCount then { a with writer := .writing site }
  else { a with writer := .erasing, pendingWrite := some site }

/-- R150: an append request is started at once, or becomes the pending write while the writer is busy. -/
def RecallArea.append (a : RecallArea) (site : Site) : RecallArea :=
  match a.writer with
  | .idle => a.startRequest site
  | _ => { a with pendingWrite := some site }

/-- R150: the next work of a writer that has become idle: a requested erase, else the pending write. -/
def RecallArea.nextWork (a : RecallArea) : RecallArea :=
  if a.clearRequested then { a with clearRequested := false, writer := .erasing }
  else
    match a.pendingWrite with
    | some site => { a with pendingWrite := none }.startRequest site
    | none => a

/-- A slot content that is torn: one of the free values that are (R149), else a fixed one; the free value ranges over every
torn content (log 14). -/
def tornSlot (k : Nat) : List Byte :=
  let b := (Config.tornBytes k).take slotSize
  if b.length = slotSize ∧ slotBlank b = false ∧ crc8 (b.take 5) ≠ at8 b 5 then b else [0, 0, 0, 0, 0, 1]

/-- R150: a write runs to its completion: the slot holds the request, or is torn when the write has failed; the fill count
increases by one. -/
def RecallArea.finishWrite (a : RecallArea) (k : Nat) (site : Site) : RecallArea :=
  let content := if Config.writeFails k then tornSlot k else slotBytes site
  { a with page := writeSlot a.page a.fill content, fill := a.fill + 1, writer := .idle }.nextWork

/-- R150: an erase runs to its completion: every slot is blank and the fill count is 0. -/
def RecallArea.finishErase (a : RecallArea) : RecallArea :=
  { a with page := [], fill := 0, writer := .idle }.nextWork

/-- R151: RECALL CLEAR. A second one while the clear-requested flag is set discards a write that has become pending since
(log 49, the model's choice). -/
def RecallArea.clear (a : RecallArea) : RecallArea :=
  match a.writer with
  | .idle => { a with pendingWrite := none, writer := .erasing }
  | .writing _ => { a with pendingWrite := none, clearRequested := true }
  | .erasing => { a with pendingWrite := none }

/-- R153: what a write ended unfinished leaves in its slot: blank, torn, or valid when the write had finished. -/
def interruptedSlot (k : Nat) (site : Site) : List Byte :=
  if Config.interruptedWrite k % 3 = 0 then List.replicate slotSize blankByte
  else if Config.interruptedWrite k % 3 = 1 then tornSlot k
  else slotBytes site

/-- R153: what an erase ended unfinished leaves: each slot blank or as it was. -/
def interruptedErase (k : Nat) (page : List Host.Cell) : List Host.Cell :=
  (List.range slotCount).foldl
    (fun m i => if Config.eraseReached k i then writeSlot m i (List.replicate slotSize blankByte) else m) page

/-- R153: power loss or RSTN ends the operation in flight unfinished. -/
def RecallArea.interrupt (a : RecallArea) (k : Nat) : RecallArea :=
  match a.writer with
  | .idle => a
  | .writing site => { a with page := writeSlot a.page a.fill (interruptedSlot k site), writer := .idle }
  | .erasing => { a with page := interruptedErase k a.page, writer := .idle }

/-- R152: the recall list a page gives. -/
def recallListOf (page : List Host.Cell) : List Site := buildRecallList page (usedPrefix page) []

/-- R152, R153: the Recall Area at power-on or when RSTN returns high: an unsound page is erased at once, its fill count
taken as 32 and the list empty; else the fill count and the list are read from the page. -/
def RecallArea.powerOn (a : RecallArea) : RecallArea :=
  if pageUnsound a.page then
    { page := a.page, fill := slotCount, writer := .erasing, pendingWrite := none, clearRequested := false, list := [] }
  else
    { page := a.page, fill := usedPrefix a.page, writer := .idle, pendingWrite := none, clearRequested := false
      list := recallListOf a.page }

/-- R152, R153: the Recall Area at a soft reset: a write or erase in flight runs on; during an erase the fill count is taken
as 32 and the list is empty. The pending write is discarded and the clear-requested flag cleared. -/
def RecallArea.softReset (a : RecallArea) : RecallArea :=
  match a.writer with
  | .erasing =>
    { page := a.page, fill := slotCount, writer := .erasing, pendingWrite := none, clearRequested := false, list := [] }
  | .writing site => { a.powerOn with writer := .writing site }
  | .idle => a.powerOn

end Sys2Proof.Machine
end

