-- ==== Sys2Proof/Machine/SiteTable.lean ====
section
/-! DEFINITION. The Site Table (section 1): identity, eviction, the six paths of admission, bars, ageing and decay. -/

namespace Sys2Proof.Machine

/-! ## Identity and eviction -/

/-- R5: a pair clash: an occupied entry other than the code match holds both the channel and the colour. -/
def State.pairClash (s : State) (codeMatch : Option Nat) (p : Pair) : Bool :=
  allIndexes.any fun i => (s.entry i).occupied && (s.entry i).pair == p && some i != codeMatch

/-- R14: the entry may be evicted; `kept` are the entries admitted by the import or START in progress. -/
def State.evictable (s : State) (kept : List Nat) (i : Nat) : Bool :=
  let e := s.entry i
  e.occupied && e.origin != .pinned && e.status != .serving && s.ranking.watch != some i && !s.isTarget e
    && !kept.contains i

/-- R14: the entry eviction chooses: the evictable LISTED entry of highest index, or the evictable HEARD entry of lowest
score, ties going to the highest index. -/
def State.victim (s : State) (kept : List Nat) : Option Nat :=
  match (allIndexes.filter fun i => s.evictable kept i && (s.entry i).status == .listed).getLast? with
  | some i => some i
  | none => s.lowest (allIndexes.filter fun i => s.evictable kept i && (s.entry i).status == .heard)

/-- R8, R10, R11, R13: a new site takes the FREE entry of lowest index, or the entry eviction chooses. -/
def State.placeFor (s : State) (kept : List Nat) : Option Nat :=
  match allIndexes.find? fun i => !(s.entry i).occupied with
  | some i => some i
  | none => s.victim kept

/-- A newly admitted entry: LISTED, with all counts and timers 0 (R8, R10, R11, R13). -/
def newEntry (code : Nat) (p : Pair) (origin : Origin) (preference : Int) (digest : Option Digest) : Entry :=
  { Entry.free with
    status := .listed, code := code, channel := p.channel, colour := p.colour, origin := origin
    preference := preference, digest := digest }

/-- R6: an occupied entry takes a channel and colour. When they differ from those it holds, its measurements fall away and
it becomes LISTED; the rest of the entry is kept. -/
def State.takePair (s : State) (i : Nat) (p : Pair) : State :=
  if (s.entry i).pair = p then s
  else (s.setEntry i { s.entry i with channel := p.channel, colour := p.colour }).fallToListed i

/-! ## LOAD SITE -/

/-- R4: a preference clamped to -32..+31. -/
def clampPreference (p : Int) : Int := max (-32) (min p 31)

/-- What LOAD SITE answers (R7): the reply code, and the entry's index when it was taken. -/
structure LoadAnswer where
  code : ReplyCode
  index : Option Nat
  deriving DecidableEq, Repr

/-- R7 and R8: a LOAD SITE whose fields are in range. -/
def State.loadSite (s : State) (code : Nat) (p : Pair) (preference : Int) (pinned : Bool) : State × LoadAnswer :=
  let clamped := clampPreference preference
  let answer : ReplyCode := if clamped = preference then .ok else .adjusted
  match s.findCode code with
  | some i =>
    let e := s.entry i
    if ((e.status = .serving ∨ s.isTarget e = true) ∧ e.pair ≠ p) ∨ s.pairClash (some i) p = true then
      (s, { code := .inUse, index := none })
    else
      let s1 := s.takePair i p
      let e1 := s1.entry i
      (s1.setEntry i { e1 with preference := clamped, origin := if pinned then .pinned else e1.origin },
        { code := answer, index := some i })
  | none =>
    if s.pairClash none p then (s, { code := .inUse, index := none })
    else
      match s.placeFor [] with
      | some i =>
        (s.replaceEntry i (newEntry code p (if pinned then .pinned else .found) clamped none),
          { code := answer, index := some i })
      | none => (s, { code := .full, index := none })

/-! ## Neighbour import -/

/-- R9: the digest a neighbour item writes. -/
def neighbourDigest (item : Neighbour) : Digest :=
  { load := item.load, isolated := item.isolated, own := none, age := 0 }

/-- The entry's digest replaced (R54). -/
def State.writeDigest (s : State) (i : Nat) (d : Digest) : State := s.setEntry i { s.entry i with digest := some d }

/-- R9 and R10: one item of a neighbour list; `kept` are the entries this import has admitted. -/
def State.importItem (s : State) (kept : List Nat) (item : Neighbour) : State × List Nat :=
  let p : Pair := { channel := item.channel, colour := item.colour }
  if item.code = 0 then (s.countSkip, kept)
  else
    match s.findCode item.code with
    | some i =>
      let e := s.entry i
      if e.status = .serving then (s, kept)
      else if e.pair = p ∨ s.isTarget e = true then (s.writeDigest i (neighbourDigest item), kept)
      else if s.pairClash (some i) p then (s.countConflict, kept)
      else ((s.takePair i p).writeDigest i (neighbourDigest item), kept)
    | none =>
      if s.pairClash none p then (s.countConflict, kept)
      else
        match s.placeFor kept with
        | some i => (s.replaceEntry i (newEntry item.code p .neighbour 0 (some (neighbourDigest item))), i :: kept)
        | none => (s.countSkip, kept)

/-- R9 and R10: the items in list order, from the first to the last. -/
def State.importItems : State → List Nat → List Neighbour → State
  | s, _, [] => s
  | s, kept, item :: rest =>
    let r := s.importItem kept item
    State.importItems r.1 r.2 rest

/-! ## Found-site admission -/

/-- The three outcomes of a found-site admission (R11). -/
inductive Admission where
  | admitted (index : Nat)
  | conflict
  | full
  deriving DecidableEq, Repr

/-- R3: an existing entry becomes FOUND unless it is PINNED. -/
def foundOrigin (o : Origin) : Origin := if o = .pinned then .pinned else .found

/-- R11: the found-site admission that hunt acceptance, MOVE and REDIRECT ask for. -/
def State.admitFound (s : State) (code : Nat) (p : Pair) : State × Admission :=
  match s.findCode code with
  | some i =>
    let e := s.entry i
    if s.pairClash (some i) p = true ∨ ((e.status = .serving ∨ s.isTarget e = true) ∧ e.pair ≠ p) then
      (s.countConflict, .conflict)
    else if e.status = .serving ∨ s.isTarget e = true then (s, .admitted i)
    else
      let s1 := s.takePair i p
      (s1.setEntry i { s1.entry i with origin := foundOrigin (s1.entry i).origin }, .admitted i)
  | none =>
    if s.pairClash none p then (s.countConflict, .conflict)
    else
      match s.placeFor [] with
      | some i => (s.replaceEntry i (newEntry code p .found 0 none), .admitted i)
      | none => (s, .full)

/-! ## Recalled sites -/

/-- R13: one recalled site; `kept` are the entries this START has admitted. -/
def State.recallItem (s : State) (kept : List Nat) (item : Site) : State × List Nat :=
  let p : Pair := { channel := item.channel, colour := item.colour }
  match s.findCode item.code with
  | some _ => (s, kept)
  | none =>
    if s.pairClash none p then (s.countConflict, kept)
    else
      match s.placeFor kept with
      | some i => (s.replaceEntry i (newEntry item.code p .recalled 0 none), i :: kept)
      | none => (s.countSkip, kept)

/-- R13: the recalled sites in recall-list order. -/
def State.recallItems : State → List Nat → List Site → State
  | s, _, [] => s
  | s, kept, item :: rest =>
    let r := s.recallItem kept item
    State.recallItems r.1 r.2 rest

/-! ## DROP SITE -/

/-- R16: an entry cleared to FREE, with the watch if it was the watch candidate; a visit for its site loses its object. -/
def State.freeEntry (s : State) (i : Nat) : State := (s.replaceEntry i Entry.free).dwellCleared i

/-! ## Bars -/

/-- R20: a bar of the requested time, or of the active bar time when 0 is requested. A code that no occupied entry holds, or
the SERVING entry's, is not applied. The bar sets the dwell count to 0 (R68). -/
def State.bar (s : State) (code requested : Nat) : State :=
  match s.findCode code with
  | some i =>
    let e := s.entry i
    if e.status = .serving then s
    else
      (s.setEntry i
        { e with barred := if requested = 0 then s.par .barTime else requested, dwell := 0 }).dwellCleared i
  | none => s

/-! ## The serving entry -/

/-- R17: the SERVING entry becomes HEARD with the given penalty; its barred timer is 0 while it serves. -/
def State.endServing (s : State) (penalty : Nat) : State :=
  match s.serving with
  | some i => s.setEntry i { s.entry i with status := .heard, barred := 0, penalty := penalty }
  | none => s

/-- R17: the target becomes SERVING with heard age, barred timer and departure penalty 0. -/
def State.beginServing (s : State) (i : Nat) : State :=
  s.setEntry i { s.entry i with status := .serving, heardAge := 0, barred := 0, penalty := 0 }

/-- R68, R70: every dwell count becomes 0, and the watch with them. -/
def State.clearAllDwell (s : State) : State := (s.mapEntries fun e => { e with dwell := 0 }).clearWatch

/-! ## Multiframe starts -/

/-- R18: the heard age one higher, stopping at 255. -/
def Entry.aged (e : Entry) : Entry :=
  if e.occupied = true ∧ e.status ≠ .serving then { e with heardAge := min (e.heardAge + 1) 255 } else e

/-- R18: the entry, aged, is HEARD with an age at or above the limit. -/
def Entry.reachesAge (limit : Nat) (e : Entry) : Bool := e.status == .heard && decide (limit ≤ e.aged.heardAge)

/-- R18: the heard ageing of one entry: its age rises, and a HEARD entry at or above the limit falls to LISTED. -/
def State.ageEntry (s : State) (i : Nat) : State :=
  let e := s.entry i
  let s1 := s.setEntry i e.aged
  if e.reachesAge (s.par .heardAgeLimit) then s1.fallToListed i else s1

/-- R18: the heard ageing of every entry, in index order. -/
def State.ageEntries (s : State) : State := allIndexes.foldl State.ageEntry s

/-- R21: a barred timer above 0 decreases by one. -/
def Entry.barTick (e : Entry) : Entry := { e with barred := e.barred - 1 }

/-- R22: the decay counter rises; at or above the interval it is set to 0 and every penalty above 0 falls by one. -/
def State.decayTick (s : State) : State :=
  if s.par .decayInterval ≤ s.table.decay + 1 then
    (s.setTable { s.table with decay := 0 }).mapEntries fun e => { e with penalty := e.penalty - 1 }
  else s.setTable { s.table with decay := s.table.decay + 1 }

/-- R55: a digest's age rises, stopping at 255; at or above the limit the digest becomes absent. -/
def Entry.digestTick (limit : Nat) (e : Entry) : Entry :=
  match e.digest with
  | some d =>
    let age := min (d.age + 1) 255
    if limit ≤ age then { e with digest := none } else { e with digest := some { d with age := age } }
  | none => e

/-- R18, R21, R22, R55: the Site Table's and the digests' work at a multiframe start. -/
def State.tableMultiframe (s : State) : State :=
  let s1 := s.ageEntries
  let s2 := s1.mapEntries Entry.barTick
  let s3 := s2.decayTick
  s3.mapEntries (Entry.digestTick (s3.par .digestAgeLimit))

end Sys2Proof.Machine
end

