-- ==== Sys2Proof/Machine/RoamEngine.lean ====
section
/-! DEFINITION. The Roam Engine (section 6): changes of engine state, the start of a registration, serving loss, triggers,
MOVE, hunt acceptance, the outcomes of a registration and the hunt timer. -/

namespace Sys2Proof.Machine

/-! ## Engine state -/

/-- R141: TXINH is asserted while the engine is HUNT or REGISTERING. -/
def Engine.inhibits : Engine → Bool
  | .hunt => true
  | .registering => true
  | _ => false

/-- R89, R90, R141: the engine enters a state: TXINH follows in the same handling, and one ENGINE STATE event is sent. -/
def State.enterEngine (s : State) (new : Engine) (cause : EngineCause) : State :=
  ((s.setRoam { s.roam with engine := new }).setPins { s.pins with txinh := new.inhibits }).event
    (.engineState s.roam.engine new cause new.inhibits)

/-- R84, R87: the engine enters HUNT: the hunt list is built and the first hunt visit begins at once. -/
def State.enterHunt (s : State) (cause : EngineCause) : State :=
  ((s.scanIdle.setOwner none).enterEngine .hunt cause).buildHuntList.beginHuntVisit

/-- R86, R87: the engine enters DIRECT: the hunt list is built, the pace flag cleared and TUNE sent with the direct
channel. -/
def State.enterDirect (s : State) (cause : EngineCause) : State :=
  let s1 := ((s.scanIdle.setOwner none).enterEngine .direct cause).buildHuntList
  (s1.setScan { s1.scan with pace := false }).tune (s1.par .directChannel)

/-- The watch candidate's channel and colour (R44). -/
def State.watchPair (s : State) : Option Pair := s.ranking.watch.map fun i => (s.entry i).pair

/-- R34, R73: on entry to CAMPED the serving loss counter and the report counter become 0. -/
def State.clearCampedCounts (s : State) : State :=
  (s.setIntake { s.intake with loss := 0 }).setRanking { s.ranking with reportCount := 0 }

/-- R87, R103: the engine returns to CAMPED on the previous serving site. -/
def State.returnToCamped (s : State) : State :=
  let s1 := (s.scanIdle.enterEngine .camped .outcome).tuneServing.clearCampedCounts.rebuildPlan
  s1.setOwner s1.watchPair

/-! ## Starting a registration -/

/-- R54: the digest of age 0 that a beacon writes. -/
def ownDigest (b : Summary) : Digest :=
  { load := b.load, isolated := b.isolated
    own := some { closed := b.closed, emergencyOnly := b.emergencyOnly, slots := b.slots, window := b.window }, age := 0 }

/-- R112: the target's digest is present with source OWN BEACON and age 0. -/
def Entry.freshOwnDigest (e : Entry) : Bool :=
  match e.digest with
  | some d => d.own.isSome && d.age == 0
  | none => false

/-- R112: READING is skipped for a target the Watch Store already belongs to whose OWN BEACON digest has age 0. -/
def State.alreadyRead (s : State) (e : Entry) : Bool := s.beacon.owner == some e.pair && e.freshOwnDigest

/-- R108: the fresh registration context. -/
def State.registrationContext (s : State) (target previous : Nat) (skip : Bool) : AccessUnit :=
  { s.access.idle with
    state := .tuning, target := target, previous := previous, attemptLimit := s.par .attemptLimit
    grantWait := s.par .grantWait, readLimit := s.par .readLimit
    registrationLimit := s.par .registrationLimit, skipReading := skip }

/-- R99, R100, R108: a registration starts with the entry as target. `previous` is the site code of the entry that stays
SERVING, if there is one. -/
def State.startRegistration (s : State) (i : Nat) (reason : Reason) (previous : Option Nat) (cause : EngineCause) :
    State :=
  let e := s.entry i
  let skip := reason == .hunt || reason == .move || s.alreadyRead e
  let s1 := s.abandonWork.scanIdle
  let s2 := s1.setRoam { s1.roam with previous := previous, reason := some reason, enteredFrom := s.roam.engine }
  let s3 := (s2.enterEngine .registering cause).setOwner (some e.pair)
  (s3.setAccess (s3.registrationContext e.code (previous.getD 0) skip)).tune e.channel

/-- The site code of the SERVING entry, as the previous serving site of a registration (R99). -/
def State.previousServing (s : State) : Option Nat := s.serving.map fun i => (s.entry i).code

/-! ## Serving loss -/

/-- R33, R34: a SERVING LOST trigger is raised: the timing reference becomes HOLDOVER and the serving loss counter 0. -/
def State.raiseLost (s : State) : State := s.setIntake { s.intake with loss := 0, timing := .holdover }

/-- R50, R68, R71, R92, R96: what serving loss and STOP clear beside the serving entry: the dwell counts and the watch, the
weak count and its flag, the Serving Store and the last serving beacon, and the group delivery states. -/
def State.clearServingWork (s : State) : State :=
  let s1 := s.clearAllDwell
  let s2 := s1.setRanking { s1.ranking with weakCount := 0, weakReported := false }
  (s2.setBeacon { s2.beacon with servingStore := Store.cleared, lastServing := none }).allUnsent

/-- R105: the hunt timer becomes 0 and the hunt expiry flag clear. -/
def State.restartHunt (s : State) : State := s.setRoam { s.roam with huntTimer := 0, expired := false }

/-- R96: the Roam Engine acts on a SERVING LOST trigger in CAMPED, and discards it in any other state. -/
def State.takeLost (s : State) (cause : EngineCause) : State :=
  if s.roam.engine = .camped then
    let lost := s.serving
    let s1 := s.setPins { s.pins with txinh := true }
    let s2 := (s1.abandonWork.endServing 0).clearServingWork.restartHunt
    match s2.bestEligible lost with
    | some i => s2.startRegistration i .loss none cause
    | none => s2.enterHunt cause
  else s

/-! ## Triggers -/

/-- A trigger of the Ranking Unit with its target's site code (R67, R72). -/
inductive Trigger where
  | dwell (target : Nat)
  | urgent (target : Option Nat)
  deriving DecidableEq, Repr

/-- R93: a DWELL trigger is permitted. -/
def State.permitsDwell (s : State) : Bool :=
  !s.roam.hold &&
    match s.call.call with
    | .idle => true
    | .receiving => s.isOn .roamInCall
    | .transmitting => false

/-- R93: an URGENT trigger is permitted. -/
def State.permitsUrgent (s : State) : Bool := !s.roam.hold && s.call.call != .transmitting

/-- A registration with the entry that holds a site code, from CAMPED (R99). A trigger acted on late whose target the same
record's neighbour import has evicted falls away (log 40, the model's choice). -/
def State.roamFromCamped (s : State) (target : Nat) (reason : Reason) : State :=
  match s.findCode target with
  | some i => s.startRegistration i reason s.previousServing .registration
  | none => s

/-- R93, R95: a DWELL or URGENT trigger is acted on, declined, or discarded when the engine is not CAMPED. -/
def State.takeTrigger (s : State) (t : Trigger) : State :=
  if s.roam.engine = .camped then
    match t with
    | .dwell target => if s.permitsDwell then s.roamFromCamped target .dwell else s
    | .urgent (some target) => if s.permitsUrgent then s.roamFromCamped target .urgent else s
    | .urgent none => s
  else s

/-- The triggers of one record, DWELL before URGENT (R72). -/
def State.takeTriggers (s : State) (ts : List Trigger) : State := ts.foldl State.takeTrigger s

/-! ## MOVE and hunt acceptance -/

/-- R98: a MOVE control block taken in CAMPED; in other states it is discarded. -/
def State.takeMove (s : State) (code : Nat) (p : Pair) : State :=
  if s.roam.engine = .camped then
    let ignored (t : State) (cause : MoveCause) : State := t.event (.moveIgnored code p.channel p.colour cause)
    match s.admitFound code p with
    | (s1, .admitted i) =>
      if (s1.entry i).status = .serving then ignored s1 .serving
      else if (s1.entry i).barred = 0 then s1.startRegistration i .move s1.previousServing .registration
      else ignored s1 .barred
    | (s1, .conflict) => ignored s1 .conflict
    | (s1, .full) => ignored s1 .tableFull
  else s

/-- R101: the hunt level: the filtered level of the entry that holds the listen's pair, when it has samples, and otherwise 16
times the level code of the measure record. -/
def State.huntLevel (s : State) (l : Listen) : Nat :=
  match s.findPair { channel := l.channel, colour := l.colour } with
  | some i => if (s.entry i).samples = 0 then 16 * l.level else (s.entry i).level
  | none => 16 * l.level

/-- R101: an occupied entry holds the site code and is barred. -/
def State.codeBarred (s : State) (code : Nat) : Bool :=
  match s.findCode code with
  | some i => (s.entry i).barred != 0
  | none => false

/-- R101, R12, R53: hunt acceptance of a beacon read in a hunt-listen. A declined acceptance ends the hunt-listen (R85), and the
next hunt visit begins with it, also at the multiframe start that expires the hunt timer, ahead of DIRECT (log 54, the model's
choice). -/
def State.huntAccept (s : State) (b : Summary) (l : Listen) : State :=
  let p : Pair := { channel := l.channel, colour := l.colour }
  if b.closed then
    match s.admitFound b.code p with
    | (s1, .admitted i) => ((s1.writeDigest i (ownDigest b)).bar b.code b.hold).endListen
    | (s1, _) => s1.endListen
  else if b.emergencyOnly = true ∧ s.call.emergency = false then s.endListen
  else if s.huntLevel l < 16 * s.par .entryThreshold then s.endListen
  else if s.codeBarred b.code then s.endListen
  else
    match s.admitFound b.code p with
    | (s1, .admitted i) => (s1.writeDigest i (ownDigest b)).startRegistration i .hunt none .registration
    | (s1, _) => s1.endListen

/-! ## Outcomes -/

/-- R102, R50: at ACCEPT the Serving Store takes the Watch Store, the last serving beacon the last watch beacon, and the
Watch Store is cleared with no owner. -/
def State.moveWatchStore (s : State) : State :=
  s.setBeacon
    { s.beacon with
      servingStore := s.beacon.watchStore, lastServing := s.beacon.lastWatch, watchStore := Store.cleared
      owner := none, lastWatch := none }

/-- The previous serving site and the roam reason are cleared (R102, R103). -/
def State.clearRoam (s : State) : State := s.setRoam { s.roam with previous := none, reason := none }

/-- R102, R104: the Roam Engine acts on ACCEPT with a continuation count. -/
def State.acceptRoam (s : State) (count : Nat) : State :=
  match s.findCode s.access.target with
  | some i =>
    let site := (s.entry i)
    let s1 := ((s.endServing (s.par .departurePenalty)).beginServing i).clearAllDwell
    let s2 := (s1.setRanking { s1.ranking with weakCount := 0, weakReported := false }).clearCampedCounts
    let s3 := (s2.moveWatchStore.allUnsent.scanIdle.enterEngine .camped .outcome).rebuildPlan
    let s4 := s3.event (.roamed (s.roam.previous.getD 0) i site.code s.roam.reason)
    let s5 := s4.setRecallArea
      (s4.recallArea.append { code := site.code, channel := site.channel, colour := site.colour })
    s5.clearRoam.afterAccept count
  | none => s

/-- R103: where a failed registration leads: CAMPED on the previous serving site, else DIRECT or HUNT by the expiry flag. -/
def State.leaveRegistering (s : State) : State :=
  match s.roam.previous with
  | some _ => s.returnToCamped
  | none => if s.roam.expired then s.enterDirect .outcome else s.enterHunt .outcome

/-- R103 step 1: a MISMATCH demotes the target. -/
def State.demoteTarget (s : State) (cause : FailureCause) (target : Option Nat) : State :=
  match cause, target with
  | .mismatch, some i => (s.fallToListed i).countConflict
  | _, _ => s

/-- R103, R104, R122: a registration fails with a cause and the bar it calls for: a requested time, or none. The Access Unit
is IDLE before the Roam Engine acts. -/
def State.failRoam (s : State) (cause : FailureCause) (bar : Option Nat) : State :=
  let code := s.access.target
  let s0 := s.accessIdle
  let target := s0.findCode code
  let s1 := s0.demoteTarget cause target
  let s2 :=
    match bar with
    | some t => s1.bar code t
    | none => s1
  let applied :=
    match bar, target with
    | some _, some i => (s2.entry i).barred
    | _, _ => 0
  (s2.leaveRegistering.event (.roamFailed target code cause s.roam.reason applied)).clearRoam

/-! ## The hunt timer -/

/-- R105: the hunt timer runs in HUNT, and in REGISTERING from a registration entered from HUNT. -/
def RoamEngine.huntRuns (r : RoamEngine) : Bool :=
  r.engine == .hunt || (r.engine == .registering && r.enteredFrom == .hunt)

/-- R105: the hunt timer at a multiframe start: it rises, stopping at 255; at or above the hunt limit the expiry flag is set,
and HUNT becomes DIRECT. -/
def State.huntTick (s : State) : State :=
  let s1 := s.setRoam { s.roam with huntTimer := min (s.roam.huntTimer + 1) 255 }
  if s1.par .huntLimit ≤ s1.roam.huntTimer then
    let s2 := s1.setRoam { s1.roam with expired := true }
    if s.roam.engine = .hunt then s2.enterDirect .huntLimit else s2
  else s1

/-! ## START and STOP -/

/-- R91: an accepted START: the recalled sites are admitted, the hunt timer set to 0, and the engine enters HUNT. -/
def State.startEngine (s : State) : State :=
  ((s.recallItems [] s.recallArea.list).restartHunt.clearRoam).enterHunt .start

/-- R92: STOP outside STOPPED. -/
def State.stopEngine (s : State) : State :=
  let s1 := (s.returnSent.accessIdle.endServing 0).clearServingWork
  ((s1.scanIdle.setOwner none).clearRoam).enterEngine .stopped .stop

end Sys2Proof.Machine
end

