-- ==== Sys2Proof/Machine/Registration.lean ====
section
/-! DEFINITION. The Access Unit's handling of a taken record (section 7): the phases of a registration, grants and redirects,
continuation and affiliation. -/

namespace Sys2Proof.Machine

/-! ## Tuning and reading -/

/-- R116: the registration enters CONTENDING: N and W are fixed (R110) and a draw is made at that record. -/
def State.enterContending (s : State) : State :=
  (s.setAccess { s.access with state := .contending, params := some s.registrationParams }).drawAtRecord

/-- R112, R113: the target is judged by what was read of it. -/
def State.judgeFlags (s : State) (closed emergencyOnly : Bool) (hold : Nat) : State :=
  if closed then s.failRoam .closed (some hold)
  else if emergencyOnly = true ∧ s.call.emergency = false then s.failRoam .emergencyOnly none
  else s.enterContending

/-- R113: a target beacon is judged. -/
def State.judgeBeacon (s : State) (b : Summary) : State := s.judgeFlags b.closed b.emergencyOnly b.hold

/-- R112: the judgement by the target's digest, at which no hold time is known. -/
def State.judgeDigest (s : State) : State :=
  match (s.findCode s.access.target).bind fun i => (s.entry i).own with
  | some o => s.judgeFlags o.closed o.emergencyOnly 0
  | none => s.enterContending

/-- R112: when READING is skipped the target is judged from the last watch beacon when it names the target, else from an OWN
BEACON digest, else not at all. -/
def State.judgeTarget (s : State) : State :=
  match s.beacon.lastWatch with
  | some b => if b.code = s.access.target then s.judgeBeacon b else s.judgeDigest
  | none => s.judgeDigest

/-- The wait count one higher (R113, R119, R124, R125). -/
def State.countWait (s : State) : State := s.setAccess { s.access with wait := s.access.wait + 1 }

/-! ## Grants -/

/-- R120: a redirect is followed: the entry becomes the target, and the phase TUNING. -/
def State.followRedirect (s : State) (i : Nat) : State :=
  let e := s.entry i
  let skip := s.alreadyRead e
  ((s.setAccess
    { s.access with
      state := .tuning, target := e.code, attempts := 0, backoff := 0, outstanding := none
      redirectUsed := true, params := none, sitePosition := none, wait := 0
      skipReading := skip }).setOwner (some e.pair)).tune e.channel

/-- R120: a REDIRECT grant. -/
def State.takeRedirect (s : State) (code channel colour : Nat) : State :=
  if s.access.redirectUsed then s.failRoam .redirectLoop (some 0)
  else
    match s.admitFound code { channel := channel, colour := colour } with
    | (s1, .admitted i) =>
      if (s1.entry i).status = .serving ∨ (s1.entry i).barred ≠ 0 then s1.failRoam .redirectRefused (some 0)
      else s1.followRedirect i
    | (s1, .conflict) => s1.failRoam .redirectRefused (some 0)
    | (s1, .full) => s1.failRoam .tableFull (some 0)

/-- R119: the grant is acted on: its result is one of the four, and not a QUEUED after the first. Such a QUEUED at the record
that reaches the grant wait does not hold the timeout off (log 44, the model's choice). -/
def Grant.acts (g : Grant) (queuedUsed : Bool) : Bool :=
  match g with
  | .other => false
  | .queued => !queuedUsed
  | _ => true

/-- R119: the grant results. -/
def State.takeGrant (s : State) : Grant → State
  | .accept count => s.acceptRoam count
  | .reject hold => s.failRoam .rejected (some hold)
  | .redirect code channel colour => s.takeRedirect code channel colour
  | .queued => s.setAccess { s.access with queuedUsed := true, wait := 0 }
  | .other => s

/-- R119: the wait for a grant times out: a new draw in CONTENDING while attempts are left, else failure NO ACCESS. -/
def State.grantTimeout (s : State) : State :=
  if s.access.attempts < s.access.attemptLimit then
    (s.setAccess { s.access with state := .contending }).drawAtRecord
  else s.failRoam .noAccess (some 0)

/-- R119: one record in AWAITING GRANT. -/
def State.awaitGrant (s : State) (input : AccessInput) : State :=
  let s1 := s.countWait
  match input.grant with
  | some g =>
    if g.acts s.access.queuedUsed then s1.takeGrant g
    else if s1.access.grantWait ≤ s1.access.wait then s1.grantTimeout else s1
  | none => if s1.access.grantWait ≤ s1.access.wait then s1.grantTimeout else s1

/-- R118: at WON the burst outstanding is cleared and the wait begins. -/
def State.echoWon (s : State) : State :=
  s.setAccess { s.access with state := .awaitingGrant, outstanding := none, wait := 0 }

/-- R118: at LOST a registration with no attempts left fails with NO ACCESS; else a new draw is made at that record. -/
def State.echoLost (s : State) (b : Burst) : State :=
  let s1 := s.burstLost b
  if s1.access.attemptLimit ≤ s1.access.attempts then s1.failRoam .noAccess (some 0) else s1.drawAtRecord

/-- R116, R118: one record in CONTENDING. A GRANT to the radio at the echo record is WON even when its result is none of the four,
or is a REDIRECT out of range; that grant is passed over and the wait goes on (log 55, the model's choice). -/
def State.contend (s : State) (input : AccessInput) : State :=
  match s.access.outstanding with
  | none => s.countdown
  | some b =>
    if s.judgesEcho b then
      match s.judgeEcho b input with
      | .won => s.echoWon
      | .wonByGrant g => if g.acts s.access.queuedUsed then s.echoWon.takeGrant g else s.echoWon
      | .lost => s.echoLost b
      | .collided => s.countCollision.echoLost b
    else s

/-- R111, R113, R116, R119: one record in the phase of a registration. -/
def State.registrationPhase (s : State) (input : AccessInput) : State :=
  match s.access.state with
  | .tuning =>
    match input.beacon with
    | some b => s.judgeBeacon b
    | none => if s.access.skipReading then s.judgeTarget else s.setAccess { s.access with state := .reading, wait := 0 }
  | .reading =>
    let s1 := s.countWait
    match input.beacon with
    | some b => s1.judgeBeacon b
    | none => if s1.access.readLimit ≤ s1.access.wait then s1.failRoam .unreadable (some 0) else s1
  | .contending => s.contend input
  | .awaitingGrant => s.awaitGrant input
  | _ => s

/-- R121: the registration multiframe count rises at a multiframe start. -/
def State.countMultiframe (s : State) (multiframe : Bool) : State :=
  if multiframe then s.setAccess { s.access with multiframes := s.access.multiframes + 1 } else s

/-- R121: a registration still running at or above its limit fails with cause TOO LONG. -/
def State.checkTooLong (s : State) : State :=
  if s.access.state.registering = true ∧ s.access.registrationLimit ≤ s.access.multiframes then
    s.failRoam .tooLong (some 0)
  else s

/-- The accepted watch beacon names another site than the target (R52, R121). -/
def State.mismatches (s : State) (input : AccessInput) : Bool :=
  match input.beacon with
  | some b => b.code != s.access.target
  | none => false

/-- R109, R111, R121: one taken record of a registration: the counts and the site position, then a mismatching beacon, then
the phase, then the registration limit. -/
def State.registrationRecord (s : State) (r : Frame) (input : AccessInput) : State :=
  let s1 := s.countMultiframe input.multiframe
  let s2 := if s1.inTuning then s1 else s1.trackSite r input.sync
  if s2.mismatches input then s2.failRoam .mismatch (some 0)
  else (s2.registrationPhase input).checkTooLong

/-! ## Continuation and affiliation -/

/-- R124: the wait for AFFIL ACK begins; its first counted frame is the next record, and an AFFIL ACK of this very record does
not end it (log 43, the model's choice). -/
def State.beginAckWait (s : State) : State := s.setAccess { s.access with awaitingAck := true, wait := 0 }

/-- R124: a CONTINUE burst is sent for the next reserved occurrence. -/
def State.sendContinue (s : State) : State :=
  let s1 := s.setAccess { s.access with reserved := s.access.reserved - 1, burstSent := true }
  s1.sendGroups 1 .continuation

/-- R124: the wait for AFFIL ACK times out in continuation: every SENT entry returns to UNSENT. -/
def State.continueTimeout (s : State) : State := s.returnSent.affiliateOrIdle

/-- R125: an exchange contends again with a new draw; with no burst outstanding and no entry UNSENT it ends, with no burst sent,
and the unit goes to IDLE. That the draw is made before it ends is the model's choice (log 46). -/
def State.contendAgain (s : State) : State :=
  let s1 := s.draw
  if s1.anyUnsent then s1.sendIfDue else s1.accessIdle

/-- R125: the wait for AFFIL ACK times out in an exchange: the SENT entries return to UNSENT, and a new draw is made while
attempts remain; else the exchange fails and the unit goes to IDLE. -/
def State.affiliateTimeout (s : State) : State :=
  let s1 := s.returnSent
  if s1.access.attempts < s1.access.attemptLimit then
    (s1.setAccess { s1.access with awaitingAck := false, wait := 0 }).contendAgain
  else s1.accessIdle

/-- R124: one record in CONTINUING. -/
def State.continueRecord (s : State) (input : AccessInput) : State :=
  if s.access.awaitingAck then
    if input.ack then s.affiliateOrIdle
    else
      let s1 := s.countWait
      if s1.access.grantWait ≤ s1.access.wait then s1.continueTimeout else s1
  else if s.access.reserved = 0 then s.beginAckWait
  else if s.access.sitePosition = some 0 then
    if s.anyUnsent then s.sendContinue
    else if s.access.burstSent then s.beginAckWait
    else s.affiliateOrIdle
  else s

/-- R118, R125: an affiliation burst is lost: its entries return to UNSENT; with no attempts left the exchange fails. -/
def State.affiliateLost (s : State) (b : Burst) : State :=
  let s1 := s.burstLost b
  if s1.access.attemptLimit ≤ s1.access.attempts then s1.returnSent.accessIdle else s1.contendAgain

/-- R125: one record in AFFILIATING. -/
def State.affiliateRecord (s : State) (input : AccessInput) : State :=
  if s.access.awaitingAck then
    if input.ack then s.affiliateOrIdle
    else
      let s1 := s.countWait
      if s1.access.grantWait ≤ s1.access.wait then s1.affiliateTimeout else s1
  else
    match s.access.outstanding with
    | some b =>
      if s.judgesEcho b then
        match s.judgeEcho b input with
        | .won => (s.setAccess { s.access with outstanding := none }).beginAckWait
        | .wonByGrant _ => s.affiliateLost b
        | .lost => s.affiliateLost b
        | .collided => s.countCollision.affiliateLost b
      else s
    | none => if s.anyUnsent then s.countdown else s.accessIdle

/-- R125: at a multiframe start taken in CAMPED with the unit IDLE and a group UNSENT, an exchange begins. -/
def State.multiframeExchange (s : State) (engine0 : Engine) (multiframe : Bool) : State :=
  if multiframe = true ∧ engine0 = .camped ∧ s.anyUnsent = true then
    (s.beginExchange s.positionFromIdle).sendIfDue
  else s

/-- The Access Unit's handling of a taken record. A registration that started at this very record has its first record in the
next one (R87, R111): only a mismatching beacon ends it here (R121, log 27). -/
def State.accessRecord (s : State) (r : Frame) (engine0 : Engine) (input : AccessInput) : State :=
  match s.roam.engine with
  | .registering =>
    if engine0 = .registering then s.registrationRecord r input
    else if s.mismatches input then s.failRoam .mismatch (some 0)
    else s
  | .camped =>
    match s.access.state with
    | .continuing => (s.trackSite r input.sync).continueRecord input
    | .affiliating => (s.trackSite r input.sync).affiliateRecord input
    | .idle => s.multiframeExchange engine0 input.multiframe
    | _ => s
  | _ => s

end Sys2Proof.Machine
end

