-- ==== Sys2Proof/Machine/AddressFilter.lean ====
section
/-! DEFINITION. The Address Filter (section 8): which blocks are read, which pass, and where they are delivered. -/

namespace Sys2Proof.Machine

/-- R129: the type is read from a source record while REGISTERING. -/
def Message.forRegistration : Message → Bool
  | .echo _ => true
  | .grant _ => true
  | _ => false

/-- R129: the record is a source record for a message of this type: in CAMPED a serving sync record for all six, in
REGISTERING a site sync record of the target for ECHO and GRANT, in other states none. -/
def State.reads (s : State) (r : Frame) (m : Message) : Bool :=
  match s.roam.engine with
  | .camped => s.servingSync r
  | .registering => s.targetSync r && m.forRegistration
  | _ => false

/-- R130: the block passes the address filter by its destination kind. -/
def State.passes (s : State) (b : ControlBlock) : Bool :=
  match b.kind with
  | 0 => s.groups.identity == some b.destination
  | 1 => (s.matchingGroup b.destination).isSome
  | 2 => s.isOn .allCallEnable
  | _ => false

/-- R37, R128, R129: the message of a taken record that the filter reads, with its block. -/
def State.readRecord (s : State) (r : Frame) : Option (ControlBlock × Message) :=
  match r.block with
  | some b =>
    if r.settling = true ∨ r.check ≠ .pass then none
    else
      match readMessage b with
      | some m => if s.reads r m then some (b, m) else none
      | none => none
  | none => none

/-- What the filter hands to the Access Unit (R131, R132). -/
structure FilterOutput where
  echo : Option (Identity × Nat)
  grant : Option Grant
  ack : Bool
  deriving DecidableEq, Repr

/-- Nothing for the Access Unit. -/
def FilterOutput.nothing : FilterOutput := { echo := none, grant := none, ack := false }

/-- R133: the matching entry a GROUP NOTICE event carries: none for destination kind ALL. -/
def State.noticeIndex (s : State) (b : ControlBlock) : Option Nat :=
  if b.kind = 1 then s.matchingGroup b.destination else none

/-- R132, R133, R138: a block that has passed the filter is delivered by type. -/
def State.deliver (s : State) (b : ControlBlock) (m : Message) : State × FilterOutput :=
  match m with
  | .echo _ => (s, FilterOutput.nothing)
  | .grant g => (s, { FilterOutput.nothing with grant := some g })
  | .affilAck count => (s.affilAck count, { FilterOutput.nothing with ack := true })
  | .page payload => (s.event (.page s.servingCode payload), FilterOutput.nothing)
  | .groupNotice payload =>
    (s.event (.groupNotice s.servingCode b.kind b.destination (s.noticeIndex b) payload), FilterOutput.nothing)
  | .move code channel colour =>
    (s.takeMove code { channel := channel, colour := colour }, FilterOutput.nothing)

/-- R129 to R132: the filter's handling of a taken record. An ECHO is handed to the Access Unit whatever radio it names
(R131). -/
def State.filterRecord (s : State) (r : Frame) : State × FilterOutput :=
  match s.readRecord r with
  | some (b, .echo slot) => (s, { FilterOutput.nothing with echo := some (b.destination, slot) })
  | some (b, m) => if s.passes b then s.deliver b m else (s, FilterOutput.nothing)
  | none => (s, FilterOutput.nothing)

end Sys2Proof.Machine
end

