-- ==== Sys2Proof/Machine/BeaconAssembler.lean ====
section
/-! DEFINITION. The Beacon Assembler (section 3): placing fragments, completion and check, accepted serving and watch
beacons. -/

namespace Sys2Proof.Machine

/-- R41: the three bytes of a fragment. -/
def Fragment.bytes (f : Fragment) : List Byte := [f.byte0, f.byte1, f.byte2]

/-- R45: a fragment fills its position; a fragment of another edition than the store's clears it first. -/
def Store.place (st : Store) (position : Nat) (f : Fragment) : Store :=
  let base := if st.edition = some f.edition then st else { Store.cleared with edition := some f.edition }
  { base with places := base.places.set position (some f.bytes) }

/-- R45: all 16 positions are filled. -/
def Store.complete (st : Store) : Bool := st.places.all Option.isSome

/-- The 48 bytes of a completed store. -/
def Store.bytes (st : Store) : List Byte := st.places.flatMap fun p => p.getD []

/-- R46: the completed beacon passes its check and can be used. -/
def Store.accepted (st : Store) : Bool := beaconCheckMatches st.bytes && beaconUsable st.bytes

/-- The summary of a completed store's beacon (R44). -/
def Store.summary (st : Store) : Summary := readSummary (st.edition.getD 0) st.bytes

/-- R46, R56: the beacon-check-failure counter rises. -/
def State.countFailure (s : State) : State := s.setBeacon { s.beacon with failures := sat16 s.beacon.failures }

/-- The Serving Store replaced. -/
def State.setServingStore (s : State) (st : Store) : State := s.setBeacon { s.beacon with servingStore := st }

/-- The Watch Store replaced. -/
def State.setWatchStore (s : State) (st : Store) : State := s.setBeacon { s.beacon with watchStore := st }

/-- R49: edition, isolated, closed and emergency-only are all equal. -/
def Summary.sameAs (a b : Summary) : Bool :=
  a.edition == b.edition && a.isolated == b.isolated && a.closed == b.closed && a.emergencyOnly == b.emergencyOnly

/-- R49: the comparison with the last serving beacon, which then takes the new beacon's summary. -/
def State.compareServing (s : State) (i : Nat) (b : Summary) : State :=
  let s1 :=
    match s.beacon.lastServing with
    | some old =>
      if old.sameAs b then s
      else s.event (.beaconChanged i b.code old.edition b.edition b.isolated b.closed b.emergencyOnly)
    | none => s
  s1.setBeacon { s1.beacon with lastServing := some b }

/-- R48: an accepted beacon of the SERVING entry: its digest is written, its neighbour list imported, and it is compared. -/
def State.acceptServing (s : State) (i : Nat) (b : Summary) (neighbours : List Neighbour) : State :=
  ((s.writeDigest i (ownDigest b)).importItems [] neighbours).compareServing i b

/-- What the Beacon Assembler reports of a record: a SERVING LOST with cause IDENTITY is raised (R47); the watch beacon
accepted in REGISTERING (R51, R52). -/
structure BeaconReport where
  identityLost : Bool
  accepted : Option Summary
  deriving DecidableEq, Repr

/-- Nothing to report. -/
def BeaconReport.nothing : BeaconReport := { identityLost := false, accepted := none }

/-- R45 to R48: a fragment of the SERVING entry's beacon. -/
def State.servingFragment (s : State) (i position : Nat) (f : Fragment) : State × BeaconReport :=
  let st := s.beacon.servingStore.place position f
  if st.complete then
    let s1 := s.setServingStore Store.cleared
    if st.accepted then
      if st.summary.code = (s.entry i).code then
        (s1.acceptServing i st.summary (readNeighbours st.bytes), BeaconReport.nothing)
      else if s.roam.engine = .camped then (s1.raiseLost, { identityLost := true, accepted := none })
      else (s1, BeaconReport.nothing)
    else (s1.countFailure, BeaconReport.nothing)
  else (s.setServingStore st, BeaconReport.nothing)

/-- R51, R52: an accepted watch beacon in CAMPED: the watch candidate's digest is written, or, when the beacon names another
site, the entry is demoted and the watch cleared. -/
def State.watchAccepted (s : State) (b : Summary) : State :=
  match s.ranking.watch with
  | some w =>
    if (s.entry w).code = b.code then s.writeDigest w (ownDigest b) else (s.fallToListed w).countConflict
  | none => s

/-- R51: an accepted watch beacon in REGISTERING writes the target's digest when it names the target. -/
def State.targetAccepted (s : State) (b : Summary) : State :=
  match s.findCode s.access.target with
  | some i => if (s.entry i).code = b.code then s.writeDigest i (ownDigest b) else s
  | none => s

/-- R51 to R53: what an accepted watch beacon does in each engine state. -/
def State.acceptWatch (s : State) (b : Summary) : State × BeaconReport :=
  match s.roam.engine with
  | .camped => (s.watchAccepted b, BeaconReport.nothing)
  | .registering => (s.targetAccepted b, { identityLost := false, accepted := some b })
  | .stopped => (s, BeaconReport.nothing)
  | _ =>
    match s.scan.listen with
    | some l => (s.huntAccept b l, BeaconReport.nothing)
    | none => (s, BeaconReport.nothing)

/-- R45, R46, R51: a fragment of the Watch Store's owner. -/
def State.watchFragment (s : State) (position : Nat) (f : Fragment) : State × BeaconReport :=
  let st := s.beacon.watchStore.place position f
  if st.complete then
    let s1 := s.setWatchStore Store.cleared
    if st.accepted then
      (s1.setBeacon { s1.beacon with lastWatch := some st.summary }).acceptWatch st.summary
    else (s1.countFailure, BeaconReport.nothing)
  else (s.setWatchStore st, BeaconReport.nothing)

/-- R37, R43: the fragment of a taken record with settling clear and frame check PASS goes to at most one store, by the
record's channel and colour. -/
def State.beaconRecord (s : State) (r : Frame) : State × BeaconReport :=
  match r.fragment, r.sync with
  | some f, some colour =>
    if r.settling = true ∨ r.check ≠ .pass then (s, BeaconReport.nothing)
    else if s.servingSync r then
      match s.serving with
      | some i => s.servingFragment i r.position f
      | none => (s, BeaconReport.nothing)
    else if s.beacon.owner = some { channel := r.channel, colour := colour } then s.watchFragment r.position f
    else (s, BeaconReport.nothing)
  | _, _ => (s, BeaconReport.nothing)

end Sys2Proof.Machine
end

