-- ==== Sys2Proof/Machine/Ranking.lean ====
section
/-! DEFINITION. The Ranking Unit's handling of a taken record (section 4): heard notices, samples, the filter, dwell and the
watch, the weak serving site, and the serving report. -/

namespace Sys2Proof.Machine

/-! ## The filter -/

/-- R61: F after a sample of level code c with shift k: 16 c as a first sample, else F plus the difference divided by 2^k,
truncated toward zero. -/
def filtered (k samples level c : Nat) : Nat :=
  if samples = 0 then 16 * c
  else ((level : Int) + Int.tdiv (16 * (c : Int) - (level : Int)) (2 ^ k)).toNat

/-- R61: the entry after a sample; n stops at 255. -/
def Entry.sampled (e : Entry) (k c : Nat) : Entry :=
  { e with level := filtered k e.samples e.level c, samples := min (e.samples + 1) 255 }

/-- R61: a sample is credited to an entry, with k_serving when it is SERVING and k_candidate otherwise. -/
def State.credit (s : State) (i c : Nat) : State :=
  let e := s.entry i
  s.setEntry i (e.sampled (if e.status = .serving then s.par .kServing else s.par .kCandidate) c)

/-! ## Heard notices and attribution -/

/-- R19: a heard notice: heard age 0, and a LISTED entry becomes HEARD. -/
def Entry.heardNow (e : Entry) : Entry :=
  { e with heardAge := 0, status := if e.status = .listed then .heard else e.status }

/-- R19, R58: the occupied entry whose channel and colour a synced record with settling clear carries. -/
def State.heardEntry (s : State) (r : Frame) : Option Nat :=
  if r.settling then none
  else
    match r.sync with
    | some colour => s.findPair { channel := r.channel, colour := colour }
    | none => none

/-- R19: the heard notice of a record, if it gives one. -/
def State.heardNotice (s : State) (r : Frame) : State :=
  match s.heardEntry r with
  | some i => s.setEntry i (s.entry i).heardNow
  | none => s

/-- R58: the record gives samples: settling clear, and not named as a settle record. -/
def givesSamples (r : Frame) (role : Role) : Bool := !r.settling && role != .settle

/-- R60: the entry a record taken in CAMPED is meant for: a visit's object on its measure record, when the record reports the
object's channel; the SERVING entry on any other record of the serving channel. The object is the entry that holds the visit's
site code at this moment, and there is none once the object has been evicted or dropped, even where its site has been admitted
again (R15, R16, R76). After an abandoned visit whose object shares the serving channel, the records of that channel are meant for
the SERVING entry again, where R81 speaks of R59 alone (log 53, the model's choice). -/
def State.meantFor (s : State) (r : Frame) (role : Role) : Option Nat :=
  if s.roam.engine = .camped then
    let entry : Option Nat :=
      match role with
      | .measure v => if v.objectGone then none else s.findCode v.code
      | .plain => s.serving
      | .settle => none
    entry.filter fun i => (s.entry i).channel == r.channel
  else none

/-- R60: the entry that a record meant for it did not hear, which is credited with a sample of 0. -/
def State.unheardEntry (s : State) (r : Frame) (role : Role) : Option Nat :=
  (s.meantFor r role).filter fun i => r.sync != some (s.entry i).colour

/-- R59, R60, R61: the samples of a record: its level to the entry its pair names, and 0 to the entry it was meant for and did
not hear. -/
def State.creditSamples (s : State) (r : Frame) (role : Role) : State :=
  let heard := s.heardEntry r
  let unheard := s.unheardEntry r role
  let s1 :=
    match heard with
    | some i => s.credit i r.level
    | none => s
  match unheard with
  | some i => s1.credit i 0
  | none => s1

/-! ## Dwell and the watch -/

/-- R69: the entry becomes the watch candidate: the watch turn flag is set and the Watch Store goes to its pair. -/
def State.nameWatch (s : State) (i : Nat) : State :=
  let s1 := s.setRanking { s.ranking with watch := some i }
  (s1.setScan { s1.scan with watchTurn := true }).setOwner (some (s.entry i).pair)

/-- R69: an entry whose dwell count rose from 0 to 1 becomes the watch candidate when there is none or when its score exceeds
the current one's. -/
def State.considerWatch (s : State) (i : Nat) : State :=
  match s.ranking.watch with
  | none => s.nameWatch i
  | some w => if s.score (s.entry w) < s.score (s.entry i) then s.nameWatch i else s

/-- R66: the visited entry is eligible and outscores the serving entry by the hysteresis. -/
def State.outscores (s : State) (i serving : Nat) : Bool :=
  s.eligible (s.entry i)
    && decide (s.score (s.entry serving) + 16 * (s.par .hysteresis : Int) ≤ s.score (s.entry i))

/-- R66, R67, R69, R70: the dwell update of a visited entry, with the DWELL trigger it may raise. -/
def State.dwellUpdate (s : State) (i serving : Nat) : State × List Trigger :=
  let e := s.entry i
  if s.outscores i serving then
    let count := min (e.dwell + 1) (s.par .dwellLimit)
    let s1 := s.setEntry i { e with dwell := count }
    let s2 := if e.dwell = 0 then s1.considerWatch i else s1
    (s2, if count = s.par .dwellLimit then [.dwell e.code] else [])
  else ((s.setEntry i { e with dwell := 0 }).dwellCleared i, [])

/-! ## The weak serving site -/

/-- R72: one SERVING WEAK event for a run of weak samples. -/
def State.reportWeak (s : State) (serving : Nat) : State :=
  if s.ranking.weakReported then s
  else
    let e := s.entry serving
    (s.setRanking { s.ranking with weakReported := true }).event
      (.servingWeak serving e.code e.level s.ranking.weakCount)

/-- R71, R72: the weak update of a serving sample, with the URGENT trigger it may raise. -/
def State.weakUpdate (s : State) (serving : Nat) : State × List Trigger :=
  if (s.entry serving).level < 16 * s.par .weakThreshold then
    let count := min (s.ranking.weakCount + 1) (s.par .weakCountLimit)
    let s1 := s.setRanking { s.ranking with weakCount := count }
    if count = s.par .weakCountLimit then
      (s1.reportWeak serving, [.urgent ((s1.urgentTarget serving).map fun i => (s1.entry i).code)])
    else (s1, [])
  else (s.setRanking { s.ranking with weakCount := 0, weakReported := false }, [])

/-! ## The serving report -/

/-- R73: the SERVING REPORT event. -/
def State.sendReport (s : State) (serving : Nat) : State :=
  let e := s.entry serving
  (s.setRanking { s.ranking with reportCount := 0 }).event
    (.servingReport serving e.code e.level e.samples (s.score e) s.ranking.weakCount)

/-- R73: the report counter at a multiframe start in CAMPED. -/
def State.reportTick (s : State) : State :=
  if s.par .reportInterval = 0 then s.setRanking { s.ranking with reportCount := 0 }
  else if s.par .reportInterval ≤ s.ranking.reportCount + 1 then
    match s.serving with
    | some i => s.sendReport i
    | none => s
  else s.setRanking { s.ranking with reportCount := s.ranking.reportCount + 1 }

/-! ## One record -/

/-- R66: the visited entry whose sample asks for a dwell update: the object a CAMPED measure record is meant for. -/
def State.visited (s : State) (r : Frame) (role : Role) : Option Nat :=
  match role with
  | .measure _ => (s.meantFor r role).filter fun i => (s.entry i).status != .serving
  | _ => none

/-- R71: the SERVING entry has received a sample of the record. -/
def State.servingSampled (s : State) (r : Frame) (role : Role) (serving : Nat) : Bool :=
  s.heardEntry r == some serving || s.unheardEntry r role == some serving

/-- R58: the samples of a record and their consequences in CAMPED: both filters, then the dwell update, then the weak update
(log 10). Who is heard, visited and weak is judged on the record's own handling, before its samples move F. -/
def State.handleSamples (s : State) (r : Frame) (role : Role) : State × List Trigger :=
  let s1 := s.creditSamples r role
  match s.serving with
  | some v =>
    if s.roam.engine = .camped then
      let dwell :=
        match s.visited r role with
        | some i => s1.dwellUpdate i v
        | none => (s1, [])
      let weak := if s.servingSampled r role v then dwell.1.weakUpdate v else (dwell.1, [])
      (weak.1, dwell.2 ++ weak.2)
    else (s1, [])
  | none => (s1, [])

/-- R58, R73: the Ranking Unit's handling of a taken record, up to the triggers it raises. The serving report is sent here, before
the Beacon Assembler handles the record, so its score has no digest that the record itself completes (log 50, the model's choice). -/
def State.rankRecord (s : State) (r : Frame) (role : Role) (multiframe : Bool) : State × List Trigger :=
  let s1 := s.heardNotice r
  let t := if givesSamples r role then s1.handleSamples r role else (s1, [])
  if multiframe = true ∧ t.1.roam.engine = .camped then (t.1.reportTick, t.2) else t

end Sys2Proof.Machine
end

