-- ==== Sys2Proof/Machine/FrameIntake.lean ====
section
/-! DEFINITION. The Frame Intake (section 2): the Front-End receiver, the intake queue, local frame time, serving loss, and
the whole handling of a taken record. -/

namespace Sys2Proof.Machine

/-! ## The receiver -/

/-- R24, R25, R38: a record is discarded for its length, check or examination. -/
def State.countCheckError (s : State) : State :=
  s.setIntake { s.intake with checkErrors := sat16 s.intake.checkErrors }

/-- R29: a FRAME record is placed: at the tail of the queue, as the held record, or discarded as a lost frame. It restarts the
silence timer in every case (R35). -/
def State.placeFrame (s : State) (f : Frame) : State :=
  let i := { s.intake with silenceRunning := true }
  if i.held.isSome then s.setIntake { i with lostFrames := sat16 i.lostFrames }
  else if i.queue.length < 4 then s.setIntake { i with queue := i.queue ++ [f] }
  else s.setIntake { i with held := some f }

/-- R25, R27, R29: a record whose check matches is examined and acted on. -/
def State.modemRecord (s : State) (kind : Byte) (body : List Byte) : State :=
  match examine kind body with
  | some (.frame f) => s.placeFrame f
  | some (.burstDone position missed) => s.burstDone position missed
  | none => s.countCheckError

/-- R24: what a receiver that has these bytes does with them: it hunts for the lead byte 0xB5, discards a record at a bad
length or check and hunts on at the byte after its lead byte, acts on a whole record, and keeps an incomplete one. Each
turn drops at least one byte, so the first argument, one more than the number of bytes, never runs out. -/
def frontEndReceive : Nat → List Byte → State → State
  | 0, _, s => s
  | n + 1, bytes, s =>
    match bytes.dropWhile (· != 0xB5#8) with
    | [] => s.setIntake { s.intake with received := [] }
    | lead :: [] => s.setIntake { s.intake with received := [lead] }
    | lead :: length :: rest =>
      if modemLengths.contains length.toNat = false then frontEndReceive n (length :: rest) s.countCheckError
      else if rest.length < length.toNat + 1 then
        s.setIntake { s.intake with received := lead :: length :: rest }
      else
        let content := rest.take length.toNat
        if crc8 (length :: content) = at8 rest length.toNat then
          frontEndReceive n (rest.drop (length.toNat + 1)) (s.modemRecord (at8 content 0) (content.drop 1))
        else frontEndReceive n (length :: rest) s.countCheckError

/-- Bytes arrive on MRX behind those of a record partly received. -/
def State.receiveFrontEnd (s : State) (bytes : List Byte) : State :=
  let all := s.intake.received ++ bytes
  frontEndReceive (all.length + 1) all s

/-! ## Taking a record -/

/-- R30: the head of the queue is taken, and a held record joins the tail. -/
def State.popFrame (s : State) (rest : List Frame) : State :=
  s.setIntake { s.intake with queue := rest ++ s.intake.held.toList, held := none }

/-- R31, R32: the local frame counter advances by one, and a serving sync record realigns it. -/
def State.advanceCounter (s : State) (r : Frame) : State :=
  let counter := (s.intake.counter + 1) % 16
  if s.servingSync r then
    match s.intake.timing with
    | .tracking =>
      s.setIntake
        { s.intake with
          counter := r.position
          slips := if r.position = counter then s.intake.slips else sat16 s.intake.slips }
    | .holdover => s.setIntake { s.intake with counter := r.position, timing := .tracking }
  else s.setIntake { s.intake with counter := counter }

/-- R31: the taking is a multiframe start. -/
def State.atMultiframe (s : State) : Bool := s.intake.counter == 0

/-! ## Parameter activation -/

/-- R162: each pending value becomes active. -/
def activated (active : List Nat) (pending : List (Option Nat)) : List Nat :=
  List.zipWith (fun a p => p.getD a) active pending

/-- R162, R68, R71, R73, R86: the pending values become active before any block's handling of the record; dwell counts and the
weak count are cut to lowered limits, the report counter is held at 0 under a report interval of 0, and a changed direct channel
is tuned while the modem is on it. -/
def State.activate (s : State) : State :=
  let s1 := s.setHost
    { s.host with
      active := activated s.host.active s.host.pendingParams
      pendingParams := s.host.pendingParams.map fun _ => none }
  let s2 := s1.mapEntries fun e => { e with dwell := min e.dwell (s1.par .dwellLimit) }
  let s3 := s2.setRanking
    { s2.ranking with
      weakCount := min s2.ranking.weakCount (s2.par .weakCountLimit)
      reportCount := if s2.par .reportInterval = 0 then 0 else s2.ranking.reportCount }
  if s3.roam.engine = .direct ∧ s3.scan.hunt = none ∧ s3.scan.listen = none
      ∧ s3.par .directChannel ≠ s.par .directChannel then s3.tune (s3.par .directChannel)
  else s3

/-! ## Serving loss -/

/-- R34: the record is of the serving channel with settling clear and not a serving sync record. -/
def State.servingMissed (s : State) (r : Frame) : Bool :=
  match s.serving with
  | some i => !r.settling && r.channel == (s.entry i).channel && r.sync != some (s.entry i).colour
  | none => false

/-- R34: the serving loss counter at a record taken in CAMPED, and whether it reaches the loss limit and raises SERVING LOST. -/
def State.lossUpdate (s : State) (r : Frame) : State × Bool :=
  if s.roam.engine = .camped then
    if s.servingSync r then (s.setIntake { s.intake with loss := 0 }, false)
    else if s.servingMissed r then
      if s.par .lossLimit ≤ s.intake.loss + 1 then (s.raiseLost, true)
      else (s.setIntake { s.intake with loss := s.intake.loss + 1 }, false)
    else (s, false)
  else (s, false)

/-! ## The blocks' handling of a record -/

/-- R18, R21, R22, R55, R77, R162: the work of a multiframe start that comes before the record's parts. -/
def State.multiframeWork (s : State) : State :=
  let s1 := s.tableMultiframe
  if s1.roam.engine = .camped then s1.advancePlan else s1

/-- R58, R60, R95: the Ranking Unit's handling when the loss counter has raised SERVING LOST: the loss is acted on before it,
between its updates and its triggers, or after its triggers, as a free value has it (log 6). -/
def State.rankWithLoss (s : State) (r : Frame) (role : Role) (multiframe : Bool) (order : Nat) : State :=
  if order % 3 = 0 then
    let t := (s.takeLost .loss).rankRecord r role multiframe
    t.1.takeTriggers t.2
  else
    let t := s.rankRecord r role multiframe
    if order % 3 = 1 then (t.1.takeLost .loss).takeTriggers t.2 else (t.1.takeTriggers t.2).takeLost .loss

/-- R95, R129: the filter's handling of a record, with an IDENTITY loss acted on before or after it (log 7) and the late triggers
of the record acted on behind it, where it stands apart from a loss, and else before both, between them or behind both (log 8). -/
def State.filterWithIdentity (s : State) (r : Frame) (lost first : Bool) (late : List Trigger) (place : Nat) :
    State × FilterOutput :=
  if lost = false then
    let f := s.filterRecord r
    (f.1.takeTriggers late, f.2)
  else
    let early := if place % 3 = 0 then late else []
    let between := if place % 3 = 1 then late else []
    let behind := if place % 3 = 2 then late else []
    let s1 := s.takeTriggers early
    if first then
      let f := ((s1.takeLost .identity).takeTriggers between).filterRecord r
      (f.1.takeTriggers behind, f.2)
    else
      let f := s1.filterRecord r
      (((f.1.takeTriggers between).takeLost .identity).takeTriggers behind, f.2)

/-- The record is a site sync record of the site the Access Unit works with (R109). -/
def State.accessSync (s : State) (r : Frame) : Bool :=
  if s.access.state.registering then s.targetSync r else s.servingSync r

/-- R37, R105: the hunt timer at a multiframe start, for a record taken in HUNT or in REGISTERING from HUNT (log 12). -/
def State.huntWork (s : State) (ran multiframe : Bool) : State :=
  if multiframe = true ∧ ran = true ∧ s.roam.huntRuns = true then s.huntTick else s

/-- The blocks' handling of a record after the Frame Intake's own: Ranking Unit, Beacon Assembler, Address Filter, hunt timer,
Access Unit and Scan Sequencer, in this order (log 9). The model's choices: a SERVING LOST of the loss counter is acted on before
the Beacon Assembler handles the record (log 51), and every loss, trigger and MOVE of the record before the Access Unit does
(log 48). `base` is the state in which the record was taken; `late`, `place`, `first` and `order` are what the rules leave open:
whether the triggers are acted on late and where (log 8), whether an IDENTITY loss comes before the filter (log 7), and when a loss
of the loss counter is acted on (log 6). -/
def State.blocksInOrder (s base : State) (r : Frame) (role : Role) (multiframe lossRaised late first : Bool) (place order : Nat) :
    State :=
  let behind := late && !lossRaised
  let ranked : State × List Trigger :=
    if lossRaised then (s.rankWithLoss r role multiframe order, []) else s.rankRecord r role multiframe
  let s1 := if behind then ranked.1 else ranked.1.takeTriggers ranked.2
  let s2 := s1.listenIfFound r
  let beacon := s2.beaconRecord r
  let filter := beacon.1.filterWithIdentity r beacon.2.identityLost first (if behind then ranked.2 else []) place
  let s4 := filter.1.huntWork base.roam.huntRuns multiframe
  let s5 := s4.accessRecord r base.roam.engine
    { echo := filter.2.echo, grant := filter.2.grant, ack := filter.2.ack, beacon := beacon.2.accepted
      sync := s4.accessSync r, multiframe := multiframe }
  (s5.scanRecord base.roam.engine base.scan.listen.isSome multiframe).nextFree

/-- The blocks' handling of a record, with the free values of this record for what the rules leave open (log 6, 7, 8). -/
def State.blocksHandle (s base : State) (r : Frame) (role : Role) (multiframe lossRaised : Bool) : State :=
  s.blocksInOrder base r role multiframe lossRaised (Config.triggersLate s.free) (Config.identityFirst s.free)
    (Config.lateTriggers s.free) (Config.lossOrder s.free)

/-- R30, R31, R34, R37: a record is taken from the head of the intake queue and handled whole. A SERVING LOST of the loss counter
is acted on after the multiframe-start work of the record (log 47, the model's choice). -/
def State.handleRecord (s : State) (r : Frame) (rest : List Frame) : State :=
  let role := s.recordRole
  let s1 := (s.popFrame rest).advanceCounter r
  let multiframe := s1.atMultiframe
  let s2 := if multiframe then s1.activate else s1
  let loss := s2.lossUpdate r
  let s3 := if multiframe then loss.1.multiframeWork else loss.1
  s3.nameRecord.blocksHandle s r role multiframe loss.2

/-- R30: RECORD TAKEN: the head of the intake queue, if there is one. -/
def State.takeRecord (s : State) : State :=
  match s.intake.queue with
  | r :: rest => s.handleRecord r rest
  | [] => s

end Sys2Proof.Machine
end

