-- ==== Sys2Proof/Machine/HostLink.lean ====
section
/-! DEFINITION. The Host Link (section 11): the receiver, the placing of complete frames, the link-error run, and the taking
of a command from the intake queue. -/

namespace Sys2Proof.Machine

/-! ## Damaged frames -/

/-- R155, R156: a frame is discarded or dropped: the link check counter rises, and the first of a run of damage sends a LINK
ERROR event. The flag is set only when that event was queued. -/
def State.frameDamaged (s : State) : State :=
  let s1 := s.setHost { s.host with checkErrors := sat16 s.host.checkErrors }
  if s1.host.linkError then s1
  else
    let s2 := s1.event (.linkError s1.host.checkErrors)
    s2.setHost { s2.host with linkError := s1.roomForEvent }

/-! ## Complete frames -/

/-- R157: the greatest number of frames of the command intake queue. -/
abbrev maxIntake : Nat := 4

/-- R157: a BUSY reply waits in the transmit queue. -/
def State.busyWaiting (s : State) : Bool := s.host.transmit.any HostFrame.isBusy

/-- R156, R157: a frame that completes with a matching check ends a run of damage and is placed: it joins the intake queue, is
answered BUSY, or is dropped without reply. -/
def State.placeHostFrame (s : State) (f : HostFrame) : State :=
  let s1 := s.setHost { s.host with linkError := false }
  if s1.host.intake.length < maxIntake then s1.setHost { s1.host with intake := s1.host.intake ++ [f] }
  else if s1.busyWaiting then s1
  else s1.reply f .busy

/-! ## The receiver -/

/-- The bytes of a host frame partly received. -/
def State.keepHostBytes (s : State) (bytes : List Byte) : State := s.setHost { s.host with received := bytes }

/-- R154: the lengths a host frame may have. -/
def hostLengthAllowed (length : Nat) : Bool := decide (2 ≤ length ∧ length ≤ 42)

/-- R155: what a receiver that has these bytes does with them: it hunts for the lead byte 0xA7, discards a frame at a bad
length or check and hunts on at the byte after its lead byte, places a whole frame, and keeps an incomplete one. Each turn
drops at least one byte, so the first argument, one more than the number of bytes, never runs out. -/
def hostReceive : Nat → List Byte → State → State
  | 0, _, s => s
  | n + 1, bytes, s =>
    match bytes.dropWhile (· != 0xA7#8) with
    | [] => s.keepHostBytes []
    | lead :: [] => s.keepHostBytes [lead]
    | lead :: length :: rest =>
      if hostLengthAllowed length.toNat = false then hostReceive n (length :: rest) s.frameDamaged
      else if rest.length < length.toNat + 1 then s.keepHostBytes (lead :: length :: rest)
      else
        let content := rest.take length.toNat
        if crc8 (length :: content) = at8 rest length.toNat then
          hostReceive n (rest.drop (length.toNat + 1))
            (s.placeHostFrame { kind := at8 content 0, tag := at8 content 1, body := content.drop 2 })
        else hostReceive n (length :: rest) s.frameDamaged

/-- Bytes arrive on HRX behind those of a frame partly received. -/
def State.receiveHost (s : State) (bytes : List Byte) : State :=
  let all := s.host.received ++ bytes
  hostReceive (all.length + 1) all s

/-- R155: more than 5 ms pass without a byte of an incomplete frame: it is dropped and counted, and the bytes after its lead
byte are searched again. An incomplete frame they leave waits for its own gap (log 24). -/
def State.gapTimeout (s : State) : State :=
  match s.host.received with
  | [] => s
  | _ :: rest => hostReceive (rest.length + 1) rest s.frameDamaged

/-! ## Taking a command -/

/-- R157, R164: a command may be taken: RESET has not been taken, and fewer than 3 replies wait in the transmit queue. -/
def State.mayTake (s : State) : Bool := !s.host.resetTaken && decide (repliesWaiting s.host.transmit < 3)

/-- R157, R158: the frame at the head of the intake queue is taken when its kind is one of the row's, and handled with the
queue as the taking leaves it. In every other case the row's event does not occur and nothing changes (log 2). -/
def State.takeCommand (s : State) (mine : Byte → Bool) (handle : State → HostFrame → State) : State :=
  if s.mayTake then
    match s.host.intake with
    | f :: rest => if mine f.kind then handle (s.setHost { s.host with intake := rest }) f else s
    | [] => s
  else s

end Sys2Proof.Machine
end

