-- ==== Sys2Proof/Machine/Commands.lean ====
section
/-! DEFINITION. The sixteen commands of the host and the frame of an unknown kind (sections 11 and 12.4): each is taken from
the head of the intake queue, judged by its body length (R158) and by its own rule, and answered. -/

namespace Sys2Proof.Machine

/-! ## PROVISION and SET PARAMETERS -/

/-- R160: an accepted identity: it is set, the generator is seeded, and the lock is set. -/
def State.acceptIdentity (s : State) (identity : Identity) : State :=
  let s1 := s.setGroups { s.groups with identity := some identity }
  let s2 := s1.setAccess { s1.access with generator := some (generatorSeed identity) }
  s2.setHost { s2.host with locked := true }

/-- PROVISION (R160). -/
def State.provision (s : State) (f : HostFrame) : State :=
  let identity : Identity := BitVec.ofNat 24 (at24 f.body 0)
  if f.body.length ≠ 3 then s.reply f .format
  else if s.host.locked then s.reply f .locked
  else if identity = 0#24 ∨ identity = 0xFFFFFF#24 then s.reply f .invalidIdentity
  else (s.acceptIdentity identity).reply f .ok

/-- R161: an item names a parameter of 11.5.1. -/
def knownParam (item : Nat × Nat) : Bool := decide (1 ≤ item.1 ∧ item.1 ≤ 27)

/-- R161: the item's value lies in its parameter's range. -/
def inParamRange (item : Nat × Nat) : Bool := clampParam (item.1 - 1) item.2 == item.2

/-- R161: the items written into the pending values in order, each clamped; a later value wins. -/
def writeItems : List (Option Nat) → List (Nat × Nat) → List (Option Nat)
  | pending, [] => pending
  | pending, item :: rest => writeItems (pending.set (item.1 - 1) (some (clampParam (item.1 - 1) item.2))) rest

/-- R161: the most items a SET PARAMETERS carries. -/
abbrev maxItems : Nat := 13

/-- SET PARAMETERS (R161). -/
def State.setParameters (s : State) (f : HostFrame) : State :=
  match readItems f.body with
  | some items =>
    if maxItems < items.length ∨ items.all knownParam = false then s.reply f .format
    else
      (s.setHost { s.host with pendingParams := writeItems s.host.pendingParams items }).reply f
        (if items.all inParamRange then .ok else .adjusted)
  | none => s.reply f .format

/-! ## LOAD SITE and DROP SITE -/

/-- R7: a site code within 1..4095. -/
def codeInRange (code : Nat) : Bool := decide (1 ≤ code ∧ code ≤ 4095)

/-- LOAD SITE (R7, R8). -/
def State.loadSiteCommand (s : State) (f : HostFrame) : State :=
  let code := at16 f.body 0
  let p : Pair := { channel := at16 f.body 2, colour := (at8 f.body 4).toNat }
  match readSwitch (at8 f.body 6) with
  | some pinned =>
    if f.body.length ≠ 7 ∨ codeInRange code = false ∨ 1023 < p.channel ∨ 63 < p.colour then s.reply f .format
    else
      let r := s.loadSite code p (at8 f.body 5).toInt pinned
      r.1.reply f r.2.code (r.2.index.toList.map byte)
  | none => s.reply f .format

/-- DROP SITE (R16). -/
def State.dropSiteCommand (s : State) (f : HostFrame) : State :=
  let code := at16 f.body 0
  if f.body.length ≠ 2 ∨ codeInRange code = false then s.reply f .format
  else
    match s.findCode code with
    | none => s.reply f .unknownSite
    | some i =>
      if (s.entry i).status = .serving ∨ s.isTarget (s.entry i) = true then s.reply f .inUse
      else (s.freeEntry i).reply f .ok [byte i]

/-! ## SET HUNT CHANNELS and SET GROUPS -/

/-- R82: the most channels of the hunt channel list. -/
abbrev maxHuntChannels : Nat := 24

/-- SET HUNT CHANNELS (R82): ten bits hold no channel above 1023, and 12.4.1 allows a count up to 31. -/
def State.setHuntChannels (s : State) (f : HostFrame) : State :=
  match readChannels f.body with
  | some channels =>
    if 31 < channels.length then s.reply f .format
    else
      (s.setScan { s.scan with huntChannels := channels.take maxHuntChannels }).reply f
        (if channels.length ≤ maxHuntChannels then .ok else .adjusted)
  | none => s.reply f .format

/-- R135: the most entries of the group list. -/
abbrev maxGroups : Nat := 16

/-- R136: a pair as an entry of the new list. -/
def GroupPair.toGroup (p : GroupPair) : Group := { id := p.id, mask := p.mask, delivery := .unsent }

/-- R126, R136: the group list is replaced, then the Access Unit abandons an exchange and, in CAMPED with a non-empty list,
begins a new one. -/
def State.replaceGroups (s : State) (pairs : List GroupPair) : State :=
  let s1 := (s.setGroupList ((pairs.take maxGroups).map GroupPair.toGroup)).abandonWork
  if s1.roam.engine = .camped ∧ s1.access.state = .idle ∧ s1.groups.groups ≠ [] then
    s1.beginExchange s1.positionFromIdle
  else s1

/-- R167: the pairs gathered once a part has been joined to the assembly; none when the part is out of turn. -/
def joinPart (assembly : Option Assembly) (part : Nat) (pairs : List GroupPair) : Option (List GroupPair) :=
  if part = 0 then some pairs
  else
    match assembly with
    | some a => if a.next = part then some (a.pairs ++ pairs) else none
    | none => none

/-- R167: the group assembly replaced. -/
def State.setAssembly (s : State) (a : Option Assembly) : State := s.setHost { s.host with assembly := a }

/-- R167: a part of SET GROUPS with its number, its final bit and its pairs. -/
def State.groupPart (s : State) (f : HostFrame) (part : Nat) (final : Bool) (pairs : List GroupPair) : State :=
  match joinPart s.host.assembly part pairs with
  | none => (s.setAssembly none).reply f .format
  | some gathered =>
    if final then
      ((s.setAssembly none).replaceGroups gathered).reply f
        (if gathered.length ≤ maxGroups then .ok else .adjusted)
    else if part = 7 then (s.setAssembly none).reply f .format
    else (s.setAssembly (some { pairs := gathered, next := part + 1 })).reply f .ok

/-- SET GROUPS (R136, R167): 12.4.1 allows up to 6 pairs in a part. -/
def State.setGroupsCommand (s : State) (f : HostFrame) : State :=
  match f.body with
  | head :: rest =>
    match readPairs rest with
    | some pairs =>
      if 6 < pairs.length then s.reply f .format
      else s.groupPart f (bits head 0 3) (flag head 7) pairs
    | none => s.reply f .format
  | [] => s.reply f .format

/-! ## START, STOP, CALL STATE, ROAM HOLD -/

/-- START (R91). -/
def State.startCommand (s : State) (f : HostFrame) : State :=
  if f.body.length ≠ 0 then s.reply f .format
  else if s.roam.engine ≠ .stopped then s.reply f .state
  else if s.groups.identity = none then s.reply f .notProvisioned
  else s.startEngine.reply f .ok

/-- STOP (R92). -/
def State.stopCommand (s : State) (f : HostFrame) : State :=
  if f.body.length ≠ 0 then s.reply f .format
  else if s.roam.engine = .stopped then s.reply f .ok
  else s.stopEngine.reply f .ok

/-- R144: what a change of the call state record does at once: TRANSMITTING in CAMPED abandons a visit (R81); anything but IDLE
in DIRECT ends a hunt visit or hunt-listen (R86). -/
def State.callActs (s : State) : State :=
  if s.roam.engine = .camped ∧ s.call.call = .transmitting then s.abandonVisit
  else if s.roam.engine = .direct ∧ s.call.call ≠ .idle ∧ (s.scan.hunt.isSome = true ∨ s.scan.listen.isSome = true) then
    s.endListen
  else s

/-- R143: the INHIBITED flag of the reply: TRANSMITTING while TXINH is asserted. -/
def State.inhibited (s : State) : Bool := s.call.call == .transmitting && s.pins.txinh

/-- CALL STATE (R143). -/
def State.callStateCommand (s : State) (f : HostFrame) : State :=
  match readCall (at8 f.body 0), readSwitch (at8 f.body 1) with
  | some call, some emergency =>
    if f.body.length ≠ 2 then s.reply f .format
    else
      let s1 := (s.setCall { call := call, emergency := emergency }).callActs
      s1.reply f .ok [boolByte s1.inhibited]
  | _, _ => s.reply f .format

/-- ROAM HOLD (R94). -/
def State.roamHoldCommand (s : State) (f : HostFrame) : State :=
  match readSwitch (at8 f.body 0) with
  | some hold =>
    if f.body.length ≠ 1 then s.reply f .format else (s.setRoam { s.roam with hold := hold }).reply f .ok
  | none => s.reply f .format

/-! ## ROAM TO and ROAM ABORT -/

/-- ROAM TO (R97). -/
def State.roamToCommand (s : State) (f : HostFrame) : State :=
  let code := at16 f.body 0
  if f.body.length ≠ 2 ∨ codeInRange code = false then s.reply f .format
  else if s.roam.engine ≠ .camped then s.reply f .state
  else
    match s.findCode code with
    | none => s.reply f .unknownSite
    | some i =>
      if (s.entry i).status = .serving then s.reply f .unknownSite
      else if (s.entry i).barred ≠ 0 then s.reply f .barred
      else (s.startRegistration i .forced s.previousServing .registration).reply f .ok [byte i]

/-- ROAM ABORT (R123). -/
def State.roamAbortCommand (s : State) (f : HostFrame) : State :=
  if f.body.length ≠ 0 then s.reply f .format
  else
    match s.access.state with
    | .tuning => (s.failRoam .aborted none).reply f .ok
    | .reading => (s.failRoam .aborted none).reply f .ok
    | .contending =>
      if s.access.outstanding = none then (s.failRoam .aborted none).reply f .ok else s.reply f .tooLate
    | .awaitingGrant => s.reply f .tooLate
    | .idle => s.reply f .state
    | .continuing => s.reply f .state
    | .affiliating => s.reply f .state

/-! ## Queries -/

/-- QUERY SITE (R1, 12.4.2). -/
def State.querySite (s : State) (f : HostFrame) : State :=
  let i := (at8 f.body 0).toNat
  if f.body.length ≠ 1 ∨ tableSize ≤ i then s.reply f .format else s.reply f .ok (entryBytes i (s.entry i))

/-- R163: the ten counters, in the order of that rule's table. -/
def State.counters (s : State) : List Nat :=
  [s.intake.lostFrames, s.intake.slips, s.intake.checkErrors, s.beacon.failures, s.table.conflicts, s.table.skips,
    s.access.collisions, s.access.missedSlots, s.host.checkErrors, s.host.droppedEvents]

/-- R161: some parameter has a pending value. -/
def State.paramsPending (s : State) : Bool := s.host.pendingParams.any Option.isSome

/-- 12.4.2: byte 4 of the status. -/
def State.statusFlags (s : State) : Nat :=
  flagBit s.pins.txinh 5 + flagBit (s.intake.timing == .tracking) 4 + flagBit s.call.emergency 3
    + flagBit s.roam.hold 2 + flagBit s.groups.identity.isSome 1 + flagBit s.paramsPending 0

/-- 12.4.2, R163: the 29 bytes of the status. -/
def State.statusBytes (s : State) : List Byte :=
  [s.roam.engine.toByte, s.access.state.toByte, indexByte s.serving, indexByte s.ranking.watch, byte s.statusFlags,
    s.call.call.toByte]
    ++ be24 ((s.groups.identity.getD 0).toNat) ++ s.counters.flatMap be16

/-- QUERY STATUS (R163). -/
def State.queryStatus (s : State) (f : HostFrame) : State :=
  if f.body.length ≠ 0 then s.reply f .format else s.reply f .ok s.statusBytes

/-! ## RECALL CLEAR, RESET and unknown kinds -/

/-- RECALL CLEAR (R151). -/
def State.recallClear (s : State) (f : HostFrame) : State :=
  if f.body.length ≠ 0 then s.reply f .format else (s.setRecallArea s.recallArea.clear).reply f .ok

/-- RESET (R164, R167): its OK reply is queued, from the taking on no further command is taken, and a group assembly is
discarded. -/
def State.resetCommand (s : State) (f : HostFrame) : State :=
  if f.body.length ≠ 0 then s.reply f .format
  else (s.setHost { s.host with resetTaken := true, assembly := none }).reply f .ok

/-- R158: a frame whose kind is no command's is answered UNKNOWN KIND. -/
def State.unknownKind (s : State) (f : HostFrame) : State := s.reply f .unknownKind

/-! ## The rows -/

/-- R157: a row of the table takes the frame at the head of the intake queue when it has the row's kind. -/
def takeKind (kind : Byte) (handle : State → HostFrame → State) (s : State) : State :=
  whileRunning (fun t => t.takeCommand (fun k => k == kind) handle) s

/-- UNKNOWN_KIND_COMMAND (R158). -/
def execUnknownKindCommand (s : State) : Host.Outcome State Fault Refusal :=
  .next (whileRunning (fun t => t.takeCommand (fun k => !isCommandKind k) State.unknownKind) s)

/-- PROVISION (R160). -/
def execProvision (s : State) : Host.Outcome State Fault Refusal := .next (takeKind kindProvision State.provision s)

/-- SET_PARAMETERS (R161). -/
def execSetParameters (s : State) : Host.Outcome State Fault Refusal :=
  .next (takeKind kindSetParameters State.setParameters s)

/-- LOAD_SITE (R7, R8). -/
def execLoadSite (s : State) : Host.Outcome State Fault Refusal :=
  .next (takeKind kindLoadSite State.loadSiteCommand s)

/-- DROP_SITE (R16). -/
def execDropSite (s : State) : Host.Outcome State Fault Refusal :=
  .next (takeKind kindDropSite State.dropSiteCommand s)

/-- SET_HUNT_CHANNELS (R82). -/
def execSetHuntChannels (s : State) : Host.Outcome State Fault Refusal :=
  .next (takeKind kindSetHuntChannels State.setHuntChannels s)

/-- SET_GROUPS (R136, R167). -/
def execSetGroups (s : State) : Host.Outcome State Fault Refusal :=
  .next (takeKind kindSetGroups State.setGroupsCommand s)

/-- START (R91). -/
def execStart (s : State) : Host.Outcome State Fault Refusal := .next (takeKind kindStart State.startCommand s)

/-- STOP (R92). -/
def execStop (s : State) : Host.Outcome State Fault Refusal := .next (takeKind kindStop State.stopCommand s)

/-- CALL_STATE (R143). -/
def execCallState (s : State) : Host.Outcome State Fault Refusal :=
  .next (takeKind kindCallState State.callStateCommand s)

/-- ROAM_HOLD (R94). -/
def execRoamHold (s : State) : Host.Outcome State Fault Refusal :=
  .next (takeKind kindRoamHold State.roamHoldCommand s)

/-- ROAM_TO (R97). -/
def execRoamTo (s : State) : Host.Outcome State Fault Refusal := .next (takeKind kindRoamTo State.roamToCommand s)

/-- ROAM_ABORT (R123). -/
def execRoamAbort (s : State) : Host.Outcome State Fault Refusal :=
  .next (takeKind kindRoamAbort State.roamAbortCommand s)

/-- QUERY_SITE (R1). -/
def execQuerySite (s : State) : Host.Outcome State Fault Refusal := .next (takeKind kindQuerySite State.querySite s)

/-- QUERY_STATUS (R163). -/
def execQueryStatus (s : State) : Host.Outcome State Fault Refusal :=
  .next (takeKind kindQueryStatus State.queryStatus s)

/-- RECALL_CLEAR (R151). -/
def execRecallClear (s : State) : Host.Outcome State Fault Refusal :=
  .next (takeKind kindRecallClear State.recallClear s)

/-- RESET (R164). -/
def execReset (s : State) : Host.Outcome State Fault Refusal := .next (takeKind kindReset State.resetCommand s)

end Sys2Proof.Machine
end

