-- ==== Sys2Proof/Machine/Limits.lean ====
section
/-! DEFINITION. The limit rows of the table: each is the count that reaches its limit, on its own, with what follows from it
(log 3). A row whose count does not reach its limit at the next increase changes nothing (log 2). -/

namespace Sys2Proof.Machine

/-- R18: the heard age of a HEARD entry reaches the heard age limit. -/
def State.heardAgeLimit (s : State) (i : Nat) : State :=
  if (s.entry i).reachesAge (s.par .heardAgeLimit) then s.ageEntry i else s

/-- R21: the barred timer of an entry reaches 0. -/
def State.barEnd (s : State) (i : Nat) : State :=
  if (s.entry i).barred = 1 then s.setEntry i (s.entry i).barTick else s

/-- R22: the decay counter reaches the decay interval. -/
def State.departureDecay (s : State) : State :=
  if s.par .decayInterval ≤ s.table.decay + 1 then s.decayTick else s

/-- R55: the digest is present and its next age reaches the digest age limit. -/
def Entry.digestExpires (limit : Nat) (e : Entry) : Bool :=
  match e.digest with
  | some d => decide (limit ≤ min (d.age + 1) 255)
  | none => false

/-- R55: the age of an entry's digest reaches the digest age limit. -/
def State.digestAgeLimit (s : State) (i : Nat) : State :=
  if (s.entry i).digestExpires (s.par .digestAgeLimit) then s.setEntry i { s.entry i with digest := none } else s

/-- R73: the report counter reaches the report interval in CAMPED. -/
def State.servingReport (s : State) : State :=
  if s.roam.engine = .camped ∧ 0 < s.par .reportInterval ∧ s.par .reportInterval ≤ s.ranking.reportCount + 1 then
    s.reportTick
  else s

/-- R34: the serving loss counter reaches the loss limit in CAMPED. -/
def State.servingLossLimit (s : State) : State :=
  if s.roam.engine = .camped ∧ s.par .lossLimit ≤ s.intake.loss + 1 then s.raiseLost.takeLost .loss else s

/-- R85: the hunt-listen in progress reaches its read limit. -/
def State.huntListenReadLimit (s : State) : State :=
  match s.scan.listen with
  | some l => if l.limit ≤ l.count + 1 then s.endListen else s
  | none => s

/-- R105: the hunt timer reaches the hunt limit. -/
def State.huntLimit (s : State) : State :=
  if s.roam.huntRuns = true ∧ s.par .huntLimit ≤ min (s.roam.huntTimer + 1) 255 then s.huntTick else s

/-- R113: the wait in READING reaches the read limit. -/
def State.readingUnreadable (s : State) : State :=
  if s.access.state = .reading ∧ s.access.readLimit ≤ s.access.wait + 1 then
    s.countWait.failRoam .unreadable (some 0)
  else s

/-- R119: the wait for a grant reaches the grant wait. -/
def State.grantWaitTimeout (s : State) : State :=
  if s.access.state = .awaitingGrant ∧ s.access.grantWait ≤ s.access.wait + 1 then s.countWait.grantTimeout else s

/-- R121: the registration multiframe count reaches the registration limit. -/
def State.tooLong (s : State) : State :=
  if s.access.state.registering = true ∧ s.access.registrationLimit ≤ s.access.multiframes + 1 then
    (s.countMultiframe true).failRoam .tooLong (some 0)
  else s

/-- R124, R125: the wait for AFFIL ACK reaches the grant wait. -/
def State.affilAckWaitTimeout (s : State) : State :=
  if s.access.awaitingAck = true ∧ s.access.grantWait ≤ s.access.wait + 1 then
    match s.access.state with
    | .continuing => s.countWait.continueTimeout
    | .affiliating => s.countWait.affiliateTimeout
    | _ => s
  else s

/-- R35: the silence timer expires: the timing reference becomes HOLDOVER, FRONT-END SILENT is sent, and in CAMPED the serving
site is lost. -/
def State.silenceTimeout (s : State) : State :=
  if s.intake.silenceRunning then
    let s1 := (s.setIntake { s.intake with silenceRunning := false, timing := .holdover }).event .frontEndSilent
    if s1.roam.engine = .camped then s1.raiseLost.takeLost .silence else s1
  else s

/-- HEARD_AGE_LIMIT (R18). -/
def execHeardAgeLimit (index : Nat) (s : State) : Host.Outcome State Fault Refusal :=
  .next (whileRunning (fun t => t.heardAgeLimit index) s)

/-- BAR_END (R21). -/
def execBarEnd (index : Nat) (s : State) : Host.Outcome State Fault Refusal :=
  .next (whileRunning (fun t => t.barEnd index) s)

/-- DEPARTURE_DECAY (R22). -/
def execDepartureDecay (s : State) : Host.Outcome State Fault Refusal := .next (whileRunning State.departureDecay s)

/-- DIGEST_AGE_LIMIT (R55). -/
def execDigestAgeLimit (index : Nat) (s : State) : Host.Outcome State Fault Refusal :=
  .next (whileRunning (fun t => t.digestAgeLimit index) s)

/-- SERVING_REPORT (R73). -/
def execServingReport (s : State) : Host.Outcome State Fault Refusal := .next (whileRunning State.servingReport s)

/-- SERVING_LOSS_LIMIT (R34, R96). -/
def execServingLossLimit (s : State) : Host.Outcome State Fault Refusal := .next (whileRunning State.servingLossLimit s)

/-- HUNT_LISTEN_READ_LIMIT (R85). -/
def execHuntListenReadLimit (s : State) : Host.Outcome State Fault Refusal :=
  .next (whileRunning State.huntListenReadLimit s)

/-- HUNT_LIMIT (R105). -/
def execHuntLimit (s : State) : Host.Outcome State Fault Refusal := .next (whileRunning State.huntLimit s)

/-- READING_UNREADABLE (R113). -/
def execReadingUnreadable (s : State) : Host.Outcome State Fault Refusal :=
  .next (whileRunning State.readingUnreadable s)

/-- GRANT_WAIT_TIMEOUT (R119). -/
def execGrantWaitTimeout (s : State) : Host.Outcome State Fault Refusal := .next (whileRunning State.grantWaitTimeout s)

/-- TOO_LONG (R121). -/
def execTooLong (s : State) : Host.Outcome State Fault Refusal := .next (whileRunning State.tooLong s)

/-- AFFIL_ACK_WAIT_TIMEOUT (R124, R125). -/
def execAffilAckWaitTimeout (s : State) : Host.Outcome State Fault Refusal :=
  .next (whileRunning State.affilAckWaitTimeout s)

/-- SILENCE_TIMEOUT (R35). -/
def execSilenceTimeout (s : State) : Host.Outcome State Fault Refusal := .next (whileRunning State.silenceTimeout s)

end Sys2Proof.Machine
end

