-- ==== Sys2Proof/Machine/LineEvents.lean ====
section
/-! DEFINITION. The rows of the two receive lines and of the frame queue: what arrives, the inter-byte gap, and the taking of
a record. Which record the bytes complete or discard is for the receiver to find (log 5). -/

namespace Sys2Proof.Machine

/-- FRAME_RECORD_COMPLETE (R24, R25, R29): bytes on MRX. -/
def execFrameRecordComplete (bytes : List Byte) (s : State) : Host.Outcome State Fault Refusal :=
  .next (whileRunning (fun t => t.receiveFrontEnd bytes) s)

/-- BURST_DONE (R27, R117): bytes on MRX. -/
def execBurstDone (bytes : List Byte) (s : State) : Host.Outcome State Fault Refusal :=
  .next (whileRunning (fun t => t.receiveFrontEnd bytes) s)

/-- FRONT_END_LENGTH_DISCARD (R24): bytes on MRX. -/
def execFrontEndLengthDiscard (bytes : List Byte) (s : State) : Host.Outcome State Fault Refusal :=
  .next (whileRunning (fun t => t.receiveFrontEnd bytes) s)

/-- RECORD_TAKEN (R30, R31). -/
def execRecordTaken (s : State) : Host.Outcome State Fault Refusal := .next (whileRunning State.takeRecord s)

/-- HOST_FRAME_COMPLETE (R155, R157): bytes on HRX. -/
def execHostFrameComplete (bytes : List Byte) (s : State) : Host.Outcome State Fault Refusal :=
  .next (whileRunning (fun t => t.receiveHost bytes) s)

/-- HOST_FRAME_LENGTH_DISCARD (R155): bytes on HRX. -/
def execHostFrameLengthDiscard (bytes : List Byte) (s : State) : Host.Outcome State Fault Refusal :=
  .next (whileRunning (fun t => t.receiveHost bytes) s)

/-- INTER_BYTE_GAP_TIMEOUT (R155). -/
def execInterByteGapTimeout (s : State) : Host.Outcome State Fault Refusal := .next (whileRunning State.gapTimeout s)

end Sys2Proof.Machine
end

