-- ==== Sys2Proof/Machine/Resets.lean ====
section
/-! DEFINITION. Resets and power (R141, R153, R164, R165), the sending of the transmit queue, and the ends of the recall
writer's operations (R150). -/

namespace Sys2Proof.Machine

/-! ## Reset values -/

/-- R90, R164: the first record sent after a reset: ENGINE STATE from STOPPED to STOPPED with the reset's cause, tag 0. -/
def resetEvent (cause : EngineCause) : HostFrame :=
  let e : Event := .engineState .stopped .stopped cause false
  { kind := e.kind, tag := 0#8, body := e.body }

/-- R23, R39, R56, R74, R88, R106, R127, R140, R148, R164, R165: every block takes its reset values; the Recall Area is as the
kind of reset leaves it (R152, R153). The model's own counter and its queue of commands stand (log 33). -/
def State.takeResetValues (s : State) (area : RecallArea) (cause : EngineCause) : State :=
  { State.reset with
    recallArea := area
    host := { State.reset.host with transmit := [resetEvent cause] }
    free := s.free
    pending := s.pending }

/-- R164: the soft reset that RESET leads to. -/
def State.softReset (s : State) : State := s.takeResetValues s.recallArea.softReset .softReset

/-- R164: a record is the OK reply of RESET. -/
def HostFrame.endsReset (r : HostFrame) : Bool := r.isReply && r.body == [kindReset, ReplyCode.ok.toByte]

/-! ## The transmit line -/

/-- R159, R164: the last byte of the record at the head of the transmit queue has been sent. After RESET has been taken, the
sending of its OK reply is the moment of the soft reset (log 17). -/
def State.recordSent (s : State) : State :=
  match s.host.transmit with
  | r :: rest =>
    if s.host.resetTaken && r.endsReset then s.softReset else s.setHost { s.host with transmit := rest }
  | [] => s

/-- R164: the soft reset falls due when RESET has been taken and its OK reply is the record being sent (log 17). -/
def State.softResetDue (s : State) : State :=
  match s.host.transmit with
  | r :: _ => if s.host.resetTaken && r.endsReset then s.softReset else s
  | [] => s

/-! ## Power and RSTN -/

/-- R141, R153, R164: RSTN goes low or the power fails: TXINH is released, and an operation of the recall writer in flight ends
unfinished. The other state is lost; it stands unread until the reset values replace it. -/
def State.powerDown (s : State) (supply : Supply) : State :=
  ((s.setRecallArea (s.recallArea.interrupt s.free)).setPins { txinh := false, supply := supply }).nextFree

/-- R164: RSTN is held low; without power it changes nothing. -/
def State.rstnLow (s : State) : State := if s.pins.supply = .running then s.powerDown .resetHeld else s

/-- R153: the power is lost. -/
def State.powerLoss (s : State) : State := if s.pins.supply = .off then s else s.powerDown .off

/-- R164: the supplies are established or RSTN returns high: the reset values are taken, with cause POWER-ON. While the LN742 is
running neither can happen (log 16). -/
def State.powerOn (s : State) : State :=
  if s.pins.supply = .running then s else s.takeResetValues s.recallArea.powerOn .powerOn

/-! ## The recall writer -/

/-- R150: the write in flight runs to its completion. -/
def State.recallWriteComplete (s : State) : State :=
  match s.recallArea.writer with
  | .writing site => (s.setRecallArea (s.recallArea.finishWrite s.free site)).nextFree
  | _ => s

/-- R150: the erase in flight runs to its completion. -/
def State.recallEraseComplete (s : State) : State :=
  match s.recallArea.writer with
  | .erasing => s.setRecallArea s.recallArea.finishErase
  | _ => s

/-- RECORD_SENT (R159, R164). -/
def execRecordSent (s : State) : Host.Outcome State Fault Refusal := .next (whileRunning State.recordSent s)

/-- SOFT_RESET (R164). -/
def execSoftReset (s : State) : Host.Outcome State Fault Refusal := .next (whileRunning State.softResetDue s)

/-- RSTN_LOW (R141, R164). -/
def execRstnLow (s : State) : Host.Outcome State Fault Refusal := .next s.rstnLow

/-- POWER_ON (R164). -/
def execPowerOn (s : State) : Host.Outcome State Fault Refusal := .next s.powerOn

/-- RECALL_WRITE_COMPLETE (R150). -/
def execRecallWriteComplete (s : State) : Host.Outcome State Fault Refusal :=
  .next (whileRunning State.recallWriteComplete s)

/-- RECALL_ERASE_COMPLETE (R150). -/
def execRecallEraseComplete (s : State) : Host.Outcome State Fault Refusal :=
  .next (whileRunning State.recallEraseComplete s)

/-- POWER_LOSS (R153). -/
def execPowerLoss (s : State) : Host.Outcome State Fault Refusal := .next s.powerLoss

end Sys2Proof.Machine
end

