-- ==== Sys2Proof/Machine/Dispatch.lean ====
section
/-! DEFINITION. The dispatch: one arm for each row of spec/opcode_table.json. -/

namespace Sys2Proof.Machine

/-- The effect of a command on everything but the queue of commands. -/
def exec (i : Instr) (s : State) : Host.Outcome State Fault Refusal :=
  match i with
  | .frameRecordComplete bytes => Sys2Proof.Machine.execFrameRecordComplete bytes s
  | .burstDone bytes => Sys2Proof.Machine.execBurstDone bytes s
  | .recordTaken => Sys2Proof.Machine.execRecordTaken s
  | .heardAgeLimit index => Sys2Proof.Machine.execHeardAgeLimit index s
  | .barEnd index => Sys2Proof.Machine.execBarEnd index s
  | .departureDecay => Sys2Proof.Machine.execDepartureDecay s
  | .digestAgeLimit index => Sys2Proof.Machine.execDigestAgeLimit index s
  | .servingReport => Sys2Proof.Machine.execServingReport s
  | .servingLossLimit => Sys2Proof.Machine.execServingLossLimit s
  | .huntListenReadLimit => Sys2Proof.Machine.execHuntListenReadLimit s
  | .huntLimit => Sys2Proof.Machine.execHuntLimit s
  | .readingUnreadable => Sys2Proof.Machine.execReadingUnreadable s
  | .grantWaitTimeout => Sys2Proof.Machine.execGrantWaitTimeout s
  | .tooLong => Sys2Proof.Machine.execTooLong s
  | .affilAckWaitTimeout => Sys2Proof.Machine.execAffilAckWaitTimeout s
  | .silenceTimeout => Sys2Proof.Machine.execSilenceTimeout s
  | .hostFrameComplete bytes => Sys2Proof.Machine.execHostFrameComplete bytes s
  | .interByteGapTimeout => Sys2Proof.Machine.execInterByteGapTimeout s
  | .unknownKindCommand => Sys2Proof.Machine.execUnknownKindCommand s
  | .provision => Sys2Proof.Machine.execProvision s
  | .setParameters => Sys2Proof.Machine.execSetParameters s
  | .loadSite => Sys2Proof.Machine.execLoadSite s
  | .dropSite => Sys2Proof.Machine.execDropSite s
  | .setHuntChannels => Sys2Proof.Machine.execSetHuntChannels s
  | .setGroups => Sys2Proof.Machine.execSetGroups s
  | .start => Sys2Proof.Machine.execStart s
  | .stop => Sys2Proof.Machine.execStop s
  | .callState => Sys2Proof.Machine.execCallState s
  | .roamHold => Sys2Proof.Machine.execRoamHold s
  | .roamTo => Sys2Proof.Machine.execRoamTo s
  | .roamAbort => Sys2Proof.Machine.execRoamAbort s
  | .querySite => Sys2Proof.Machine.execQuerySite s
  | .queryStatus => Sys2Proof.Machine.execQueryStatus s
  | .recallClear => Sys2Proof.Machine.execRecallClear s
  | .reset => Sys2Proof.Machine.execReset s
  | .recordSent => Sys2Proof.Machine.execRecordSent s
  | .softReset => Sys2Proof.Machine.execSoftReset s
  | .rstnLow => Sys2Proof.Machine.execRstnLow s
  | .powerOn => Sys2Proof.Machine.execPowerOn s
  | .recallWriteComplete => Sys2Proof.Machine.execRecallWriteComplete s
  | .recallEraseComplete => Sys2Proof.Machine.execRecallEraseComplete s
  | .powerLoss => Sys2Proof.Machine.execPowerLoss s
  | .hostFrameLengthDiscard bytes => Sys2Proof.Machine.execHostFrameLengthDiscard bytes s
  | .frontEndLengthDiscard bytes => Sys2Proof.Machine.execFrontEndLengthDiscard bytes s

end Sys2Proof.Machine
end

