-- ==== Sys2Proof/Safety.lean ====
section
/-! DEFINITION. What counts as a safe state of the LN742, and the terms in which the statements speak of the Host Link. -/

namespace Sys2Proof.Machine

/-! ## Invariants -/

/-- R141, R164: TXINH is asserted exactly while the LN742 runs with the engine in HUNT or REGISTERING. -/
def State.inhibitSound (s : State) : Prop :=
  s.pins.txinh = (decide (s.pins.supply = .running) && s.roam.engine.inhibits)

/-- R29: the intake queue holds at most 4 records, and a held record exists only while 4 are queued. -/
def State.framesBounded (s : State) : Prop :=
  s.intake.queue.length ≤ 4 ∧ (s.intake.held ≠ none → s.intake.queue.length = 4)

/-- R157: the command intake queue holds at most 4 frames. -/
def State.commandsBounded (s : State) : Prop := s.host.intake.length ≤ 4

/-- R157, R159: the transmit queue holds at most 12 events, at most 3 replies to commands and at most one BUSY reply, so at most
16 records. -/
def State.transmitBounded (s : State) : Prop :=
  eventsWaiting s.host.transmit ≤ 12
    ∧ (s.host.transmit.countP fun r => r.isReply && !r.isBusy) ≤ 3
    ∧ s.host.transmit.countP HostFrame.isBusy ≤ 1

/-- The three queues within their bounds. -/
def State.queuesBounded (s : State) : Prop := s.framesBounded ∧ s.commandsBounded ∧ s.transmitBounded

/-- R149: the recall page is in its canonical form and lies within its 192 addresses. -/
def State.pageSound (s : State) : Prop := Memory.wf s.recallArea.page = true

/-- R1: the table has its twelve entries. -/
def State.tableSound (s : State) : Prop := s.table.entries.length = 12

/-- R1, R45, R80, R82, R135, R152, R161: the sizes that stand: twelve entries, 16 positions in each store, 27 active and 27 pending
parameter values; and the bounds of the recall list, the hunt channel list, the group list and the candidate pointer. -/
def State.sizesSound (s : State) : Prop :=
  s.tableSound ∧ s.beacon.servingStore.places.length = 16 ∧ s.beacon.watchStore.places.length = 16
    ∧ s.host.active.length = 27 ∧ s.host.pendingParams.length = 27 ∧ s.recallArea.list.length ≤ 4
    ∧ s.scan.huntChannels.length ≤ 24 ∧ s.groups.groups.length ≤ 16 ∧ s.scan.pointer < 12

/-- R62: every filtered level lies within 0..4080; the level codes that wait within 0..255 (R26). -/
def State.levelsSound (s : State) : Prop :=
  (∀ e ∈ s.table.entries, e.level ≤ 4080) ∧ (∀ f ∈ s.intake.queue ++ s.intake.held.toList, f.level ≤ 255)

/-- R163: every counter lies within its 16 bits. -/
def State.countersBounded (s : State) : Prop := ∀ n ∈ s.counters, n ≤ 65535

/-- R164: the rows at which a reset can take place. -/
def mayReset : Instr → Bool
  | .recordSent => true
  | .softReset => true
  | .powerOn => true
  | _ => false

/-! ## The Site Table as the statements speak of it -/

/-- R5: a pair clash: an occupied entry, at another index than the one given, holds the channel and colour. -/
def State.clashes (s : State) (codeMatch : Option Nat) (p : Pair) : Prop :=
  ∃ j < 12, some j ≠ codeMatch ∧ (s.entry j).status ≠ .free ∧ (s.entry j).channel = p.channel ∧ (s.entry j).colour = p.colour

/-- R8, R10, R11, R13: the place a new site takes: the FREE entry of lowest index or, with no entry FREE, the one eviction
chooses. -/
def State.takesNew (s : State) (kept : List Nat) (i : Nat) : Prop :=
  (i < 12 ∧ (s.entry i).status = .free ∧ ∀ j < i, (s.entry j).status ≠ .free)
    ∨ ((∀ j < 12, (s.entry j).status ≠ .free) ∧ s.victim kept = some i)

/-- R8, R10, R11, R13: no entry is FREE and none evictable. -/
def State.hasNoPlace (s : State) (kept : List Nat) : Prop :=
  (∀ j < 12, (s.entry j).status ≠ .free) ∧ s.victim kept = none

/-- R8, R10, R11, R13: an entry newly admitted: LISTED, with every count and timer 0. -/
def admittedEntry (code : Nat) (p : Pair) (origin : Origin) (preference : Int) (digest : Option Digest) : Entry :=
  { status := .listed, code := code, channel := p.channel, colour := p.colour, origin := origin, preference := preference
    level := 0, samples := 0, dwell := 0, heardAge := 0, barred := 0, penalty := 0, digest := digest }

/-- R6: an occupied entry takes a channel and colour: where they differ it becomes LISTED with F, n and dwell count 0. -/
def Entry.repaired (e : Entry) (p : Pair) : Entry :=
  if e.channel = p.channel ∧ e.colour = p.colour then e
  else { e with channel := p.channel, colour := p.colour, status := .listed, level := 0, samples := 0, dwell := 0 }

/-- R163: the table with the identity conflict counter one higher. -/
def State.conflictCounted (s : State) : State :=
  s.setTable { s.table with conflicts := min (s.table.conflicts + 1) 65535 }

/-- The table with another entry at an index. -/
def State.withEntry (s : State) (i : Nat) (e : Entry) : SiteTable :=
  { s.table with entries := s.table.entries.set i e }

/-- R15, R16, R76: the site that the entry at an index holds leaves the table: a visit in progress for it has lost its object. -/
def State.withoutObject (s : State) (i : Nat) : State :=
  s.setScan
    { s.scan with
      visit := s.scan.visit.map fun v =>
        if (s.entry i).status ≠ .free ∧ (s.entry i).code = v.code then { v with objectGone := true } else v }

/-- R18, R21, R22, R55: an entry at a multiframe start: its heard age, bar, penalty and digest age move, and act at their limits. -/
def Entry.afterMultiframe (e : Entry) (ageLimit digestLimit : Nat) (decays : Bool) : Entry :=
  let age := if e.status = .free ∨ e.status = .serving then e.heardAge else min (e.heardAge + 1) 255
  let falls : Bool := decide (e.status = .heard ∧ ageLimit ≤ age)
  { e with
    heardAge := age
    status := if falls then .listed else e.status
    level := if falls then 0 else e.level
    samples := if falls then 0 else e.samples
    dwell := if falls then 0 else e.dwell
    barred := e.barred - 1
    penalty := if decays then e.penalty - 1 else e.penalty
    digest := e.digest.bind fun d =>
      if digestLimit ≤ min (d.age + 1) 255 then none else some { d with age := min (d.age + 1) 255 } }

/-! ## Bursts and the group list as the statements speak of them -/

/-- 12.1, R116: the REGISTER burst at a position. -/
def State.registerBurst (s : State) (position : Nat) : FrontEndRecord :=
  .burst position .register
    (be24 (s.groups.identity.getD 0#24).toNat ++ be16 s.access.previous
      ++ [BitVec.ofNat 8 s.groups.groups.length, if s.call.emergency = true then 1#8 else 0#8])

/-- 12.1, R124, R125: the burst that carries the given entries: their number, then their group IDs in list order. -/
def State.groupBurst (s : State) (position : Nat) (kind : BurstKind) (carried : List Nat) : FrontEndRecord :=
  .burst position kind
    (BitVec.ofNat 8 carried.length ::
      carried.flatMap fun i =>
        match s.groups.groups[i]? with
        | some e => be24 e.id.toNat
        | none => [])

/-- R124, R125: the first up to 4 UNSENT entries in list order. -/
def State.firstUnsent (s : State) : List Nat :=
  ((List.range s.groups.groups.length).filter fun i =>
    (s.groups.groups[i]?.map Group.delivery) == some .unsent).take 4

/-- R137: the group list with the given entries SENT. -/
def State.groupsSent (s : State) (carried : List Nat) : GroupList :=
  { s.groups with
    groups := s.groups.groups.mapIdx fun i e => if i ∈ carried then { e with delivery := .sent } else e }

/-- R137: the group list with the SENT entries among the given ones UNSENT again (log 20). -/
def State.groupsReturned (s : State) (carried : List Nat) : GroupList :=
  { s.groups with
    groups := s.groups.groups.mapIdx fun i e =>
      if i ∈ carried ∧ e.delivery = .sent then { e with delivery := .unsent } else e }

/-- R137: the group list with every SENT entry UNSENT again. -/
def State.groupsAllReturned (s : State) : GroupList :=
  { s.groups with
    groups := s.groups.groups.map fun e => if e.delivery = .sent then { e with delivery := .unsent } else e }

/-- R114, R116: the position before which a burst is sent: the next one, when the backoff count is 1, the position is an odd one
below 2N and attempts are left. -/
def State.burstDue (s : State) (backoff slots attempts limit : Nat) : Option Nat :=
  match s.access.sitePosition with
  | some p =>
    let next := (p + 1) % 16
    if backoff = 1 ∧ next % 2 = 1 ∧ next < 2 * slots ∧ attempts < limit then some next else none
  | none => none

/-! ## The Host Link as the statements speak of it -/

/-- R157, R164: the frame stands at the head of the intake queue, `rest` behind it, and a command may be taken. -/
def State.offers (s : State) (f : HostFrame) (rest : List HostFrame) : Prop :=
  s.pins.supply = .running ∧ s.host.resetTaken = false ∧ repliesWaiting s.host.transmit < 3
    ∧ s.host.intake = f :: rest

/-- R157: the head of the intake queue taken. -/
def HostLink.taken (h : HostLink) (rest : List HostFrame) : HostLink := { h with intake := rest }

/-- R158, R159, 12.4.2: a reply queued, with the command's kind, the code and the result bytes, under the command's tag. -/
def HostLink.answer (h : HostLink) (f : HostFrame) (code : ReplyCode) (result : List Byte) : HostLink :=
  { h with transmit := h.transmit ++ [{ kind := 0x80#8, tag := f.tag, body := f.kind :: code.toByte :: result }] }

/-- R159: an event offered to the transmit queue: queued with the sequence number as its tag, or with 12 events waiting dropped
and counted; it takes its number either way. -/
def HostLink.offer (h : HostLink) (e : Event) : HostLink :=
  if eventsWaiting h.transmit < 12 then
    { h with
      transmit := h.transmit ++ [{ kind := e.kind, tag := h.sequence, body := e.body }]
      sequence := h.sequence + 1 }
  else { h with sequence := h.sequence + 1, droppedEvents := min (h.droppedEvents + 1) 65535 }

/-- A refused command: taken and answered, nothing else (R158). -/
def State.refusedWith (s : State) (f : HostFrame) (rest : List HostFrame) (code : ReplyCode) : State :=
  s.setHost ((s.host.taken rest).answer f code [])

/-- 12.4.1: the rows of the sixteen commands with their kinds and the bodies whose length Section 12 allows. -/
def commandRows : List (Instr × Byte × (List Byte → Bool)) :=
  [(.provision, 0x01, fun b => b.length == 3),
   (.setParameters, 0x02, fun b => b.length % 3 == 0 && decide (b.length ≤ 39)),
   (.loadSite, 0x03, fun b => b.length == 7),
   (.dropSite, 0x04, fun b => b.length == 2),
   (.setHuntChannels, 0x05, fun b =>
      match b with
      | c :: packed => packed.length == (10 * c.toNat + 7) / 8 && decide (c.toNat ≤ 31)
      | [] => false),
   (.setGroups, 0x06, fun b => b.length % 6 == 1 && decide (b.length ≤ 37)),
   (.start, 0x07, fun b => b.length == 0),
   (.stop, 0x08, fun b => b.length == 0),
   (.callState, 0x09, fun b => b.length == 2),
   (.roamHold, 0x0A, fun b => b.length == 1),
   (.roamTo, 0x0B, fun b => b.length == 2),
   (.roamAbort, 0x0C, fun b => b.length == 0),
   (.querySite, 0x0D, fun b => b.length == 1),
   (.queryStatus, 0x0E, fun b => b.length == 0),
   (.recallClear, 0x0F, fun b => b.length == 0),
   (.reset, 0x10, fun b => b.length == 0)]

end Sys2Proof.Machine
end

