-- ==== Sys2Proof/WellFormed.lean ====
section
/-! DEFINITION. Which commands are well formed: a line row brings at least one byte, and a limit row names one of the
twelve entries (R1). `exec` gives every command a meaning; an ill-formed one changes nothing. -/

namespace Sys2Proof

/-- At least one byte arrives on a receive line (R24, R155). -/
def bytesWellFormed (bytes : List Byte) : Bool := !bytes.isEmpty

/-- The table has entries 0 to 11 (section 1.1). -/
def indexWellFormed (index : Nat) : Bool := decide (index < 12)

/-- The well-formedness of a command's operands. -/
def Instr.wellFormed : Instr → Bool
  | .frameRecordComplete bytes => bytesWellFormed bytes
  | .burstDone bytes => bytesWellFormed bytes
  | .recordTaken => true
  | .heardAgeLimit index => indexWellFormed index
  | .barEnd index => indexWellFormed index
  | .departureDecay => true
  | .digestAgeLimit index => indexWellFormed index
  | .servingReport => true
  | .servingLossLimit => true
  | .huntListenReadLimit => true
  | .huntLimit => true
  | .readingUnreadable => true
  | .grantWaitTimeout => true
  | .tooLong => true
  | .affilAckWaitTimeout => true
  | .silenceTimeout => true
  | .hostFrameComplete bytes => bytesWellFormed bytes
  | .interByteGapTimeout => true
  | .unknownKindCommand => true
  | .provision => true
  | .setParameters => true
  | .loadSite => true
  | .dropSite => true
  | .setHuntChannels => true
  | .setGroups => true
  | .start => true
  | .stop => true
  | .callState => true
  | .roamHold => true
  | .roamTo => true
  | .roamAbort => true
  | .querySite => true
  | .queryStatus => true
  | .recallClear => true
  | .reset => true
  | .recordSent => true
  | .softReset => true
  | .rstnLow => true
  | .powerOn => true
  | .recallWriteComplete => true
  | .recallEraseComplete => true
  | .powerLoss => true
  | .hostFrameLengthDiscard bytes => bytesWellFormed bytes
  | .frontEndLengthDiscard bytes => bytesWellFormed bytes

end Sys2Proof
end

