-- ==== Sys2Proof/Certificates/Slice0/Obligations.lean ====
section
/-! DEFINITION. The statements for the provers. Each docstring names the rules it rests on; a clause that rests on the model's
choice names its log entry. -/

open Sys2Proof Sys2Proof.Machine

/-! ## The machine as a whole -/

/-- One step runs the command at the front of the queue on the state with the rest of the queue; with no command waiting the block
idles (log 4, the model's choice). -/
def Obligations.StepRunsTheFrontCommand : Prop :=
  (∀ (s : State) (c : Instr) (rest : List Instr),
    s.pending = c :: rest → step s = exec c { s with pending := rest })
    ∧ ∀ s : State, s.pending = [] → step s = .next s

/-- The state after reset meets the invariants that every step keeps (R1, R29, R39, R45, R62, R82, R141, R149, R157, R159, R161,
R163). -/
def Obligations.ResetMeetsTheInvariants : Prop :=
  State.reset.inhibitSound ∧ State.reset.queuesBounded ∧ State.reset.pageSound ∧ State.reset.sizesSound
    ∧ State.reset.levelsSound ∧ State.reset.countersBounded

/-- R141, R164: while the LN742 runs, TXINH is asserted exactly while the engine is HUNT or REGISTERING. That TXINH is released
without power, where R141 speaks of RSTN alone, is the model's choice (log 16). -/
def Obligations.EveryStepKeepsTheInhibitSound : Prop :=
  ∀ s t : State, s.inhibitSound → step s = .next t → t.inhibitSound

/-- R29, R157, R159: the frame queue, the command queue and the transmit queue stay within their bounds. R1, R45, R80, R82, R135,
R152, R161: the table, the stores and the parameter sets keep their sizes, and the recall list, the hunt channel list, the group
list and the candidate pointer their bounds. -/
def Obligations.EveryStepKeepsTheQueuesBounded : Prop :=
  (∀ s t : State, s.queuesBounded → step s = .next t → t.queuesBounded)
    ∧ ∀ s t : State, s.sizesSound → step s = .next t → t.sizesSound

/-- R149: the recall page stays in its canonical form, whatever an interrupted or failed write leaves. -/
def Obligations.EveryStepKeepsTheRecallPageCanonical : Prop :=
  ∀ s t : State, s.pageSound → step s = .next t → t.pageSound

/-- R62: every filtered level stays within 0..4080, and every level code that waits within 0..255. -/
def Obligations.EveryStepKeepsTheLevelsInRange : Prop :=
  ∀ s t : State, s.levelsSound → step s = .next t → t.levelsSound

/-- What the host sets changes by its own command alone, or at a reset: the call state record (R143), the roam hold (R94), the
radio identity and the provisioning lock (R160), the hunt channel list (R82), the group assembly (R167: RESET discards it), the
pending and active parameters (R161, R162); and the recall list changes at a reset alone (R152). -/
def Obligations.HostSettingsChangeOnlyByTheirCommands : Prop :=
  ∀ (c : Instr) (s t : State), exec c s = .next t → mayReset c = false →
    (c ≠ .callState → t.call = s.call)
      ∧ (c ≠ .roamHold → t.roam.hold = s.roam.hold)
      ∧ (c ≠ .provision → t.groups.identity = s.groups.identity ∧ t.host.locked = s.host.locked)
      ∧ (c ≠ .setHuntChannels → t.scan.huntChannels = s.scan.huntChannels)
      ∧ (c ≠ .setGroups → c ≠ .reset → t.host.assembly = s.host.assembly)
      ∧ (c = .reset → t.host.assembly = s.host.assembly ∨ t.host.assembly = none)
      ∧ (c ≠ .recordTaken → t.host.active = s.host.active)
      ∧ (c ≠ .recordTaken → c ≠ .setParameters → t.host.pendingParams = s.host.pendingParams)
      ∧ t.recallArea.list = s.recallArea.list

/-- R38, R56, R127, R163: each of the ten counters stays within 16 bits, and only a reset lowers one. -/
def Obligations.CountersOnlyRiseUntilAReset : Prop :=
  ∀ (c : Instr) (s t : State), s.countersBounded → exec c s = .next t →
    t.countersBounded ∧ (mayReset c = false → List.Forall₂ (· ≤ ·) s.counters t.counters)

/-! ## The Front-End Link and the intake queue -/

/-- R24, R25, R29, R35: a FRAME record that passes its check and examination joins the queue, becomes the held record, or is
discarded and counted as a lost frame; it restarts the silence timer in each case. -/
def Obligations.FrameRecordIsPlaced : Prop :=
  ∀ (s : State) (body : List Byte) (f : Frame),
    s.pins.supply = .running → s.intake.received = [] → examineFrame body = some f →
      exec (.frameRecordComplete (frontEndFrame 0x01#8 body)) s =
        .next
          (s.setIntake
            (if s.intake.held ≠ none then
              { s.intake with silenceRunning := true, lostFrames := min (s.intake.lostFrames + 1) 65535 }
            else if s.intake.queue.length < 4 then
              { s.intake with silenceRunning := true, queue := s.intake.queue ++ [f] }
            else { s.intake with silenceRunning := true, held := some f }))

/-- R24, R25, R38: a Front-End record is discarded, and the check-error counter rises, at a length that no modem record has, at a
check that does not match, and at a failed examination. After a bad length or check hunting goes on at the byte after the lead
byte, which may be a lead byte itself; after a failed examination behind the record. A FRAME body of fewer than five bytes, or of
another length than its parts call for, fails the examination too, as does a BURST DONE body of other than two. -/
def Obligations.FrontEndLengthDiscardIsCounted : Prop :=
  ∀ s : State, s.pins.supply = .running → s.intake.received = [] →
    let discarded (received : List Byte) : State :=
      s.setIntake
        { s.intake with checkErrors := min (s.intake.checkErrors + 1) 65535, received := received }
    (∀ length : Byte, length.toNat ∉ [3, 6, 10, 17, 20] →
      exec (.frontEndLengthDiscard [0xB5#8, length]) s =
        .next (discarded (if length = 0xB5#8 then [0xB5#8] else [])))
    ∧ (∀ (kind check : Byte) (body : List Byte), body.length + 1 ∈ [3, 6, 10, 17, 20] →
        crc8 (BitVec.ofNat 8 (body.length + 1) :: kind :: body) ≠ check → 0xB5#8 ∉ kind :: (body ++ [check]) →
        exec (.frameRecordComplete (0xB5#8 :: BitVec.ofNat 8 (body.length + 1) :: kind :: (body ++ [check]))) s =
          .next (discarded []))
    ∧ ∀ (kind : Byte) (body : List Byte), body.length + 1 ∈ [3, 6, 10, 17, 20] →
        (kind ≠ 1#8 ∧ kind ≠ 2#8)
            ∨ (kind = 2#8 ∧ ∀ position outcome : Byte, body = [position, outcome] → outcome ≠ 1#8 ∧ outcome ≠ 2#8)
            ∨ (kind = 1#8 ∧ ∀ (b0 ch cl b3 level : Byte) (rest : List Byte), body = b0 :: ch :: cl :: b3 :: level :: rest →
                1023 < 256 * ch.toNat + cl.toNat
                  ∨ b3.toNat / 64 = 3
                  ∨ (b0.getLsbD 4 = true ∧ b3.toNat / 64 = 0)
                  ∨ (b0.getLsbD 4 = false ∧ b3.toNat / 64 ≠ 0)
                  ∨ (b0.getLsbD 6 = true ∧ b3.toNat / 64 ≠ 1)
                  ∨ (b0.getLsbD 6 = false ∧ b3.toNat / 64 = 1)
                  ∨ (b0.getLsbD 7 = true ∧ b3.toNat / 64 ≠ 1)
                  ∨ rest.length ≠
                      (if b0.getLsbD 6 = true then 4 else 0)
                        + (if b0.getLsbD 7 = true then
                            (if (rest.getD (if b0.getLsbD 6 = true then 4 else 0) 0#8).toNat / 64 = 2 then 7 else 10)
                          else 0)) →
        exec (.frameRecordComplete (frontEndFrame kind body)) s = .next (discarded [])

/-- R27, R117, R124, R137: a BURST DONE for the outstanding burst's position is acted on, any other changes nothing. SENT leaves a
contention burst outstanding and clears a CONTINUE burst. MISSED clears the burst, returns the SENT entries it carried to UNSENT
and counts a missed slot; outside continuation it takes the attempt back and makes a new draw. That of the carried entries only
those still SENT return to UNSENT is the model's reading (log 20). -/
def Obligations.BurstDoneActsOnTheOutstandingBurst : Prop :=
  ∀ (s : State) (p : Nat), s.pins.supply = .running → s.intake.received = [] → p < 16 →
    (∀ outcome : Byte, outcome = 1#8 ∨ outcome = 2#8 → (∀ b, s.access.outstanding = some b → b.position ≠ p) →
      exec (.burstDone (frontEndFrame 0x02#8 [BitVec.ofNat 8 p, outcome])) s = .next s)
    ∧ ∀ b : Burst, s.access.outstanding = some b → b.position = p →
      exec (.burstDone (frontEndFrame 0x02#8 [BitVec.ofNat 8 p, 1#8])) s =
          .next
            (if s.access.state = .continuing then s.setAccess { s.access with outstanding := none } else s)
        ∧ ∀ (g : BitVec 16) (w : AccessParams), s.access.generator = some g → s.access.params = some w →
          exec (.burstDone (frontEndFrame 0x02#8 [BitVec.ofNat 8 p, 2#8])) s =
            .next
              ((s.setGroups
                { s.groups with
                  groups := s.groups.groups.mapIdx fun i e =>
                    if i ∈ b.carried ∧ e.delivery = .sent then { e with delivery := .unsent } else e }).setAccess
                (if s.access.state = .continuing then
                  { s.access with outstanding := none, missedSlots := min (s.access.missedSlots + 1) 65535 }
                else
                  { s.access with
                    outstanding := none
                    missedSlots := min (s.access.missedSlots + 1) 65535
                    attempts := s.access.attempts - 1
                    generator := some (generatorStep g)
                    backoff := (generatorStep g).toNat % w.window + 1 }))

/-! ## A taken record -/

/-- R30, R31, R32: in every state with a record queued, RECORD TAKEN takes the head, moves a held record to the tail, and advances
the counter by one or sets it to a serving sync record's position; a slip is counted in TRACKING alone. Nothing else of the queue,
the receiver and the other counters of the Frame Intake moves. R34: the serving loss counter at a record: 0 at a serving sync
record, one higher at another record of the serving channel with settling clear, up to the loss limit, where SERVING LOST is raised
with HOLDOVER and the counter 0; it stands at a settling record, on another channel and outside CAMPED. -/
def Obligations.RecordTakenMovesTheQueueAndTheCounter : Prop :=
  (∀ (s : State) (r : Frame) (rest : List Frame), s.pins.supply = .running → s.intake.queue = r :: rest →
    ∃ t : State, exec .recordTaken s = .next t
      ∧ t.intake.queue = rest ++ s.intake.held.toList
      ∧ t.intake.held = none
      ∧ t.intake.counter = (if s.servingSync r then r.position else (s.intake.counter + 1) % 16)
      ∧ t.intake.slips =
          (if s.servingSync r = true ∧ s.intake.timing = .tracking ∧ r.position ≠ (s.intake.counter + 1) % 16 then
            min (s.intake.slips + 1) 65535
          else s.intake.slips)
      ∧ t.intake.lostFrames = s.intake.lostFrames
      ∧ t.intake.checkErrors = s.intake.checkErrors
      ∧ t.intake.received = s.intake.received
      ∧ t.intake.silenceRunning = s.intake.silenceRunning)
    ∧ ∀ (s : State) (r : Frame),
        (s.roam.engine ≠ .camped → s.lossUpdate r = (s, false))
          ∧ (s.roam.engine = .camped → s.servingSync r = true →
              s.lossUpdate r = (s.setIntake { s.intake with loss := 0 }, false))
          ∧ (s.roam.engine = .camped → s.servingSync r = false → ∀ v, s.serving = some v →
              (r.settling = true ∨ r.channel ≠ (s.entry v).channel → s.lossUpdate r = (s, false))
                ∧ (r.settling = false → r.channel = (s.entry v).channel →
                    s.lossUpdate r =
                      if s.par .lossLimit ≤ s.intake.loss + 1 then
                        (s.setIntake { s.intake with loss := 0, timing := .holdover }, true)
                      else (s.setIntake { s.intake with loss := s.intake.loss + 1 }, false)))

/-- R31, R162: the pending parameters become active at a record after which the counter reads 0, and at no other record. R18, R21,
R22, R55, R68: in STOPPED, at a settling record that is a multiframe start, dwell counts are cut to a lowered limit, and the table
does its multiframe-start work under the parameters just activated; the engine, the Access Unit, the groups and the rotation offset
stand (R77). R68, R71, R73, R86, R162: what an activation does in every state: it cuts the dwell counts and the weak count to a
lowered limit, holds the report counter at 0 under interval 0, and tunes to a changed direct channel in DIRECT with no hunt visit
and no hunt-listen in progress. -/
def Obligations.RecordTakenActivatesTheParameters : Prop :=
  (∀ (s t : State) (r : Frame) (rest : List Frame), s.pins.supply = .running → s.intake.queue = r :: rest →
    exec .recordTaken s = .next t →
      if (if s.servingSync r then r.position else (s.intake.counter + 1) % 16) = 0 then
        t.host.active = List.zipWith (fun a p => p.getD a) s.host.active s.host.pendingParams
          ∧ ∀ p ∈ t.host.pendingParams, p = none
      else t.host.active = s.host.active ∧ t.host.pendingParams = s.host.pendingParams)
    ∧ (∀ (s : State) (r : Frame) (rest : List Frame), s.pins.supply = .running → s.intake.queue = r :: rest →
        s.roam.engine = .stopped → r.settling = true → (s.intake.counter + 1) % 16 = 0 → s.scan.hunt = none →
        s.tableSound →
          let a : State :=
            s.setHost
              { s.host with
                active := List.zipWith (fun x p => p.getD x) s.host.active s.host.pendingParams
                pendingParams := s.host.pendingParams.map fun _ => none }
          ∃ t : State, exec .recordTaken s = .next t
            ∧ t.table.entries =
                (s.table.entries.map fun e =>
                  ({ e with dwell := min e.dwell (a.par .dwellLimit) } : Entry).afterMultiframe
                    (a.par .heardAgeLimit) (a.par .digestAgeLimit)
                    (decide (a.par .decayInterval ≤ s.table.decay + 1)))
            ∧ t.table.decay = (if a.par .decayInterval ≤ s.table.decay + 1 then 0 else s.table.decay + 1)
            ∧ t.table.conflicts = s.table.conflicts ∧ t.table.skips = s.table.skips
            ∧ t.roam = s.roam ∧ t.access = s.access ∧ t.groups = s.groups ∧ t.scan.rotation = s.scan.rotation)
    ∧ ∀ s : State,
        let a : State :=
          s.setHost
            { s.host with
              active := List.zipWith (fun x p => p.getD x) s.host.active s.host.pendingParams
              pendingParams := s.host.pendingParams.map fun _ => none }
        s.activate =
          { a with
            table :=
              { s.table with
                entries := s.table.entries.map fun e => { e with dwell := min e.dwell (a.par .dwellLimit) } }
            ranking :=
              { s.ranking with
                weakCount := min s.ranking.weakCount (a.par .weakCountLimit)
                reportCount := if a.par .reportInterval = 0 then 0 else s.ranking.reportCount }
            frontEnd :=
              if s.roam.engine = .direct ∧ s.scan.hunt = none ∧ s.scan.listen = none
                  ∧ a.par .directChannel ≠ s.par .directChannel then
                s.frontEnd ++ [FrontEndRecord.tune (a.par .directChannel)]
              else s.frontEnd }

/-- R36: a settling record, no multiframe start, advances the counter, is the decision record of the start that follows, and is
otherwise set aside. R77: in CAMPED its start is decided. R75, R84, R86: a hunt visit waits for its measure record behind the
settle record; a measure record that finds no site ends it, the cursor moves on, and the next visit begins in HUNT, TUNE with the
direct channel is sent in DIRECT. R109, R113, R119: in READING and AWAITING GRANT the wait counts it, and the site position
advances. `free` is the model's own counter of free values, and `decided` holds what R87 asks for (log 38). -/
def Obligations.SettlingRecordIsSetAside : Prop :=
  ∀ (s : State) (r : Frame) (rest : List Frame), s.pins.supply = .running → s.intake.queue = r :: rest →
    r.settling = true → (s.intake.counter + 1) % 16 ≠ 0 → s.scan.visit = none →
      let counter := (s.intake.counter + 1) % 16
      let base : State :=
        { s with
          intake := { s.intake with queue := rest ++ s.intake.held.toList, held := none, counter := counter }
          scan :=
            { s.scan with
              decided :=
                if (counter + 1) % 16 ∈ s.scan.decided then s.scan.decided
                else s.scan.decided ++ [(counter + 1) % 16] }
          free := s.free + 1 }
      (s.roam.engine = .stopped → s.scan.hunt = none → exec .recordTaken s = .next base)
        ∧ (s.roam.engine = .camped → s.scan.hunt = none → s.access.state = .idle →
          exec .recordTaken s = .next base.decideStart)
        ∧ (s.roam.engine = .registering → s.scan.hunt = none →
          (s.access.state = .reading ∧ s.access.wait + 1 < s.access.readLimit)
              ∨ (s.access.state = .awaitingGrant ∧ s.access.wait + 1 < s.access.grantWait) →
          s.access.multiframes < s.access.registrationLimit →
            exec .recordTaken s =
              .next
                (base.setAccess
                  { s.access with
                    wait := s.access.wait + 1, sitePosition := s.access.sitePosition.map fun p => (p + 1) % 16 }))
        ∧ (s.roam.engine = .hunt ∨ s.roam.engine = .direct → s.scan.listen = none → ∀ h, s.scan.hunt = some h →
          (h.stage = .settle →
            exec .recordTaken s =
              .next (base.setScan { base.scan with hunt := some { h with stage := .measure } }))
          ∧ (h.stage = .measure →
            ∃ t : State, exec .recordTaken s = .next t
              ∧ (s.scan.cursor + 1 < s.scan.huntList.length →
                  t.scan.cursor = s.scan.cursor + 1 ∧ t.scan.huntList = s.scan.huntList)
              ∧ (s.scan.huntList.length ≤ s.scan.cursor + 1 →
                  t.scan.cursor = 0 ∧ t.scan.huntList = s.huntSources)
              ∧ t.scan.hunt =
                  (if s.roam.engine = .hunt then
                    t.scan.huntList[t.scan.cursor]?.map fun channel => { channel := channel, stage := .settle }
                  else none)
              ∧ t.frontEnd =
                  s.frontEnd ++
                    (if s.roam.engine = .hunt then
                      (t.scan.huntList[t.scan.cursor]?.map FrontEndRecord.tune).toList
                    else [FrontEndRecord.tune (s.par .directChannel)])
              ∧ t.intake = base.intake ∧ t.table = s.table ∧ t.roam = s.roam ∧ t.access = s.access
              ∧ t.host = s.host ∧ t.beacon = s.beacon))

/-- R19, R37, R59, R61: a synced record with frame check FAIL taken in STOPPED, no multiframe start, is a heard notice and a sample
of the entry whose channel and colour it carries, and changes nothing else but the counter and the decision records taken (log 38).
R58, R84, R111: which record is a settle or a measure record. R58, R59, R60, R61, R66, R71, R73: the Ranking Unit in every engine
state: nothing of a settling record, the heard notice alone of a settle record, else the heard entry's sample, in CAMPED a sample
of 0 to the entry the record is meant for and not heard as, the dwell update of the visit's object and the weak update; the report
counter at a multiframe start in CAMPED. R30, R31, R32, R34, R37, R58, R95, R129: RECORD TAKEN of every record in every engine
state: the counter, the activation, the loss counter, the multiframe-start work, the Ranking Unit, the losses and triggers, the
hunt-listen, the Beacon Assembler, the Address Filter, the hunt timer, the Access Unit and the Scan Sequencer, a loss and the
triggers at one of the places the rules leave open (log 6, 7, 8). The model's choices and readings: the order of the blocks (log 9,
30); the triggers' place beside a loss of the loss counter (log 28); both samples ahead of any update (log 10); the report counter
ahead of the triggers and the Beacon Assembler (log 11, 50) and counted at a settling start (log 36); the state in which the record
was taken (log 12); that a record of the serving channel is meant for the SERVING entry after an abandoned co-channel visit too, so
that one without its colour gives it a sample of 0 there (log 53); the multiframe-start work ahead of the loss (log 47), the loss
ahead of the Beacon Assembler (log 51), every loss, trigger and MOVE ahead of the Access Unit (log 48), and that ahead of the Scan
Sequencer (log 52). free is the model's own counter (log 33). -/
def Obligations.HeardRecordMovesItsEntry : Prop :=
  (∀ (s : State) (r : Frame) (rest : List Frame) (colour i : Nat), s.pins.supply = .running →
     s.roam.engine = .stopped → s.serving = none → s.scan.visit = none → s.scan.hunt = none → s.access.state = .idle →
     s.intake.queue = r :: rest → r.settling = false → r.check = .fail → r.sync = some colour →
     s.findPair { channel := r.channel, colour := colour } = some i → (s.intake.counter + 1) % 16 ≠ 0 →
       let counter := (s.intake.counter + 1) % 16
       exec .recordTaken s =
         .next
           { s with
             intake := { s.intake with queue := rest ++ s.intake.held.toList, held := none, counter := counter }
             table :=
               s.withEntry i
                 { s.entry i with
                   heardAge := 0
                   status := .heard
                   level :=
                     if (s.entry i).samples = 0 then 16 * r.level
                     else
                       (((s.entry i).level : Int)
                         + Int.tdiv (16 * (r.level : Int) - ((s.entry i).level : Int))
                             (2 ^ s.par .kCandidate)).toNat
                   samples := min ((s.entry i).samples + 1) 255 }
             scan :=
               { s.scan with
                 decided :=
                   if (counter + 1) % 16 ∈ s.scan.decided then s.scan.decided
                   else s.scan.decided ++ [(counter + 1) % 16] }
             free := s.free + 1 })
    ∧ (∀ s : State,
        (∀ v, s.scan.visit = some v →
          s.recordRole =
            match v.stage with
            | .settle => .settle
            | .measure => .measure v
            | .ended => .plain)
          ∧ (s.scan.visit = none → ∀ h, s.scan.hunt = some h →
              s.recordRole = if h.stage = .settle then .settle else .plain)
          ∧ (s.scan.visit = none → s.scan.hunt = none →
              s.recordRole = if s.access.state = .tuning then .settle else .plain))
    ∧ (∀ (s : State) (r : Frame) (role : Role),
        let heard : Option Nat :=
          if r.settling = true then none
          else r.sync.bind fun colour => s.findPair { channel := r.channel, colour := colour }
        let noticed : State :=
          match heard with
          | some i =>
            s.setTable
              (s.withEntry i
                { s.entry i with
                  heardAge := 0, status := if (s.entry i).status = .listed then .heard else (s.entry i).status })
          | none => s
        let credited (u : State) (i c : Nat) : State :=
          u.setTable
            (u.withEntry i
              { u.entry i with
                level :=
                  filtered (u.par (if (u.entry i).status = .serving then .kServing else .kCandidate)) (u.entry i).samples
                    (u.entry i).level c
                samples := min ((u.entry i).samples + 1) 255 })
        let sampled : State :=
          match heard with
          | some i => credited noticed i r.level
          | none => noticed
        (r.settling = true → s.rankRecord r role false = (s, []))
          ∧ (role = .settle → s.rankRecord r role false = (noticed, []))
          ∧ (r.settling = false → role ≠ .settle → s.roam.engine ≠ .camped →
              s.rankRecord r role false = (sampled, []))
          ∧ (r.settling = false → s.roam.engine = .camped → ∀ v, s.serving = some v →
              let weak (u : State × List Trigger) : State × List Trigger :=
                ((u.1.weakUpdate v).1, u.2 ++ (u.1.weakUpdate v).2)
              (role = .plain →
                s.rankRecord r role false =
                  if r.channel = (s.entry v).channel ∧ r.sync ≠ some (s.entry v).colour then
                    weak (credited sampled v 0, [])
                  else if heard = some v then weak (sampled, [])
                  else (sampled, []))
                ∧ ∀ o : Visit, role = .measure o →
                    (o.objectGone = true ∨ s.findCode o.code = none
                        ∨ (∃ i, s.findCode o.code = some i ∧ (s.entry i).channel ≠ r.channel) →
                      s.rankRecord r role false = if heard = some v then weak (sampled, []) else (sampled, []))
                      ∧ (o.objectGone = false → ∀ i, s.findCode o.code = some i → (s.entry i).channel = r.channel →
                          (s.entry i).status ≠ .serving →
                            let visited :=
                              (if r.sync = some (s.entry i).colour then sampled else credited sampled i 0).dwellUpdate i v
                            s.rankRecord r role false = if heard = some v then weak visited else visited))
          ∧ s.rankRecord r role true =
              (if s.roam.engine = .camped then
                ((s.rankRecord r role false).1.reportTick, (s.rankRecord r role false).2)
              else s.rankRecord r role false))
    ∧ (∀ (s : State) (r : Frame) (rest : List Frame), s.pins.supply = .running → s.intake.queue = r :: rest →
        let counter := if s.servingSync r then r.position else (s.intake.counter + 1) % 16
        let multiframe : Bool := decide (counter = 0)
        let taken : State :=
          s.setIntake
            { s.intake with
              queue := rest ++ s.intake.held.toList, held := none, counter := counter
              timing := if s.servingSync r then .tracking else s.intake.timing
              slips :=
                if s.servingSync r = true ∧ s.intake.timing = .tracking ∧ r.position ≠ (s.intake.counter + 1) % 16 then
                  min (s.intake.slips + 1) 65535
                else s.intake.slips }
        let active := if multiframe then taken.activate else taken
        let lost := (active.lossUpdate r).2
        let aged := if multiframe then (active.lossUpdate r).1.multiframeWork else (active.lossUpdate r).1
        let before := if counter = 0 then [] else aged.scan.decided
        let named : State :=
          aged.setScan
            { aged.scan with
              decided := if (counter + 1) % 16 ∈ before then before else before ++ [(counter + 1) % 16]
              visit := aged.scan.visit.map fun v => { v with stage := v.stage.next }
              hunt := aged.scan.hunt.map fun h => { h with stage := h.stage.next } }
        let ranked (u : State) := u.rankRecord r s.recordRole multiframe
        let acted (ts : List Trigger) (u : State) : State := ts.foldl State.takeTrigger u
        ∃ (u : State) (late : List Trigger),
          (lost = true →
            late = []
              ∧ (u = acted (ranked (named.takeLost .loss)).2 (ranked (named.takeLost .loss)).1
                ∨ u = acted (ranked named).2 ((ranked named).1.takeLost .loss)
                ∨ u = (acted (ranked named).2 (ranked named).1).takeLost .loss))
          ∧ (lost = false →
              (u = acted (ranked named).2 (ranked named).1 ∧ late = []) ∨ (u = (ranked named).1 ∧ late = (ranked named).2))
          ∧ let b := (u.listenIfFound r).beaconRecord r
            ∃ (v : State) (f : FilterOutput),
              (b.2.identityLost = false → (v, f) = (acted late (b.1.filterRecord r).1, (b.1.filterRecord r).2))
              ∧ (b.2.identityLost = true →
                  ∃ x ∈ [(late, [], []), ([], late, []), ([], [], late)],
                    let first := ((acted x.2.1 ((acted x.1 b.1).takeLost .identity)).filterRecord r)
                    let after := (acted x.1 b.1).filterRecord r
                    (v, f) = (acted x.2.2 first.1, first.2)
                      ∨ (v, f) = (acted x.2.2 ((acted x.2.1 after.1).takeLost .identity), after.2))
              ∧ let w := v.huntWork (decide (s.roam.engine = .hunt
                    ∨ (s.roam.engine = .registering ∧ s.roam.enteredFrom = .hunt))) multiframe
                let input : AccessInput :=
                  { echo := f.echo, grant := f.grant, ack := f.ack, beacon := b.2.accepted
                    sync := if w.access.state.registering then w.targetSync r else w.servingSync r
                    multiframe := multiframe }
                let done := (w.accessRecord r s.roam.engine input).scanRecord s.roam.engine s.scan.listen.isSome multiframe
                exec .recordTaken s = .next { done with free := done.free + 1 })

/-! ## Levels, choices and lists -/

/-- R61, R62: the filter: a first sample is taken whole; a later one moves F toward 16 times the sample and never past it, by
nothing exactly when the difference is below 2^k, and the whole way with shift 0. R66, R67, R69, R70: a dwell update raises the
count of an eligible entry that outscores the serving entry by the hysteresis, up to the limit, where it raises DWELL, and else
clears it; a rise from 0 names the watch when there is none or its score is exceeded. R71, R72: a weak serving sample raises the
weak count up to its limit, where SERVING WEAK is sent once and URGENT raised; a sample that is not weak clears the count and the
flag. -/
def Obligations.FilterMovesTowardTheSample : Prop :=
  (∀ k n level c : Nat, level ≤ 4080 → c ≤ 255 →
    filtered k n level c ≤ 4080
      ∧ (n = 0 → filtered k n level c = 16 * c)
      ∧ (k = 0 → filtered k n level c = 16 * c)
      ∧ (n ≠ 0 →
          min level (16 * c) ≤ filtered k n level c ∧ filtered k n level c ≤ max level (16 * c)
            ∧ (filtered k n level c = level ↔ (16 * c : Int) - level < 2 ^ k ∧ (level : Int) - 16 * c < 2 ^ k)))
    ∧ (∀ (s : State) (i v : Nat),
        (s.eligible (s.entry i) = true
            ∧ s.score (s.entry v) + 16 * (s.par .hysteresis : Int) ≤ s.score (s.entry i) →
          (s.dwellUpdate i v).1.table =
              s.withEntry i { s.entry i with dwell := min ((s.entry i).dwell + 1) (s.par .dwellLimit) }
            ∧ (s.dwellUpdate i v).2 =
                (if s.par .dwellLimit ≤ (s.entry i).dwell + 1 then [.dwell (s.entry i).code] else [])
            ∧ ((s.entry i).dwell = 0 →
                (∀ w, s.ranking.watch = some w → s.score (s.entry w) < s.score (s.entry i)) →
                (s.dwellUpdate i v).1.ranking = { s.ranking with watch := some i }
                  ∧ (s.dwellUpdate i v).1.scan = { s.scan with watchTurn := true }
                  ∧ (s.dwellUpdate i v).1.beacon.owner =
                      some { channel := (s.entry i).channel, colour := (s.entry i).colour })
            ∧ ((s.entry i).dwell ≠ 0
                  ∨ (∃ w, s.ranking.watch = some w ∧ s.score (s.entry i) ≤ s.score (s.entry w)) →
                (s.dwellUpdate i v).1.ranking = s.ranking ∧ (s.dwellUpdate i v).1.scan = s.scan
                  ∧ (s.dwellUpdate i v).1.beacon = s.beacon))
        ∧ (¬(s.eligible (s.entry i) = true
              ∧ s.score (s.entry v) + 16 * (s.par .hysteresis : Int) ≤ s.score (s.entry i)) →
          (s.dwellUpdate i v).1.table = s.withEntry i { s.entry i with dwell := 0 }
            ∧ (s.dwellUpdate i v).2 = []
            ∧ (s.dwellUpdate i v).1.ranking =
                { s.ranking with watch := if s.ranking.watch = some i then none else s.ranking.watch }))
    ∧ ∀ (s : State) (v : Nat),
        s.weakUpdate v =
          if 16 * s.par .weakThreshold ≤ (s.entry v).level then
            (s.setRanking { s.ranking with weakCount := 0, weakReported := false }, [])
          else if s.ranking.weakCount + 1 < s.par .weakCountLimit then
            (s.setRanking { s.ranking with weakCount := s.ranking.weakCount + 1 }, [])
          else
            ({ s with
                ranking := { s.ranking with weakCount := s.par .weakCountLimit, weakReported := true }
                host :=
                  if s.ranking.weakReported then s.host
                  else
                    s.host.offer
                      (.servingWeak v (s.entry v).code (s.entry v).level (s.par .weakCountLimit)) },
              [.urgent ((s.urgentTarget v).map fun i => (s.entry i).code)])

/-- R63: the score: F, or 0 without samples, plus 16 times the preference less the load, isolated and departure terms, of which an
emergency leaves the isolated term alone; it lies within -3312..4576. R64: eligibility. R65, R96: the best eligible entry:
eligible, not the entry just lost, of highest score, and of lowest index among equals; there is none exactly when no entry
qualifies. R72: the URGENT target: the same choice among the eligible entries that outscore the serving entry. -/
def Obligations.BestEligibleIsTheHighest : Prop :=
  (∀ (s : State) (e : Entry),
    (e.digest = none →
      s.score e =
        (if e.samples = 0 then 0 else (e.level : Int))
          + 16 * (e.preference - (if s.call.emergency = true then 0 else (e.penalty : Int))))
      ∧ (∀ d, e.digest = some d →
        s.score e =
          (if e.samples = 0 then 0 else (e.level : Int))
            + 16 * (e.preference - (if s.call.emergency = true then 0 else (d.load * s.par .loadStep : Int))
                - (if d.isolated = true then (s.par .isolatedPenalty : Int) else 0)
                - (if s.call.emergency = true then 0 else (e.penalty : Int))))
      ∧ (e.level ≤ 4080 → -32 ≤ e.preference → e.preference ≤ 31 → e.penalty ≤ 63 →
          (∀ d, e.digest = some d → d.load ≤ 7) → s.par .loadStep ≤ 7 → s.par .isolatedPenalty ≤ 63 →
          -3312 ≤ s.score e ∧ s.score e ≤ 4576)
      ∧ (s.eligible e = true ↔
          e.status = .heard ∧ e.barred = 0 ∧ s.par .minimumSamples ≤ e.samples
            ∧ 16 * s.par .entryThreshold ≤ e.level
            ∧ ∀ d o, e.digest = some d → d.own = some o →
                o.closed = false ∧ (o.emergencyOnly = true → s.call.emergency = true)))
    ∧ (∀ (s : State) (lost : Option Nat),
        (∀ i, s.bestEligible lost = some i →
          i < 12 ∧ s.eligible (s.entry i) = true ∧ some i ≠ lost
            ∧ ∀ j < 12, s.eligible (s.entry j) = true → some j ≠ lost →
              s.score (s.entry j) ≤ s.score (s.entry i) ∧ (s.score (s.entry j) = s.score (s.entry i) → i ≤ j))
        ∧ (s.bestEligible lost = none → ∀ j < 12, s.eligible (s.entry j) = true → some j = lost))
    ∧ ∀ (s : State) (v : Nat),
        (∀ i, s.urgentTarget v = some i →
          i < 12 ∧ s.eligible (s.entry i) = true ∧ s.score (s.entry v) < s.score (s.entry i)
            ∧ ∀ j < 12, s.eligible (s.entry j) = true →
              s.score (s.entry j) ≤ s.score (s.entry i) ∧ (s.score (s.entry j) = s.score (s.entry i) → i ≤ j))
        ∧ (s.urgentTarget v = none →
            ∀ j < 12, s.eligible (s.entry j) = true → s.score (s.entry j) ≤ s.score (s.entry v))

/-- R14: eviction spares the PINNED, the SERVING entry, the watch candidate, the registration target and the entries just admitted;
it takes the LISTED entry of highest index, else the HEARD entry of lowest score and, among equals, of highest index; it takes none
exactly when no entry is evictable. -/
def Obligations.EvictionSparesTheProtected : Prop :=
  ∀ (s : State) (kept : List Nat),
    (∀ j, s.evictable kept j = true ↔
      ((s.entry j).status = .listed ∨ (s.entry j).status = .heard) ∧ (s.entry j).origin ≠ .pinned
        ∧ s.ranking.watch ≠ some j ∧ s.isTarget (s.entry j) = false ∧ j ∉ kept)
    ∧ (s.victim kept = none → ∀ j < 12, s.evictable kept j = false)
    ∧ ∀ i, s.victim kept = some i →
      i < 12 ∧ (s.entry i).origin ≠ .pinned ∧ s.ranking.watch ≠ some i ∧ s.isTarget (s.entry i) = false ∧ i ∉ kept
        ∧ (((s.entry i).status = .listed
              ∧ ∀ j < 12, s.evictable kept j = true → (s.entry j).status = .listed → j ≤ i)
          ∨ ((s.entry i).status = .heard
              ∧ ∀ j < 12, s.evictable kept j = true →
                (s.entry j).status = .heard ∧ s.score (s.entry i) ≤ s.score (s.entry j)
                  ∧ (s.score (s.entry i) = s.score (s.entry j) → j ≤ i)))

/-- R83: the hunt list holds each channel of its three sources once and no other, at most 40, with the cursor at its first item, in
the order in which a channel is first met in the sources: the recall list, the measured entries by level from the highest and equal
ones by index, the unmeasured entries by index, the hunt channel list. R6, R11, R15: a found-site admission is CONFLICT, ADMITTED
or FULL; a visit for the site it evicts loses its object. R12, R53, R101: a hunt acceptance admits and bars a closed site, with its
digest, and is declined; it is declined with no admission in an emergency-only site without the emergency flag, below the entry
threshold, and for a barred site; else it admits the site and starts a registration with reason HUNT, or is declined. R44, R85: a
declined acceptance ends the hunt-listen and its owner. -/
def Obligations.HuntListIsShortAndWithoutRepeats : Prop :=
  (∀ s : State, s.recallArea.list.length ≤ 4 → s.scan.huntChannels.length ≤ 24 →
    s.buildHuntList.scan.huntList.Nodup
      ∧ s.buildHuntList.scan.huntList.length ≤ 40
      ∧ s.buildHuntList.scan.cursor = 0
      ∧ ∀ c, c ∈ s.buildHuntList.scan.huntList ↔
          (∃ x ∈ s.recallArea.list, x.channel = c)
            ∨ (∃ i < 12, (s.entry i).status ≠ .free ∧ (s.entry i).barred = 0 ∧ (s.entry i).channel = c)
            ∨ c ∈ s.scan.huntChannels)
    ∧ (∀ s : State,
        s.buildHuntList = { s with scan := { s.scan with huntList := s.huntSources, cursor := 0 } }
          ∧ ∃ measured unmeasured : List Nat,
              (∀ i, i ∈ measured ↔
                  i < 12 ∧ (s.entry i).status ≠ .free ∧ (s.entry i).barred = 0 ∧ (s.entry i).samples ≠ 0)
                ∧ measured.Pairwise (fun i j =>
                    (s.entry j).level < (s.entry i).level ∨ ((s.entry j).level = (s.entry i).level ∧ i < j))
                ∧ (∀ i, i ∈ unmeasured ↔
                    i < 12 ∧ (s.entry i).status ≠ .free ∧ (s.entry i).barred = 0 ∧ (s.entry i).samples = 0)
                ∧ unmeasured.Pairwise (fun i j => i < j)
                ∧ let sources : List Nat :=
                    s.recallArea.list.map Site.channel ++ measured.map (fun i => (s.entry i).channel)
                      ++ unmeasured.map (fun i => (s.entry i).channel) ++ s.scan.huntChannels
                  (∀ c, c ∈ s.huntSources ↔ c ∈ sources)
                    ∧ s.huntSources.Pairwise (fun c d => sources.idxOf c < sources.idxOf d))
    ∧ (∀ (s : State) (code : Nat) (p : Pair), s.tableSound →
        (∀ i, s.findCode code = some i →
          (s.clashes (some i) p
                ∨ (((s.entry i).status = .serving ∨ s.isTarget (s.entry i) = true)
                    ∧ ¬((s.entry i).channel = p.channel ∧ (s.entry i).colour = p.colour)) →
              s.admitFound code p = (s.conflictCounted, .conflict))
            ∧ (¬s.clashes (some i) p → (s.entry i).channel = p.channel → (s.entry i).colour = p.colour →
                (s.entry i).status = .serving ∨ s.isTarget (s.entry i) = true →
              s.admitFound code p = (s, .admitted i))
            ∧ (¬s.clashes (some i) p → (s.entry i).status ≠ .serving → s.isTarget (s.entry i) = false →
              ∃ t : State, s.admitFound code p = (t, .admitted i)
                ∧ t.table =
                    s.withEntry i
                      { (s.entry i).repaired p with
                        origin := if (s.entry i).origin = .pinned then .pinned else .found }
                ∧ t.roam = s.roam ∧ t.access = s.access ∧ t.host = s.host))
        ∧ (s.findCode code = none →
          (s.clashes none p → s.admitFound code p = (s.conflictCounted, .conflict))
            ∧ (¬s.clashes none p → s.hasNoPlace [] → s.admitFound code p = (s, .full))
            ∧ (¬s.clashes none p → ∀ i, s.takesNew [] i →
              s.admitFound code p =
                ((s.withoutObject i).setTable (s.withEntry i (admittedEntry code p .found 0 none)), .admitted i))))
    ∧ ∀ (s : State) (b : Summary) (l : Listen), s.tableSound → (∀ j < 12, (s.entry j).status ≠ .serving) →
        let p : Pair := { channel := l.channel, colour := l.colour }
        let level : Nat :=
          match s.findPair p with
          | some j => if (s.entry j).samples = 0 then 16 * l.level else (s.entry j).level
          | none => 16 * l.level
        let unfit : Prop :=
          b.closed = false
            ∧ ((b.emergencyOnly = true ∧ s.call.emergency = false) ∨ level < 16 * s.par .entryThreshold
              ∨ ∃ j, s.findCode b.code = some j ∧ (s.entry j).barred ≠ 0)
        let digest : Digest :=
          { load := b.load, isolated := b.isolated
            own :=
              some
                { closed := b.closed, emergencyOnly := b.emergencyOnly, slots := b.slots, window := b.window }
            age := 0 }
        let declined (table : SiteTable) : Prop :=
          (s.huntAccept b l).table = table ∧ (s.huntAccept b l).roam = s.roam ∧ (s.huntAccept b l).host = s.host
            ∧ (s.huntAccept b l).scan.listen = none ∧ (s.huntAccept b l).beacon.owner = none
        (unfit → declined s.table)
          ∧ (¬unfit → ∀ (t : State) (answer : Admission), s.admitFound b.code p = (t, answer) →
            match answer with
            | .admitted i =>
              if b.closed = true then
                declined
                  (t.withEntry i
                    { t.entry i with
                      digest := some digest, dwell := 0
                      barred := if b.hold = 0 then s.par .barTime else b.hold })
              else
                (s.huntAccept b l).table = t.withEntry i { t.entry i with digest := some digest }
                  ∧ (s.huntAccept b l).roam =
                      { s.roam with
                        engine := .registering, previous := none, reason := some .hunt
                        enteredFrom := s.roam.engine }
                  ∧ (s.huntAccept b l).access.state = .tuning ∧ (s.huntAccept b l).access.target = b.code
                  ∧ (s.huntAccept b l).pins.txinh = true
                  ∧ (s.huntAccept b l).host =
                      s.host.offer (.engineState s.roam.engine .registering .registration true)
            | _ => declined t.table)

/-- R80: the round-robin choice is the candidate met first after the pointer, in rising order and round the table, the index left
out passed over; there is none exactly when no candidate is left. R77: the start whose decision record a record is. R75, R77, R78,
R79, R80: in CAMPED a start not yet spent is spent at its decision record: dropped when its index is not below the budget, a visit
is in progress, the exchange excludes it or there is no candidate, and else its visit begins, the watch and the round robin taking
turns. R75: the visit ends at its measure record; TUNE is sent in both cases unless the object shares the serving channel. R60,
R76: in CAMPED the measure record is meant for the entry that holds the visit's site code, when it reports that entry's channel;
R15, R16: it is meant for no entry once the object has been evicted or dropped, whatever has been admitted since. R75, R77: a
record taken in CAMPED ends with the start decided and then the visit ended, and one taken in REGISTERING or STOPPED moves nothing
of the plan; the decision stands behind the record's handling by the Access Unit (log 52, the model's choice). -/
def Obligations.RoundRobinTakesTheNextCandidate : Prop :=
  (∀ (s : State) (without : Option Nat), s.scan.pointer < 12 →
    (∀ i, s.roundRobin without = some i →
      i < 12 ∧ (s.entry i).candidate = true ∧ some i ≠ without
        ∧ ∀ j < 12, (s.entry j).candidate = true → some j ≠ without →
          (i + 11 - s.scan.pointer) % 12 ≤ (j + 11 - s.scan.pointer) % 12)
    ∧ (s.roundRobin without = none → ∀ j < 12, (s.entry j).candidate = true → some j = without))
    ∧ (∀ (s : State) (p j : Nat), s.scan.rotation < 16 → s.intake.counter < 16 →
        (s.startHere = some (p, j) ↔
          j < 4 ∧ p = (s.intake.counter + 1) % 16
            ∧ p = ((if s.intake.counter = 15 then s.scan.rotation + 3 else s.scan.rotation) + 4 * j) % 16))
    ∧ (∀ s : State,
        s.budget =
          if s.call.call = .transmitting then 0
          else if s.ranking.weakCount ≠ 0 then 4
          else if s.call.call = .idle then s.par .budgetIdle else s.par .budgetReceiving)
    ∧ (∀ (s : State) (p : Nat) (w : AccessParams), p < 16 → s.access.params = some w → w.slots ≤ 8 →
        (s.excluded p = true ↔
          (s.access.state = .continuing ∨ s.access.state = .affiliating)
            ∧ ∃ q, (q = p ∨ q = (p + 1) % 16) ∧ ∃ k, 1 ≤ k ∧ k ≤ 2 * w.slots ∧ q = k % 16))
    ∧ (∀ (s : State) (p j : Nat), s.roam.engine = .camped → s.startHere = some (p, j) →
        let begins (i pointer : Nat) (turn : Bool) : Prop :=
          s.decideStart.scan =
              { s.scan with
                spent := s.scan.spent ++ [p], pointer := pointer, watchTurn := turn
                visit :=
                  some
                    { code := (s.entry i).code, channel := (s.entry i).channel, colour := (s.entry i).colour
                      objectGone := false, start := p, stage := .settle } }
            ∧ s.decideStart.frontEnd =
                (if (s.serving.map fun v => (s.entry v).channel) = some (s.entry i).channel then s.frontEnd
                else s.frontEnd ++ [FrontEndRecord.tune (s.entry i).channel])
            ∧ s.decideStart.table = s.table
        (p ∈ s.scan.spent → s.decideStart = s)
          ∧ (p ∉ s.scan.spent →
              s.budget ≤ j ∨ s.scan.visit ≠ none ∨ s.excluded p = true
                  ∨ (s.ranking.watch = none ∧ s.roundRobin none = none) →
                s.decideStart = s.setScan { s.scan with spent := s.scan.spent ++ [p] })
          ∧ (p ∉ s.scan.spent → j < s.budget → s.scan.visit = none → s.excluded p = false →
              (s.ranking.watch = none → ∀ i, s.roundRobin none = some i → begins i i s.scan.watchTurn)
                ∧ ∀ w, s.ranking.watch = some w →
                  (s.scan.watchTurn = true → begins w s.scan.pointer false)
                    ∧ (s.scan.watchTurn = false → ∀ i, s.roundRobin (some w) = some i → begins i i true)
                    ∧ (s.scan.watchTurn = false → s.roundRobin (some w) = none → begins w s.scan.pointer true)))
    ∧ (∀ (s : State) (v : Visit), s.scan.visit = some v →
        (v.stage ≠ .ended → s.endVisit = s)
          ∧ (v.stage = .ended → ∀ i, s.serving = some i →
              s.endVisit =
                { s with
                  scan := { s.scan with visit := none }
                  frontEnd :=
                    if (s.entry i).channel = v.channel then s.frontEnd
                    else s.frontEnd ++ [FrontEndRecord.tune (s.entry i).channel] }))
    ∧ (∀ (s : State) (r : Frame) (v : Visit) (i : Nat),
        s.meantFor r (.measure v) = some i ↔
          s.roam.engine = .camped ∧ v.objectGone = false ∧ s.findCode v.code = some i
            ∧ (s.entry i).channel = r.channel)
    ∧ ∀ (s : State) (listening multiframe : Bool),
        s.scanRecord .camped listening multiframe = s.decideStart.endVisit
          ∧ s.scanRecord .registering listening multiframe = s ∧ s.scanRecord .stopped listening multiframe = s

/-- R45: a fragment fills its position; under the store's edition the other positions keep what they hold, under another edition
they are emptied, and the store takes the fragment's edition. R46: a full store is cleared, and fails for a bad check, site code 0,
more than ten neighbours or window 0. R47, R48, R49: a serving beacon of the SERVING site writes its digest and becomes the last
serving beacon; of another site it raises an IDENTITY loss in CAMPED. R48, R9: the neighbour list of an accepted serving beacon is
imported into the table, item by item in list order, behind the digest. R51, R52: a watch beacon writes the watch candidate's
digest or demotes it, and in REGISTERING is reported. R9, R10, R15: a neighbour item is skipped, updates its entry, or is admitted,
and a visit for the site it evicts loses its object. R53: a beacon that completes in a hunt-listen goes to hunt acceptance. R43: a
fragment of a record with settling clear and frame check PASS goes to the Serving Store where the record is a serving sync record,
else to the Watch Store where its pair is the owner's, else to none. -/
def Obligations.FragmentFillsItsPosition : Prop :=
  (∀ (st : Store) (p : Nat) (f : Fragment), p < 16 → st.places.length = 16 →
    (st.place p f).edition = some f.edition
      ∧ (st.place p f).places.length = 16
      ∧ (st.place p f).places[p]? = some (some [f.byte0, f.byte1, f.byte2])
      ∧ ∀ q < 16, q ≠ p →
          (st.place p f).places[q]? = if st.edition = some f.edition then st.places[q]? else some none)
    ∧ (∀ st : Store,
        (st.complete = true ↔ none ∉ st.places)
          ∧ (st.accepted = true ↔
              (crc16 (st.bytes.take 46)).toNat = 256 * (st.bytes.getD 46 0#8).toNat + (st.bytes.getD 47 0#8).toNat
                ∧ st.summary.code ≠ 0 ∧ neighbourCount st.bytes ≤ 10 ∧ st.summary.window ≠ 0))
    ∧ (∀ (s : State) (i p : Nat) (f : Fragment), s.serving = some i →
        let st := s.beacon.servingStore.place p f
        let full := { s.beacon with servingStore := Store.cleared }
        (st.complete = false →
          s.servingFragment i p f =
            (s.setBeacon { s.beacon with servingStore := st }, BeaconReport.nothing))
          ∧ (st.complete = true → st.accepted = false →
              s.servingFragment i p f =
                (s.setBeacon { full with failures := min (s.beacon.failures + 1) 65535 }, BeaconReport.nothing))
          ∧ (st.complete = true → st.accepted = true → st.summary.code ≠ (s.entry i).code →
              s.servingFragment i p f =
                (if s.roam.engine = .camped then
                  ((s.setBeacon full).setIntake { s.intake with loss := 0, timing := .holdover },
                    { identityLost := true, accepted := none })
                else (s.setBeacon full, BeaconReport.nothing)))
          ∧ (st.complete = true → st.accepted = true → st.summary.code = (s.entry i).code →
              (s.servingFragment i p f).2 = BeaconReport.nothing
                ∧ (s.servingFragment i p f).1.entry i = { s.entry i with digest := some (ownDigest st.summary) }
                ∧ (s.servingFragment i p f).1.table =
                    (State.importItems
                      { s with
                        beacon := full
                        table := s.withEntry i { s.entry i with digest := some (ownDigest st.summary) } }
                      [] (readNeighbours st.bytes)).table
                ∧ (s.servingFragment i p f).1.beacon.servingStore = Store.cleared
                ∧ (s.servingFragment i p f).1.beacon.lastServing = some st.summary
                ∧ (s.servingFragment i p f).1.host =
                    match s.beacon.lastServing with
                    | none => s.host
                    | some old =>
                      if old.edition = st.summary.edition ∧ old.isolated = st.summary.isolated
                          ∧ old.closed = st.summary.closed ∧ old.emergencyOnly = st.summary.emergencyOnly then s.host
                      else
                        s.host.offer
                          (.beaconChanged i st.summary.code old.edition st.summary.edition st.summary.isolated
                            st.summary.closed st.summary.emergencyOnly)))
    ∧ (∀ (s : State) (p : Nat) (f : Fragment),
        let st := s.beacon.watchStore.place p f
        let full := { s.beacon with watchStore := Store.cleared }
        (st.complete = false →
          s.watchFragment p f = (s.setBeacon { s.beacon with watchStore := st }, BeaconReport.nothing))
          ∧ (st.complete = true → st.accepted = false →
              s.watchFragment p f =
                (s.setBeacon { full with failures := min (s.beacon.failures + 1) 65535 }, BeaconReport.nothing))
          ∧ (st.complete = true → st.accepted = true → s.roam.engine = .registering →
              ∀ i, s.findCode s.access.target = some i →
                s.watchFragment p f =
                  ({ s with
                      beacon := { full with lastWatch := some st.summary }
                      table :=
                        if (s.entry i).code = st.summary.code then
                          s.withEntry i { s.entry i with digest := some (ownDigest st.summary) }
                        else s.table },
                    { identityLost := false, accepted := some st.summary }))
          ∧ (st.complete = true → st.accepted = true → s.roam.engine = .camped → ∀ w, s.ranking.watch = some w →
              ((s.entry w).code = st.summary.code →
                s.watchFragment p f =
                  ({ s with
                      beacon := { full with lastWatch := some st.summary }
                      table := s.withEntry w { s.entry w with digest := some (ownDigest st.summary) } },
                    BeaconReport.nothing))
                ∧ ((s.entry w).code ≠ st.summary.code →
                    (s.watchFragment p f).2 = BeaconReport.nothing
                      ∧ (s.watchFragment p f).1.ranking = { s.ranking with watch := none }
                      ∧ (s.watchFragment p f).1.beacon.owner = none
                      ∧ (s.watchFragment p f).1.table =
                          { s.withEntry w
                              { s.entry w with status := .listed, level := 0, samples := 0, dwell := 0 } with
                            conflicts := min (s.table.conflicts + 1) 65535 })))
    ∧ (∀ (s : State) (kept : List Nat) (item : Neighbour) (rest : List Neighbour),
        s.importItems kept [] = s
          ∧ s.importItems kept (item :: rest) =
              (s.importItem kept item).1.importItems (s.importItem kept item).2 rest)
    ∧ (∀ (s : State) (kept : List Nat) (item : Neighbour), s.tableSound →
        let p : Pair := { channel := item.channel, colour := item.colour }
        let digest : Digest := { load := item.load, isolated := item.isolated, own := none, age := 0 }
        let skipped : State := s.setTable { s.table with skips := min (s.table.skips + 1) 65535 }
        (item.code = 0 → s.importItem kept item = (skipped, kept))
          ∧ (item.code ≠ 0 → ∀ i, s.findCode item.code = some i →
              ((s.entry i).status = .serving → s.importItem kept item = (s, kept))
                ∧ ((s.entry i).status ≠ .serving →
                    ((s.entry i).channel = p.channel ∧ (s.entry i).colour = p.colour)
                        ∨ s.isTarget (s.entry i) = true →
                      s.importItem kept item =
                        (s.setTable (s.withEntry i { s.entry i with digest := some digest }), kept))
                ∧ ((s.entry i).status ≠ .serving → s.isTarget (s.entry i) = false →
                    ¬((s.entry i).channel = p.channel ∧ (s.entry i).colour = p.colour) →
                      (s.clashes (some i) p → s.importItem kept item = (s.conflictCounted, kept))
                        ∧ (¬s.clashes (some i) p →
                          (s.importItem kept item).2 = kept
                            ∧ (s.importItem kept item).1.table =
                                s.withEntry i { (s.entry i).repaired p with digest := some digest }
                            ∧ (s.importItem kept item).1.ranking =
                                { s.ranking with
                                  watch := if s.ranking.watch = some i then none else s.ranking.watch })))
          ∧ (item.code ≠ 0 → s.findCode item.code = none →
              (s.clashes none p → s.importItem kept item = (s.conflictCounted, kept))
                ∧ (¬s.clashes none p → s.hasNoPlace kept → s.importItem kept item = (skipped, kept))
                ∧ (¬s.clashes none p → ∀ i, s.takesNew kept i →
                  s.importItem kept item =
                    ((s.withoutObject i).setTable
                        (s.withEntry i (admittedEntry item.code p .neighbour 0 (some digest))),
                      i :: kept))))
    ∧ (∀ (s : State) (p : Nat) (f : Fragment) (l : Listen),
        let st := s.beacon.watchStore.place p f
        st.complete = true → st.accepted = true → s.roam.engine = .hunt ∨ s.roam.engine = .direct →
        s.scan.listen = some l →
          s.watchFragment p f =
            ((s.setBeacon
                { s.beacon with watchStore := Store.cleared, lastWatch := some st.summary }).huntAccept st.summary l,
              BeaconReport.nothing))
    ∧ ∀ (s : State) (r : Frame),
        (r.settling = true ∨ r.check ≠ .pass ∨ r.fragment = none ∨ r.sync = none →
          s.beaconRecord r = (s, BeaconReport.nothing))
          ∧ ∀ (f : Fragment) (colour : Nat), r.settling = false → r.check = .pass → r.fragment = some f →
              r.sync = some colour →
                (∀ i, s.serving = some i → (s.entry i).channel = r.channel → (s.entry i).colour = colour →
                  s.beaconRecord r = s.servingFragment i r.position f)
                ∧ ((∀ i, s.serving = some i → ¬((s.entry i).channel = r.channel ∧ (s.entry i).colour = colour)) →
                    s.beaconRecord r =
                      if s.beacon.owner = some { channel := r.channel, colour := colour } then
                        s.watchFragment r.position f
                      else (s, BeaconReport.nothing))

/-- R152: the recall list of a page: at most 4 sites, no site code twice, each the newest valid slot of its code below the first
blank slot, newest first: its items stand in slots of falling index, each below the first blank slot and with no newer valid slot
of its code; a list of fewer than 4 leaves no code out, and a code that a list of 4 leaves out stands in older slots alone. R149,
R150: an append request that the newest valid slot holds already changes nothing; else an idle writer begins to write it at the
fill count or, at a full page, an erase with the request pending, and a busy writer makes it the pending write. -/
def Obligations.RecallListHoldsTheNewestSites : Prop :=
  (∀ page : List Host.Cell,
    (recallListOf page).length ≤ 4
      ∧ ((recallListOf page).map Site.code).Nodup
      ∧ (∀ x ∈ recallListOf page,
          ∃ i < usedPrefix page, slotSite page i = some x
            ∧ ∀ j, i < j → j < usedPrefix page → ∀ y, slotSite page j = some y → y.code ≠ x.code)
      ∧ ((recallListOf page).length < 4 →
          ∀ i < usedPrefix page, ∀ y, slotSite page i = some y → ∃ x ∈ recallListOf page, x.code = y.code)
      ∧ ∃ slots : List Nat,
          slots.Pairwise (fun i j => j < i)
            ∧ slots.map (slotSite page) = (recallListOf page).map some
            ∧ (∀ k ∈ slots, k < usedPrefix page
                ∧ ∀ j, k < j → j < usedPrefix page → ∀ x y, slotSite page k = some x → slotSite page j = some y →
                    y.code ≠ x.code)
            ∧ ∀ i < usedPrefix page, ∀ y, slotSite page i = some y → (∀ x ∈ recallListOf page, x.code ≠ y.code) →
                ∀ k ∈ slots, i < k)
    ∧ (∀ (page : List Host.Cell) (n : Nat),
        (newestValid page n = none → ∀ i < n, slotSite page i = none)
          ∧ ∀ x, newestValid page n = some x →
              ∃ i < n, slotSite page i = some x ∧ ∀ j, i < j → j < n → slotSite page j = none)
    ∧ ∀ (a : RecallArea) (x : Site),
        (a.writer = .idle →
          a.append x =
            if newestValid a.page a.fill = some x then a
            else if a.fill < 32 then { a with writer := .writing x }
            else { a with writer := .erasing, pendingWrite := some x })
          ∧ (a.writer ≠ .idle → a.append x = { a with pendingWrite := some x })

/-- R115: the generator: a seed is never 0; a step shifts right by one and puts the exclusive-or of bits 0, 2, 3 and 5 into bit 15,
and a value other than 0 never becomes 0; a draw steps it once and gives a backoff count within 1..W. R114, R116: the countdown and
the burst it sends. R114, R118: the echo is judged at the first record past the slot: WON, LOST with a new draw and step 2 at that
record, or failure NO ACCESS with the bar time with no attempts left. R119: a record in AWAITING GRANT, with each grant result, and
the wait that runs out at it, with a new draw or failure NO ACCESS; R120: a redirect is followed once. Which phase a record is
handled in: R111, R113, R116, R119. R110, R111, R112, R113, R116: a record in TUNING and in READING: the target is judged by the
beacon accepted at it or, where READING is skipped, by the last watch beacon that names it, else its OWN BEACON digest, else not at
all; a target that passes is contended for with the slot count and window fixed by the same sources. R109, R121, R103: a record of
a registration: the multiframe count and the site position first, then failure MISMATCH at a beacon of another site, then the
phase, then failure TOO LONG. A registration that began at the record itself has its first record in the next one, and at this one
only a beacon of another site ends it (log 27, the model's reading). The model's choices and readings: a GRANT of no known result
at the echo record is WON, and the wait for a grant begins (log 55); a QUEUED after the first does not hold the timeout off (log
44); entries that a lost burst carried, none for a REGISTER burst, return to UNSENT where they are still SENT (log 20). -/
def Obligations.BackoffDrawStaysInTheWindow : Prop :=
  (∀ identity : Identity, generatorSeed identity ≠ 0#16)
    ∧ (∀ g : BitVec 16,
        (∀ k < 15, (generatorStep g).getLsbD k = g.getLsbD (k + 1))
          ∧ (generatorStep g).getLsbD 15 = (((g.getLsbD 0 ^^ g.getLsbD 2) ^^ g.getLsbD 3) ^^ g.getLsbD 5)
          ∧ (g ≠ 0#16 → generatorStep g ≠ 0#16))
    ∧ (∀ (s : State) (g : BitVec 16), s.access.generator = some g → 0 < s.window →
        s.draw.access.generator = some (generatorStep g)
          ∧ 1 ≤ s.draw.access.backoff ∧ s.draw.access.backoff ≤ s.window)
    ∧ (∀ (s : State) (w : AccessParams) (input : AccessInput), s.access.state = .contending →
        s.access.params = some w → s.access.outstanding = none →
          (s.access.sitePosition = none → s.contend input = s)
            ∧ ∀ p, s.access.sitePosition = some p →
              let slot (q : Nat) : Bool := decide (q % 2 = 1 ∧ q < 2 * w.slots)
              let count := if slot p then s.access.backoff - 1 else s.access.backoff
              let next := (p + 1) % 16
              s.contend input =
                if count = 1 ∧ slot next ∧ s.access.attempts < s.access.attemptLimit then
                  { s with
                    access :=
                      { s.access with
                        backoff := count, attempts := s.access.attempts + 1
                        outstanding := some { position := next, carried := [] } }
                    frontEnd :=
                      s.frontEnd ++
                        [FrontEndRecord.burst next .register
                          (be24 (s.groups.identity.getD 0#24).toNat ++ be16 s.access.previous
                            ++ [BitVec.ofNat 8 s.groups.groups.length, if s.call.emergency = true then 1#8 else 0#8])] }
                else s.setAccess { s.access with backoff := count })
    ∧ (∀ (s : State) (b : Burst) (p : Nat) (input : AccessInput), s.access.state = .contending →
        s.access.outstanding = some b → s.access.sitePosition = some p →
          let won :=
            s.setAccess { s.access with state := .awaitingGrant, outstanding := none, wait := 0 }
          let echo : Prop := p = (b.position + 1) % 16 ∧ input.sync = true
          let lost (collisions : Nat) : Prop :=
            (s.access.attempts < s.access.attemptLimit → ∀ g, s.access.generator = some g →
              (s.contend input).access.state = .contending
                ∧ (s.contend input).access.generator = some (generatorStep g)
                ∧ (s.contend input).access.backoff = (generatorStep g).toNat % s.window + 1
                ∧ (s.contend input).access.collisions = collisions ∧ (s.contend input).roam = s.roam)
            ∧ (s.access.attempts < s.access.attemptLimit → ∀ g, s.access.generator = some g →
                let drawn : AccessUnit :=
                  { s.access with
                    generator := some (generatorStep g), backoff := (generatorStep g).toNat % s.window + 1
                    outstanding := none, collisions := collisions }
                s.contend input =
                  match s.burstDue drawn.backoff s.slots s.access.attempts s.access.attemptLimit with
                  | some q =>
                    { s with
                      access :=
                        { drawn with
                          attempts := s.access.attempts + 1, outstanding := some { position := q, carried := [] } }
                      groups := s.groupsReturned b.carried
                      frontEnd := s.frontEnd ++ [s.registerBurst q] }
                  | none => { s with access := drawn, groups := s.groupsReturned b.carried })
            ∧ (s.access.attemptLimit ≤ s.access.attempts →
                s.contend input =
                  ({ s with
                      access := { s.access with outstanding := none, collisions := collisions }
                      groups := s.groupsReturned b.carried } : State).failRoam .noAccess (some 0))
          (p = b.position ∨ (p + 1) % 16 = b.position → s.contend input = s)
            ∧ (p ≠ b.position → (p + 1) % 16 ≠ b.position →
                (¬echo ∨ (input.echo = none ∧ input.grant = none) → lost s.access.collisions)
                  ∧ (echo → ∀ radio slot, input.echo = some (radio, slot) →
                      (s.groups.identity = some radio → slot = (b.position - 1) / 2 → s.contend input = won)
                        ∧ (s.groups.identity = some radio → slot ≠ (b.position - 1) / 2 → lost s.access.collisions)
                        ∧ (s.groups.identity ≠ some radio → lost (min (s.access.collisions + 1) 65535)))
                  ∧ (echo → input.echo = none → ∀ g, input.grant = some g →
                      s.contend input = if g.acts s.access.queuedUsed = true then won.takeGrant g else won)))
    ∧ (∀ (s : State) (input : AccessInput), s.access.state = .awaitingGrant →
        let counted := s.setAccess { s.access with wait := s.access.wait + 1 }
        (s.access.wait + 1 < s.access.grantWait → input.grant = none ∨ input.grant = some .other →
          s.awaitGrant input = counted)
          ∧ (s.access.wait + 1 < s.access.grantWait → s.access.queuedUsed = true → input.grant = some .queued →
              s.awaitGrant input = counted)
          ∧ (s.access.queuedUsed = false → input.grant = some .queued →
              s.awaitGrant input = s.setAccess { s.access with queuedUsed := true, wait := 0 })
          ∧ (∀ count, input.grant = some (.accept count) → s.awaitGrant input = counted.acceptRoam count)
          ∧ (∀ hold, input.grant = some (.reject hold) →
              s.awaitGrant input = counted.failRoam .rejected (some hold))
          ∧ (∀ code channel colour, input.grant = some (.redirect code channel colour) →
              s.awaitGrant input = counted.takeRedirect code channel colour)
          ∧ (s.access.grantWait ≤ s.access.wait + 1 →
              input.grant = none ∨ input.grant = some .other
                  ∨ (s.access.queuedUsed = true ∧ input.grant = some .queued) →
                (s.access.attemptLimit ≤ s.access.attempts →
                    s.awaitGrant input = counted.failRoam .noAccess (some 0))
                  ∧ (s.access.attempts < s.access.attemptLimit → s.access.outstanding = none →
                      ∀ g, s.access.generator = some g →
                        let drawn : AccessUnit :=
                          { s.access with
                            state := .contending, wait := s.access.wait + 1, generator := some (generatorStep g)
                            backoff := (generatorStep g).toNat % s.window + 1 }
                        s.awaitGrant input =
                          match s.burstDue drawn.backoff s.slots s.access.attempts s.access.attemptLimit with
                          | some q =>
                            { s with
                              access :=
                                { drawn with
                                  attempts := s.access.attempts + 1
                                  outstanding := some { position := q, carried := [] } }
                              frontEnd := s.frontEnd ++ [s.registerBurst q] }
                          | none => s.setAccess drawn)))
    ∧ (∀ (s : State) (input : AccessInput),
        (s.access.state = .contending → s.registrationPhase input = s.contend input)
          ∧ (s.access.state = .awaitingGrant → s.registrationPhase input = s.awaitGrant input))
    ∧ (∀ (s : State) (used : Bool),
        (∀ g : Grant, g.acts used = true ↔ g ≠ .other ∧ (used = true → g ≠ .queued))
          ∧ (∀ count, s.takeGrant (.accept count) = s.acceptRoam count)
          ∧ (∀ hold, s.takeGrant (.reject hold) = s.failRoam .rejected (some hold))
          ∧ (∀ code channel colour,
              s.takeGrant (.redirect code channel colour) = s.takeRedirect code channel colour)
          ∧ s.takeGrant .queued = s.setAccess { s.access with queuedUsed := true, wait := 0 })
    ∧ (∀ (s : State) (input : AccessInput),
        let params := s.registrationParams
        let contends (u v : State) : Prop :=
          v.access.state = .contending ∧ v.access.params = some params ∧ v.access.target = s.access.target
            ∧ (∀ g, s.access.generator = some g →
                v.access.generator = some (generatorStep g)
                  ∧ v.access.backoff = (generatorStep g).toNat % params.window + 1)
            ∧ (s.access.outstanding = none →
                v.access.outstanding =
                    ((s.burstDue v.access.backoff params.slots s.access.attempts s.access.attemptLimit).map fun q =>
                      { position := q, carried := [] })
                  ∧ v.access.attempts = s.access.attempts + (if v.access.outstanding = none then 0 else 1)
                  ∧ v.frontEnd =
                      s.frontEnd ++ (v.access.outstanding.map fun b => s.registerBurst b.position).toList)
            ∧ v.access.wait = u.access.wait ∧ v.table = s.table ∧ v.roam = s.roam ∧ v.host = s.host
        let judged (u v : State) (closed emergencyOnly : Bool) (hold : Nat) : Prop :=
          (closed = true → v = s.failRoam .closed (some hold))
            ∧ (closed = false → emergencyOnly = true → s.call.emergency = false → v = s.failRoam .emergencyOnly none)
            ∧ (closed = false → (emergencyOnly = true → s.call.emergency = true) → contends u v)
        let counted := s.setAccess { s.access with wait := s.access.wait + 1 }
        (s.access.state = .tuning →
          (∀ b, input.beacon = some b → judged s (s.registrationPhase input) b.closed b.emergencyOnly b.hold)
            ∧ (input.beacon = none → s.access.skipReading = false →
                s.registrationPhase input = s.setAccess { s.access with state := .reading, wait := 0 })
            ∧ (input.beacon = none → s.access.skipReading = true →
                (∀ b, s.beacon.lastWatch = some b → b.code = s.access.target →
                  judged s (s.registrationPhase input) b.closed b.emergencyOnly b.hold)
                ∧ ((∀ b, s.beacon.lastWatch = some b → b.code ≠ s.access.target) →
                  ∀ i, s.findCode s.access.target = some i →
                    (∀ d o, (s.entry i).digest = some d → d.own = some o →
                      judged s (s.registrationPhase input) o.closed o.emergencyOnly 0)
                    ∧ ((∀ d, (s.entry i).digest = some d → d.own = none) → contends s (s.registrationPhase input)))))
          ∧ (s.access.state = .reading →
              (∀ b, input.beacon = some b → judged counted (s.registrationPhase input) b.closed b.emergencyOnly b.hold)
                ∧ (input.beacon = none →
                    s.registrationPhase input =
                      if s.access.readLimit ≤ s.access.wait + 1 then s.failRoam .unreadable (some 0) else counted)))
    ∧ (∀ s : State,
        (∀ b, s.beacon.lastWatch = some b → b.code = s.access.target →
          s.registrationParams = { slots := b.slots, window := b.window })
        ∧ ((∀ b, s.beacon.lastWatch = some b → b.code ≠ s.access.target) →
          (∀ i d o, s.findCode s.access.target = some i → (s.entry i).digest = some d → d.own = some o →
            s.registrationParams = { slots := o.slots, window := o.window })
          ∧ ((∀ i d, s.findCode s.access.target = some i → (s.entry i).digest = some d → d.own = none) →
            s.registrationParams = { slots := 1, window := 8 })))
    ∧ (∀ (s : State) (r : Frame) (input : AccessInput), s.access.state.registering = true →
        let moved : State :=
          s.setAccess
            { s.access with
              multiframes := s.access.multiframes + (if input.multiframe = true then 1 else 0)
              sitePosition :=
                if s.access.state = .tuning then s.access.sitePosition
                else if input.sync = true then some r.position
                else s.access.sitePosition.map fun p => (p + 1) % 16 }
        let ran := moved.registrationPhase input
        (∀ b, input.beacon = some b → b.code ≠ s.access.target →
          s.registrationRecord r input = s.failRoam .mismatch (some 0))
        ∧ ((∀ b, input.beacon = some b → b.code = s.access.target) →
          s.registrationRecord r input =
            if ran.access.state.registering = true ∧ ran.access.registrationLimit ≤ ran.access.multiframes then
              ran.failRoam .tooLong (some 0)
            else ran))
    ∧ (∀ (s : State) (code channel colour : Nat),
        (s.access.redirectUsed = true →
          s.takeRedirect code channel colour = s.failRoam .redirectLoop (some 0))
          ∧ (s.access.redirectUsed = false → ∀ (t : State) (answer : Admission),
              s.admitFound code { channel := channel, colour := colour } = (t, answer) →
                match answer with
                | .admitted i =>
                  if (t.entry i).status = .serving ∨ (t.entry i).barred ≠ 0 then
                    s.takeRedirect code channel colour = t.failRoam .redirectRefused (some 0)
                  else
                    (s.takeRedirect code channel colour).access =
                        { t.access with
                          state := .tuning, target := (t.entry i).code, attempts := 0, backoff := 0
                          outstanding := none, redirectUsed := true, params := none, sitePosition := none
                          wait := 0, skipReading := t.alreadyRead (t.entry i) }
                      ∧ (s.takeRedirect code channel colour).frontEnd =
                          t.frontEnd ++ [FrontEndRecord.tune (t.entry i).channel]
                      ∧ (s.takeRedirect code channel colour).beacon.owner =
                          some { channel := (t.entry i).channel, colour := (t.entry i).colour }
                      ∧ (s.takeRedirect code channel colour).table = t.table
                      ∧ (s.takeRedirect code channel colour).roam = t.roam
                | .conflict => s.takeRedirect code channel colour = t.failRoam .redirectRefused (some 0)
                | .full => s.takeRedirect code channel colour = t.failRoam .tableFull (some 0)))
    ∧ ∀ (s : State) (r : Frame) (engine : Engine) (input : AccessInput), s.roam.engine = .registering →
        (engine = .registering → s.accessRecord r engine input = s.registrationRecord r input)
          ∧ (engine ≠ .registering →
              (∀ b, input.beacon = some b → b.code ≠ s.access.target →
                s.accessRecord r engine input = s.failRoam .mismatch (some 0))
              ∧ ((∀ b, input.beacon = some b → b.code = s.access.target) → s.accessRecord r engine input = s))

/-- R138: AFFIL ACK with count m confirms the first m SENT entries in list order and returns every other SENT entry to UNSENT; ids,
masks and the other entries stay. R128, R129, R132, R139: a count above 16 is taken as 16; an AFFIL ACK to the radio in a serving
sync record with settling clear and frame check PASS, taken in CAMPED, is applied to the group list at once in every access state,
one AFFILIATION event carries the count, the serving site code and the entries now listed, CONFIRMED and UNSENT, and the Access
Unit is told of it. -/
def Obligations.AcknowledgementConfirmsTheFirstSent : Prop :=
  (∀ (m : Nat) (groups : List Group) (i : Nat),
    (acknowledge m groups)[i]? =
      groups[i]?.map fun g =>
        if g.delivery = .sent then
          { g with
            delivery := if ((groups.take i).countP fun x => x.delivery == .sent) < m then .confirmed else .unsent }
        else g)
    ∧ ∀ (s : State) (r : Frame) (b : ControlBlock) (m : Byte) (payload : List Byte),
        r.block = some b → b.kind = 0 → b.code = 3 → b.payload = m :: payload →
        r.settling = false → r.check = .pass → s.roam.engine = .camped → s.servingSync r = true →
          let groups := acknowledge (min m.toNat 16) s.groups.groups
          s.filterRecord r =
            if s.groups.identity = some b.destination then
              ({ s with
                  groups := { s.groups with groups := groups }
                  host :=
                    s.host.offer
                      (.affiliation (min m.toNat 16) s.servingCode groups.length
                        (groups.countP fun g => g.delivery == .confirmed)
                        (groups.countP fun g => g.delivery == .unsent)) },
                { FilterOutput.nothing with ack := true })
            else (s, FilterOutput.nothing)

/-- R130: a group entry matches a destination exactly when they agree at every bit place where its mask holds 0; the matching entry
is the one of lowest index, and there is none exactly when none matches; a block passes by its destination kind. R129, R131, R132,
R133: outside CAMPED and REGISTERING no block is read, in CAMPED those of a serving sync record alone; an ECHO is handed on
whatever radio it names, a PAGE and a GROUP NOTICE that pass become events, and another block is set aside. R132: a MOVE that
passes goes to the Roam Engine, and in REGISTERING a block of another type than ECHO and GRANT is set aside. R98: what MOVE does
with the answer of its admission; outside CAMPED it is discarded. -/
def Obligations.GroupMatchesOutsideItsMask : Prop :=
  (∀ (g : Group) (d : Identity),
    g.matches d = true ↔ ∀ i < 24, g.mask.getLsbD i = false → d.getLsbD i = g.id.getLsbD i)
    ∧ (∀ (s : State) (d : Identity),
        (s.matchingGroup d = none → ∀ g ∈ s.groups.groups, g.matches d = false)
          ∧ ∀ k : Nat, s.matchingGroup d = some k →
            (∃ g, s.groups.groups[k]? = some g ∧ g.matches d = true)
              ∧ ∀ j < k, ∀ g, s.groups.groups[j]? = some g → g.matches d = false)
    ∧ (∀ (s : State) (b : ControlBlock),
        s.passes b = true ↔
          (b.kind = 0 ∧ s.groups.identity = some b.destination)
            ∨ (b.kind = 1 ∧ ∃ g ∈ s.groups.groups, g.matches b.destination = true)
            ∨ (b.kind = 2 ∧ s.par .allCallEnable = 1))
    ∧ (∀ (s : State) (r : Frame) (b : ControlBlock), r.block = some b →
        (r.settling = true ∨ r.check ≠ .pass ∨ readMessage b = none
            ∨ (s.roam.engine ≠ .camped ∧ s.roam.engine ≠ .registering)
            ∨ (s.roam.engine = .camped ∧ s.servingSync r = false)
            ∨ (s.roam.engine = .registering ∧ s.targetSync r = false) →
          s.filterRecord r = (s, FilterOutput.nothing))
          ∧ (r.settling = false → r.check = .pass →
              (s.roam.engine = .camped ∧ s.servingSync r = true)
                  ∨ (s.roam.engine = .registering ∧ s.targetSync r = true) →
                (∀ slot, readMessage b = some (.echo slot) →
                  s.filterRecord r = (s, { FilterOutput.nothing with echo := some (b.destination, slot) }))
                  ∧ ∀ g, readMessage b = some (.grant g) →
                    s.filterRecord r =
                      (s, if s.passes b = true then { FilterOutput.nothing with grant := some g }
                          else FilterOutput.nothing))
          ∧ (r.settling = false → r.check = .pass → s.roam.engine = .camped → s.servingSync r = true →
              (s.passes b = false → (∀ slot, readMessage b ≠ some (.echo slot)) →
                s.filterRecord r = (s, FilterOutput.nothing))
                ∧ (s.passes b = true → ∀ payload, readMessage b = some (.page payload) →
                  s.filterRecord r =
                    ({ s with host := s.host.offer (.page s.servingCode payload) }, FilterOutput.nothing))
                ∧ (s.passes b = true → ∀ payload, readMessage b = some (.groupNotice payload) →
                  s.filterRecord r =
                    ({ s with
                        host :=
                          s.host.offer
                            (.groupNotice s.servingCode b.kind b.destination
                              (if b.kind = 1 then s.matchingGroup b.destination else none) payload) },
                      FilterOutput.nothing))
                ∧ (s.passes b = true → ∀ code channel colour, readMessage b = some (.move code channel colour) →
                  s.filterRecord r =
                    (s.takeMove code { channel := channel, colour := colour }, FilterOutput.nothing)))
          ∧ (s.roam.engine = .registering → (∀ slot, readMessage b ≠ some (.echo slot)) →
              (∀ g, readMessage b ≠ some (.grant g)) → s.filterRecord r = (s, FilterOutput.nothing)))
    ∧ ∀ (s : State) (code : Nat) (p : Pair),
        (s.roam.engine ≠ .camped → s.takeMove code p = s)
          ∧ (s.roam.engine = .camped → ∀ (t : State) (answer : Admission), s.admitFound code p = (t, answer) →
              let ignored (cause : MoveCause) : State :=
                { t with host := t.host.offer (.moveIgnored code p.channel p.colour cause) }
              match answer with
              | .admitted i =>
                if (t.entry i).status = .serving then s.takeMove code p = ignored .serving
                else if (t.entry i).barred ≠ 0 then s.takeMove code p = ignored .barred
                else
                  (s.takeMove code p).roam =
                      { t.roam with
                        engine := .registering, previous := t.serving.map fun j => (t.entry j).code
                        reason := some .move, enteredFrom := .camped }
                    ∧ (s.takeMove code p).access.state = .tuning
                    ∧ (s.takeMove code p).access.target = (t.entry i).code
                    ∧ (s.takeMove code p).pins.txinh = true
                    ∧ (s.takeMove code p).frontEnd = t.frontEnd ++ [FrontEndRecord.tune (t.entry i).channel]
                    ∧ (s.takeMove code p).table = t.table
              | .conflict => s.takeMove code p = ignored .conflict
              | .full => s.takeMove code p = ignored .tableFull)

/-- R20, R68, R70: a bar sets the timer of the named entry to the requested time, or to the active bar time for 0, and its dwell
count to 0, and clears the watch when the entry is the watch candidate; it is not applied to the SERVING entry or to a code that no
occupied entry holds. -/
def Obligations.BarSetsTheTimer : Prop :=
  ∀ (s : State) (code requested : Nat),
    (s.findCode code = none → s.bar code requested = s)
      ∧ ∀ i, s.findCode code = some i →
        ((s.entry i).status = .serving → s.bar code requested = s)
          ∧ ((s.entry i).status ≠ .serving →
            (s.bar code requested).table =
                { s.table with
                  entries := s.table.entries.set i
                    { s.entry i with
                      barred := if requested = 0 then s.par .barTime else requested, dwell := 0 } }
              ∧ (s.bar code requested).ranking =
                  { s.ranking with watch := if s.ranking.watch = some i then none else s.ranking.watch })

/-- R17, R50, R102, R104, R124: ACCEPT with a continuation count: the previous serving entry becomes HEARD with the departure
penalty, the target SERVING with heard age, bar and penalty 0, every dwell count 0; the Serving Store takes the Watch Store; every
group is UNSENT; the engine is CAMPED with TXINH released; ENGINE STATE and ROAMED are sent in this order, and the Recall Area is
asked to append the site; with a count above 0 the continuation begins with so many reserved occurrences, and with 0 an affiliation
exchange with its draw, or with no group the unit is idle. A burst that the exchange sends at once takes its entries to SENT. -/
def Obligations.AcceptChangesTheServingSite : Prop :=
  ∀ (s : State) (i count : Nat), s.roam.engine = .registering → s.findCode s.access.target = some i →
    (s.entry i).status ≠ .serving →
    (s.acceptRoam count).entry i =
        { s.entry i with status := .serving, heardAge := 0, barred := 0, penalty := 0, dwell := 0 }
      ∧ (∀ j, s.serving = some j →
          (s.acceptRoam count).entry j =
            { s.entry j with status := .heard, barred := 0, penalty := s.par .departurePenalty, dwell := 0 })
      ∧ (∀ k, k ≠ i → s.serving ≠ some k → (s.acceptRoam count).entry k = { s.entry k with dwell := 0 })
      ∧ (s.acceptRoam count).beacon.servingStore = s.beacon.watchStore
      ∧ (s.acceptRoam count).beacon.lastServing = s.beacon.lastWatch
      ∧ (s.acceptRoam count).beacon.watchStore = Store.cleared
      ∧ (s.acceptRoam count).beacon.owner = none
      ∧ (s.acceptRoam count).groups =
          { s.groups with
            groups := s.groups.groups.mapIdx fun k g =>
              { g with
                delivery :=
                  match (s.acceptRoam count).access.outstanding with
                  | some b => if k ∈ b.carried then .sent else .unsent
                  | none => .unsent } }
      ∧ (s.acceptRoam count).roam.engine = .camped
      ∧ (s.acceptRoam count).pins.txinh = false
      ∧ (s.acceptRoam count).intake.loss = 0
      ∧ (s.acceptRoam count).ranking = { watch := none, weakCount := 0, weakReported := false, reportCount := 0 }
      ∧ (s.acceptRoam count).host =
          (s.host.offer (.engineState s.roam.engine .camped .outcome false)).offer
            (.roamed (s.roam.previous.getD 0) i (s.entry i).code s.roam.reason)
      ∧ (s.acceptRoam count).recallArea =
          s.recallArea.append
            { code := (s.entry i).code, channel := (s.entry i).channel, colour := (s.entry i).colour }
      ∧ (s.acceptRoam count).roam = { s.roam with engine := .camped, previous := none, reason := none }
      ∧ (0 < count →
          (s.acceptRoam count).access.state = .continuing ∧ (s.acceptRoam count).access.reserved = count
            ∧ (s.acceptRoam count).access.outstanding = none
            ∧ (s.acceptRoam count).access.params = s.access.params
            ∧ (s.acceptRoam count).access.sitePosition = s.access.sitePosition
            ∧ (s.acceptRoam count).frontEnd = s.frontEnd)
      ∧ (count = 0 → s.groups.groups = [] →
          (s.acceptRoam count).access.state = .idle ∧ (s.acceptRoam count).access.outstanding = none
            ∧ (s.acceptRoam count).frontEnd = s.frontEnd)
      ∧ (count = 0 → s.groups.groups ≠ [] →
          (s.acceptRoam count).access.state = .affiliating
            ∧ (s.acceptRoam count).access.attempts =
                (if (s.acceptRoam count).access.outstanding = none then 0 else 1)
            ∧ ∀ g, s.access.generator = some g → (s.acceptRoam count).access.generator = some (generatorStep g))

/-! ## The host's commands -/

/-- R159: an event takes the next number whether it is queued or, with 12 events waiting, dropped and counted; nothing but the Host
Link's queue, number and dropped-event counter changes. 12.4, 12.4.3, R166: the kind and the body of each of the twelve events,
with 0xFF for a matching group that is none. -/
def Obligations.EventTakesItsNumber : Prop :=
  (∀ (s : State) (e : Event), s.event e = { s with host := s.host.offer e })
    ∧ (∀ (old new : Engine) (cause : EngineCause) (txinh : Bool),
        (Event.engineState old new cause txinh).kind = 0x41#8
          ∧ (Event.engineState old new cause txinh).body =
              [old.toByte, new.toByte, cause.toByte, if txinh = true then 1#8 else 0#8])
    ∧ (∀ (oldCode index newCode : Nat) (reason : Reason),
        (Event.roamed oldCode index newCode (some reason)).kind = 0x42#8
          ∧ (Event.roamed oldCode index newCode (some reason)).body =
              be16 oldCode ++ BitVec.ofNat 8 index :: (be16 newCode ++ [reason.toByte]))
    ∧ (∀ (index code bar : Nat) (cause : FailureCause) (reason : Reason),
        (Event.roamFailed (some index) code cause (some reason) bar).kind = 0x43#8
          ∧ (Event.roamFailed (some index) code cause (some reason) bar).body =
              BitVec.ofNat 8 index :: (be16 code ++ [cause.toByte, reason.toByte, BitVec.ofNat 8 bar]))
    ∧ (∀ index code level weak : Nat,
        (Event.servingWeak index code level weak).kind = 0x44#8
          ∧ (Event.servingWeak index code level weak).body =
              BitVec.ofNat 8 index :: (be16 code ++ be16 level ++ [BitVec.ofNat 8 weak]))
    ∧ (∀ (index code level samples weak : Nat) (score : Int),
        (Event.servingReport index code level samples score weak).kind = 0x45#8
          ∧ (Event.servingReport index code level samples score weak).body =
              BitVec.ofNat 8 index
                :: (be16 code ++ be16 level ++ BitVec.ofNat 8 samples
                  :: (be16 (BitVec.ofInt 16 score).toNat ++ [BitVec.ofNat 8 weak])))
    ∧ (∀ (index code old new : Nat) (isolated closed emergencyOnly : Bool),
        (Event.beaconChanged index code old new isolated closed emergencyOnly).kind = 0x46#8
          ∧ (Event.beaconChanged index code old new isolated closed emergencyOnly).body =
              BitVec.ofNat 8 index
                :: (be16 code
                  ++ [BitVec.ofNat 8 old, BitVec.ofNat 8 new
                    , BitVec.ofNat 8
                        ((if isolated = true then 4 else 0) + (if closed = true then 2 else 0)
                          + (if emergencyOnly = true then 1 else 0))]))
    ∧ (∀ (code : Nat) (payload : List Byte),
        (Event.page code payload).kind = 0x47#8 ∧ (Event.page code payload).body = be16 code ++ payload)
    ∧ (∀ (code kind : Nat) (destination : Identity) (matching : Option Nat) (payload : List Byte),
        (Event.groupNotice code kind destination matching payload).kind = 0x48#8
          ∧ (Event.groupNotice code kind destination matching payload).body =
              be16 code ++ BitVec.ofNat 8 kind
                :: (be24 destination.toNat
                  ++ (match matching with
                    | some i => BitVec.ofNat 8 i
                    | none => 0xFF#8) :: payload))
    ∧ (∀ count code entries confirmed unsent : Nat,
        (Event.affiliation count code entries confirmed unsent).kind = 0x49#8
          ∧ (Event.affiliation count code entries confirmed unsent).body =
              BitVec.ofNat 8 count
                :: (be16 code ++ [BitVec.ofNat 8 entries, BitVec.ofNat 8 confirmed, BitVec.ofNat 8 unsent]))
    ∧ (∀ (code channel colour : Nat) (cause : MoveCause),
        (Event.moveIgnored code channel colour cause).kind = 0x4A#8
          ∧ (Event.moveIgnored code channel colour cause).body =
              be16 code ++ be16 channel ++ [BitVec.ofNat 8 colour, cause.toByte])
    ∧ Event.frontEndSilent.kind = 0x4B#8 ∧ Event.frontEndSilent.body = []
    ∧ ∀ n : Nat, (Event.linkError n).kind = 0x4C#8 ∧ (Event.linkError n).body = be16 n

/-- R158: a frame whose kind is none of the sixteen commands' is answered UNKNOWN KIND and changes nothing else. -/
def Obligations.UnknownKindIsAnswered : Prop :=
  ∀ (s : State) (f : HostFrame) (rest : List HostFrame), s.offers f rest → f.kind.toNat = 0 ∨ 16 < f.kind.toNat →
    exec .unknownKindCommand s = .next (s.refusedWith f rest .unknownKind)

/-- R158: a command whose body length Section 12 does not allow for its kind is answered FORMAT and changes nothing else, for each
of the sixteen commands. -/
def Obligations.WrongLengthIsAnsweredFormat : Prop :=
  ∀ row ∈ commandRows, ∀ (s : State) (f : HostFrame) (rest : List HostFrame),
    s.offers f rest → f.kind = row.2.1 → row.2.2 f.body = false →
      exec row.1 s = .next (s.refusedWith f rest .format)

/-- The model's choice (log 1, log 2): a command's row takes the head of the intake queue only when the head is its command and may
be taken (R157, R164); else nothing changes. -/
def Obligations.CommandRowWaitsForItsFrame : Prop :=
  ∀ row ∈ commandRows, ∀ s : State,
    (∀ f rest, s.offers f rest → f.kind ≠ row.2.1) → exec row.1 s = .next s

/-- R160: PROVISION under a set lock is LOCKED; identity 0 or 0xFFFFFF is INVALID IDENTITY; else the identity is set, the generator
seeded from its low 16 bits, or with 0xACE1 when they are zero, and the lock set. -/
def Obligations.ProvisionIsJudged : Prop :=
  ∀ (s : State) (f : HostFrame) (rest : List HostFrame) (a b c : Byte),
    s.offers f rest → f.kind = 0x01#8 → f.body = [a, b, c] →
      exec .provision s =
        .next
          (if s.host.locked then s.refusedWith f rest .locked
          else if (a ++ b ++ c : BitVec 24) = 0#24 ∨ (a ++ b ++ c : BitVec 24) = 0xFFFFFF#24 then
            s.refusedWith f rest .invalidIdentity
          else
            { s with
              groups := { s.groups with identity := some (a ++ b ++ c : BitVec 24) }
              access :=
                { s.access with
                  generator := some (if (b ++ c : BitVec 16) = 0#16 then 0xACE1#16 else (b ++ c : BitVec 16)) }
              host := { (s.host.taken rest).answer f .ok [] with locked := true } })

/-- R161: SET PARAMETERS of k items, k up to 13: a code outside the table refuses the whole; else each value, clamped to its range,
becomes its parameter's pending value, a later item winning over an earlier; the others keep theirs. ADJUSTED says that a value was
clamped. The active values stand. -/
def Obligations.SetParametersMergesItsItems : Prop :=
  ∀ (s : State) (f : HostFrame) (rest : List HostFrame) (items : List (Byte × Byte × Byte)),
    s.offers f rest → f.kind = 0x02#8 → items.length ≤ 13 → s.host.pendingParams.length = 27 →
    f.body = items.flatMap (fun x => [x.1, x.2.1, x.2.2]) →
      ((∃ x ∈ items, x.1.toNat = 0 ∨ 27 < x.1.toNat) →
        exec .setParameters s = .next (s.refusedWith f rest .format))
      ∧ ((∀ x ∈ items, 1 ≤ x.1.toNat ∧ x.1.toNat ≤ 27) →
        ∃ pending : List (Option Nat),
          exec .setParameters s =
              .next
                (s.setHost
                  { (s.host.taken rest).answer f
                      (if ∀ x ∈ items,
                          clampParam (x.1.toNat - 1) (256 * x.2.1.toNat + x.2.2.toNat)
                            = 256 * x.2.1.toNat + x.2.2.toNat
                        then .ok else .adjusted) [] with
                    pendingParams := pending })
            ∧ pending.length = 27
            ∧ ∀ p < 27,
                pending.getD p none =
                  match items.reverse.find? (fun x => x.1.toNat == p + 1) with
                  | some x => some (clampParam p (256 * x.2.1.toNat + x.2.2.toNat))
                  | none => s.host.pendingParams.getD p none)

/-- R5, R7, R8: LOAD SITE with a site code, channel, colour or pin byte out of its range is FORMAT. A new site, which no occupied
entry holds, is IN USE when an occupied entry holds its channel and colour; else it takes the FREE entry of lowest index or, with
no entry FREE, the one that eviction chooses, and a visit for the site it evicts loses its object (R15); with none evictable it is
FULL. -/
def Obligations.LoadSiteAdmitsANewSite : Prop :=
  (∀ (s : State) (f : HostFrame) (rest : List HostFrame) (a b c d colour p pin : Byte),
    s.offers f rest → f.kind = 0x03#8 → f.body = [a, b, c, d, colour, p, pin] →
    256 * a.toNat + b.toNat = 0 ∨ 4095 < 256 * a.toNat + b.toNat ∨ 1023 < 256 * c.toNat + d.toNat
        ∨ 63 < colour.toNat ∨ 1 < pin.toNat →
      exec .loadSite s = .next (s.refusedWith f rest .format))
    ∧ ∀ (s : State) (f : HostFrame) (rest : List HostFrame) (code channel : Nat) (colour p pin : Byte),
        s.offers f rest → s.tableSound → f.kind = 0x03#8 → 1 ≤ code → code ≤ 4095 → channel ≤ 1023 →
        colour.toNat ≤ 63 → pin = 0#8 ∨ pin = 1#8 → f.body = be16 code ++ be16 channel ++ [colour, p, pin] →
        (∀ j < 12, (s.entry j).status ≠ .free → (s.entry j).code ≠ code) →
          let pair : Pair := { channel := channel, colour := colour.toNat }
          (s.clashes none pair → exec .loadSite s = .next (s.refusedWith f rest .inUse))
            ∧ (¬s.clashes none pair → s.hasNoPlace [] → exec .loadSite s = .next (s.refusedWith f rest .full))
            ∧ (¬s.clashes none pair → ∀ i, s.takesNew [] i →
              exec .loadSite s =
                .next
                  (((s.withoutObject i).setTable
                    (s.withEntry i
                      (admittedEntry code pair (if pin = 1#8 then .pinned else .found) (max (-32) (min p.toInt 31))
                        none))).setHost
                    ((s.host.taken rest).answer f (if -32 ≤ p.toInt ∧ p.toInt ≤ 31 then .ok else .adjusted)
                      [BitVec.ofNat 8 i])))

/-- R6, R7, R8: LOAD SITE of a site the table holds: IN USE when the SERVING entry or the target would change its channel or colour
or another entry holds both; else the entry takes the preference and the pin, and a changed channel or colour makes it LISTED with
F, n and dwell count 0. -/
def Obligations.LoadSiteUpdatesItsEntry : Prop :=
  ∀ (s : State) (f : HostFrame) (rest : List HostFrame) (code channel i : Nat) (colour p pin : Byte),
    s.offers f rest → s.tableSound → f.kind = 0x03#8 → 1 ≤ code → code ≤ 4095 → channel ≤ 1023 → colour.toNat ≤ 63 →
    pin = 0#8 ∨ pin = 1#8 → f.body = be16 code ++ be16 channel ++ [colour, p, pin] → s.findCode code = some i →
      ((((s.entry i).status = .serving ∨ s.isTarget (s.entry i) = true)
            ∧ ¬((s.entry i).channel = channel ∧ (s.entry i).colour = colour.toNat))
          ∨ (∃ j < 12, j ≠ i ∧ (s.entry j).status ≠ .free ∧ (s.entry j).channel = channel
              ∧ (s.entry j).colour = colour.toNat) →
        exec .loadSite s = .next (s.refusedWith f rest .inUse))
      ∧ (((s.entry i).status ≠ .serving ∧ s.isTarget (s.entry i) = false
            ∨ (s.entry i).channel = channel ∧ (s.entry i).colour = colour.toNat) →
          (∀ j < 12, j ≠ i → (s.entry j).status ≠ .free →
            ¬((s.entry j).channel = channel ∧ (s.entry j).colour = colour.toNat)) →
        ∃ t : State, exec .loadSite s = .next t
          ∧ t.host =
              (s.host.taken rest).answer f (if -32 ≤ p.toInt ∧ p.toInt ≤ 31 then .ok else .adjusted)
                [BitVec.ofNat 8 i]
          ∧ t.table =
              { s.table with
                entries := s.table.entries.set i
                  (if (s.entry i).channel = channel ∧ (s.entry i).colour = colour.toNat then
                    { s.entry i with
                      preference := max (-32) (min p.toInt 31)
                      origin := if pin = 1#8 then .pinned else (s.entry i).origin }
                  else
                    { s.entry i with
                      channel := channel, colour := colour.toNat, status := .listed, level := 0, samples := 0
                      dwell := 0, preference := max (-32) (min p.toInt 31)
                      origin := if pin = 1#8 then .pinned else (s.entry i).origin }) }
          ∧ t.scan = s.scan ∧ t.roam = s.roam ∧ t.access = s.access ∧ t.groups = s.groups ∧ t.intake = s.intake)

/-- R16, R44: DROP SITE: FORMAT for a code outside 1..4095, UNKNOWN SITE when no occupied entry holds it, IN USE for the SERVING
entry and the registration target; else the entry, whatever its origin, is cleared to FREE and its index answered. The watch goes
with its candidate, and in CAMPED, where the watch candidate is the Watch Store's owner, the Watch Store with its owner. A visit in
progress for the site loses its object (R15). The rest of the Scan Sequencer, the engine, the Access Unit, the groups, the call
state, the frame intake, the Recall Area, the pins and the records sent stand. -/
def Obligations.DropSiteRemovesTheEntry : Prop :=
  ∀ (s : State) (f : HostFrame) (rest : List HostFrame) (h l : Byte),
    s.offers f rest → f.kind = 0x04#8 → f.body = [h, l] →
      (256 * h.toNat + l.toNat = 0 ∨ 4095 < 256 * h.toNat + l.toNat →
        exec .dropSite s = .next (s.refusedWith f rest .format))
      ∧ (1 ≤ 256 * h.toNat + l.toNat → 256 * h.toNat + l.toNat ≤ 4095 →
        (s.findCode (256 * h.toNat + l.toNat) = none →
          exec .dropSite s = .next (s.refusedWith f rest .unknownSite))
        ∧ ∀ i, s.findCode (256 * h.toNat + l.toNat) = some i →
          if (s.entry i).status = .serving ∨ s.isTarget (s.entry i) = true then
            exec .dropSite s = .next (s.refusedWith f rest .inUse)
          else
            ∃ t : State, exec .dropSite s = .next t
              ∧ t.table = { s.table with entries := s.table.entries.set i Entry.free }
              ∧ t.host = (s.host.taken rest).answer f .ok [BitVec.ofNat 8 i]
              ∧ t.ranking =
                  { s.ranking with watch := if s.ranking.watch = some i then none else s.ranking.watch }
              ∧ (s.ranking.watch = some i → s.roam.engine = .camped →
                  t.beacon.owner = none
                    ∧ (s.beacon.owner ≠ none → t.beacon.watchStore = Store.cleared ∧ t.beacon.lastWatch = none))
              ∧ (s.ranking.watch ≠ some i → t.beacon = s.beacon)
              ∧ t.scan = (s.withoutObject i).scan ∧ t.roam = s.roam ∧ t.access = s.access ∧ t.groups = s.groups ∧ t.intake = s.intake
              ∧ t.call = s.call ∧ t.recallArea = s.recallArea ∧ t.pins = s.pins ∧ t.frontEnd = s.frontEnd)

/-- R82, 12.4.1: SET HUNT CHANNELS of c channels, c up to 31: the first 24 become the hunt channel list, and a longer command is
answered ADJUSTED. Channel k is the k-th group of ten bits after byte 0. -/
def Obligations.SetHuntChannelsReplacesTheList : Prop :=
  ∀ (s : State) (f : HostFrame) (rest : List HostFrame) (c : Byte) (packed : List Byte),
    s.offers f rest → f.kind = 0x05#8 → f.body = c :: packed → c.toNat ≤ 31 →
    packed.length = (10 * c.toNat + 7) / 8 →
      ∃ channels : List Nat,
        channels.length = c.toNat
          ∧ (∀ k < c.toNat,
              channels.getD k 0 = natOfBytes packed / 2 ^ (8 * packed.length - 10 * (k + 1)) % 1024)
          ∧ exec .setHuntChannels s =
              .next
                ((s.setScan { s.scan with huntChannels := channels.take 24 }).setHost
                  ((s.host.taken rest).answer f (if c.toNat ≤ 24 then .ok else .adjusted) []))

/-- R126, R136: a whole SET GROUPS (byte 0 is 0x80) of up to 6 pairs replaces the list, every entry UNSENT. Outside CAMPED with no
exchange it changes nothing else; in CAMPED an exchange is abandoned and, for a list that is not empty, a new one begins. -/
def Obligations.SetGroupsReplacesTheList : Prop :=
  ∀ (s : State) (f : HostFrame) (rest : List HostFrame) (pairs : List GroupPair),
    s.offers f rest → f.kind = 0x06#8 → pairs.length ≤ 6 →
    f.body = 0x80#8 :: pairs.flatMap (fun p => be24 p.id.toNat ++ be24 p.mask.toNat) →
      (s.roam.engine ≠ .camped → s.access.state.exchange = false →
        exec .setGroups s =
          .next
            ((s.setGroups
              { s.groups with
                groups := pairs.map fun p => { id := p.id, mask := p.mask, delivery := .unsent } }).setHost
              { (s.host.taken rest).answer f .ok [] with assembly := none }))
      ∧ (s.roam.engine = .camped → s.access.state.registering = false →
        ∃ t : State, exec .setGroups s = .next t
          ∧ t.groups =
              { s.groups with groups := pairs.map fun p => { id := p.id, mask := p.mask, delivery := .unsent } }
          ∧ t.host = { (s.host.taken rest).answer f .ok [] with assembly := none }
          ∧ t.access.outstanding = (if pairs = [] ∧ s.access.state = .idle then s.access.outstanding else none)
          ∧ (pairs ≠ [] → t.access.state = .affiliating ∧ t.access.attempts = 0)
          ∧ (pairs = [] → t.access.state = .idle)
          ∧ t.table = s.table ∧ t.roam = s.roam ∧ t.intake = s.intake)

/-- R136, R167: a part of SET GROUPS that is not final: part 0 starts an assembly, part n is added to an assembly that expects n,
and the group list stands; a part out of turn, and part 7, discards the assembly and is refused FORMAT. A final part in turn ends
the assembly, and the pairs gathered become the group list, the first 16 of them when there are more, which is answered ADJUSTED; a
final part above 0 out of turn is refused FORMAT too. -/
def Obligations.GroupPartsAreGathered : Prop :=
  ∀ (s : State) (f : HostFrame) (rest : List HostFrame) (n : Nat) (pairs : List GroupPair),
    s.offers f rest → f.kind = 0x06#8 → n < 8 → pairs.length ≤ 6 →
    let discarded := s.setHost { (s.host.taken rest).answer f .format [] with assembly := none }
    (f.body = BitVec.ofNat 8 n :: pairs.flatMap (fun p => be24 p.id.toNat ++ be24 p.mask.toNat) →
      (n = 0 →
        exec .setGroups s =
          .next
            (s.setHost
              { (s.host.taken rest).answer f .ok [] with assembly := some { pairs := pairs, next := 1 } }))
      ∧ (∀ a, s.host.assembly = some a → a.next = n → 0 < n → n < 7 →
        exec .setGroups s =
          .next
            (s.setHost
              { (s.host.taken rest).answer f .ok [] with
                assembly := some { pairs := a.pairs ++ pairs, next := n + 1 } }))
      ∧ (n = 7 ∨ (0 < n ∧ ∀ a, s.host.assembly = some a → a.next ≠ n) →
        exec .setGroups s = .next discarded))
    ∧ (f.body = BitVec.ofNat 8 (128 + n) :: pairs.flatMap (fun p => be24 p.id.toNat ++ be24 p.mask.toNat) → 0 < n →
      ((∀ a, s.host.assembly = some a → a.next ≠ n) → exec .setGroups s = .next discarded)
      ∧ ∀ a, s.host.assembly = some a → a.next = n → s.roam.engine ≠ .camped → s.access.state.exchange = false →
        exec .setGroups s =
          .next
            ((s.setGroups
              { s.groups with
                groups :=
                  ((a.pairs ++ pairs).take 16).map fun p =>
                    { id := p.id, mask := p.mask, delivery := .unsent } }).setHost
              { (s.host.taken rest).answer f
                  (if (a.pairs ++ pairs).length ≤ 16 then .ok else .adjusted) [] with
                assembly := none }))

/-- R13, R83, R84, R91: START: STATE outside STOPPED, NOT PROVISIONED without an identity; else HUNT with TXINH asserted, the hunt
timer 0 and its flag clear, no previous serving site and no reason, ENGINE STATE with cause START before the OK. The recall list is
handed to the table item by item, newest first, and the hunt list is built from the table as it leaves it, with TUNE to its first
channel; a recalled site is skipped when its code is present, counted as a conflict or a skip, or admitted as a RECALLED entry that
the rest of this START does not evict. The roam hold, the call state, the groups, the recall area, the frame intake and the
parameters stand. That the frame intake's timing reference stands with it, so that a START after a STOP can enter HUNT in TRACKING,
is the model's reading of R33 (log 25). -/
def Obligations.StartEntersTheHunt : Prop :=
  (∀ (s : State) (f : HostFrame) (rest : List HostFrame), s.offers f rest → f.kind = 0x07#8 → f.body = [] →
    (s.roam.engine ≠ .stopped → exec .start s = .next (s.refusedWith f rest .state))
      ∧ (s.roam.engine = .stopped → s.groups.identity = none →
        exec .start s = .next (s.refusedWith f rest .notProvisioned))
      ∧ (s.roam.engine = .stopped → s.groups.identity ≠ none →
        ∃ t : State, exec .start s = .next t
          ∧ t.roam =
              { s.roam with
                engine := .hunt, huntTimer := 0, expired := false, previous := none, reason := none }
          ∧ t.pins = { s.pins with txinh := true }
          ∧ t.host =
              ((s.host.taken rest).offer (.engineState .stopped .hunt .start true)).answer f .ok []
          ∧ t.scan.listen = none ∧ t.scan.visit = none ∧ t.scan.cursor = 0
          ∧ t.beacon.owner = none
          ∧ t.table = (s.recallItems [] s.recallArea.list).table
          ∧ t.scan.huntList = (s.setTable t.table).huntSources
          ∧ t.frontEnd = s.frontEnd ++ (t.scan.huntList.head?.map FrontEndRecord.tune).toList
          ∧ t.call = s.call ∧ t.groups = s.groups ∧ t.recallArea = s.recallArea ∧ t.intake = s.intake
          ∧ t.access = s.access ∧ t.ranking = s.ranking))
    ∧ (∀ (s : State) (kept : List Nat) (item : Site) (rest : List Site),
        s.recallItems kept [] = s
          ∧ s.recallItems kept (item :: rest) =
              (s.recallItem kept item).1.recallItems (s.recallItem kept item).2 rest)
    ∧ ∀ (s : State) (kept : List Nat) (item : Site), s.tableSound →
        let p : Pair := { channel := item.channel, colour := item.colour }
        (∀ i, s.findCode item.code = some i → s.recallItem kept item = (s, kept))
          ∧ (s.findCode item.code = none →
              (s.clashes none p → s.recallItem kept item = (s.conflictCounted, kept))
                ∧ (¬s.clashes none p → s.hasNoPlace kept →
                    s.recallItem kept item =
                      (s.setTable { s.table with skips := min (s.table.skips + 1) 65535 }, kept))
                ∧ (¬s.clashes none p → ∀ i, s.takesNew kept i →
                    s.recallItem kept item =
                      ((s.withoutObject i).setTable
                          (s.withEntry i (admittedEntry item.code p .recalled 0 none)),
                        i :: kept)))

/-- R92: STOP in STOPPED is answered OK and changes nothing else. In any other state: STOPPED with TXINH released, ENGINE STATE
with cause STOP before the OK; the SERVING entry HEARD with penalty and bar 0; dwell counts, watch, weak count, Serving Store and
last serving beacon cleared; the Access Unit idle, every group UNSENT; no TUNE. -/
def Obligations.StopEntersStopped : Prop :=
  ∀ (s : State) (f : HostFrame) (rest : List HostFrame), s.offers f rest → f.kind = 0x08#8 → f.body = [] →
    (s.roam.engine = .stopped → exec .stop s = .next (s.setHost ((s.host.taken rest).answer f .ok [])))
      ∧ (s.roam.engine ≠ .stopped →
        ∃ t : State, exec .stop s = .next t
          ∧ t.roam = { s.roam with engine := .stopped, previous := none, reason := none }
          ∧ t.pins = { s.pins with txinh := false }
          ∧ t.host =
              ((s.host.taken rest).offer (.engineState s.roam.engine .stopped .stop false)).answer f .ok []
          ∧ (∀ i, s.serving = some i →
              t.entry i = { s.entry i with status := .heard, barred := 0, penalty := 0, dwell := 0 })
          ∧ (∀ i, s.serving ≠ some i → t.entry i = { s.entry i with dwell := 0 })
          ∧ t.ranking =
              { watch := none, weakCount := 0, weakReported := false, reportCount := s.ranking.reportCount }
          ∧ t.beacon.servingStore = Store.cleared ∧ t.beacon.lastServing = none ∧ t.beacon.owner = none
          ∧ t.access.state = .idle ∧ t.access.outstanding = none ∧ t.access.generator = s.access.generator
          ∧ t.groups =
              { s.groups with groups := s.groups.groups.map fun g => { g with delivery := .unsent } }
          ∧ t.scan = { s.scan with visit := none, hunt := none, listen := none }
          ∧ t.call = s.call ∧ t.recallArea = s.recallArea ∧ t.intake = s.intake ∧ t.frontEnd = s.frontEnd)

/-- R81, R86, R143, R144: CALL STATE replaces the record whole, or is refused FORMAT for a value outside the lists. The reply's
flag is set for TRANSMITTING under an asserted TXINH. TRANSMITTING in CAMPED abandons a visit, with TUNE to the serving channel;
anything but IDLE in DIRECT ends a hunt visit or hunt-listen, with TUNE to the direct channel; nothing else acts. -/
def Obligations.CallStateReplacesTheRecord : Prop :=
  ∀ (s : State) (f : HostFrame) (rest : List HostFrame) (c e : Byte),
    s.offers f rest → f.kind = 0x09#8 → f.body = [c, e] →
      (2 < c.toNat ∨ 1 < e.toNat → exec .callState s = .next (s.refusedWith f rest .format))
      ∧ ∀ call : Call, c = call.toByte → e.toNat ≤ 1 →
        ∃ t : State, exec .callState s = .next t
          ∧ t.call = { call := call, emergency := decide (e = 1#8) }
          ∧ t.host =
              (s.host.taken rest).answer f .ok
                [if call = .transmitting ∧ s.pins.txinh = true then 1#8 else 0#8]
          ∧ t.roam = s.roam ∧ t.pins = s.pins ∧ t.table = s.table ∧ t.access = s.access ∧ t.groups = s.groups
          ∧ t.intake = s.intake ∧ t.ranking = s.ranking ∧ t.recallArea = s.recallArea
          ∧ (if s.roam.engine = .camped ∧ call = .transmitting ∧ s.scan.visit ≠ none then
              t.scan = { s.scan with visit := none }
                ∧ t.frontEnd =
                    s.frontEnd ++ (s.serving.map fun i => FrontEndRecord.tune (s.entry i).channel).toList
            else if s.roam.engine = .direct ∧ call ≠ .idle ∧ (s.scan.hunt ≠ none ∨ s.scan.listen ≠ none) then
              t.scan.hunt = none ∧ t.scan.listen = none ∧ t.beacon.owner = none
                ∧ t.frontEnd = s.frontEnd ++ [FrontEndRecord.tune (s.par .directChannel)]
            else t.scan = s.scan ∧ t.frontEnd = s.frontEnd ∧ t.beacon = s.beacon)

/-- R94: ROAM HOLD sets the roam hold, or is refused FORMAT for a byte other than 0 and 1. -/
def Obligations.RoamHoldIsSet : Prop :=
  ∀ (s : State) (f : HostFrame) (rest : List HostFrame) (b : Byte), s.offers f rest → f.kind = 0x0A#8 → f.body = [b] →
    exec .roamHold s =
      .next
        (if b.toNat ≤ 1 then
          (s.setRoam { s.roam with hold := decide (b = 1#8) }).setHost ((s.host.taken rest).answer f .ok [])
        else s.refusedWith f rest .format)

/-- R97, R99, R100, R108: ROAM TO: FORMAT, STATE, UNKNOWN SITE and BARRED in this order; else REGISTERING with the entry as target
and reason FORCED, the serving site kept as previous, the limits copied, TUNE to its channel, ENGINE STATE before the OK with the
index. R93, R95: a DWELL or URGENT trigger is discarded outside CAMPED and declined under the roam hold and by the call state,
DWELL while RECEIVING unless roam in call is on, as is an URGENT one with no target; else it starts a registration with its target
in the same way, with reason DWELL or URGENT. -/
def Obligations.RoamToStartsARegistration : Prop :=
  (∀ (s : State) (f : HostFrame) (rest : List HostFrame) (h l : Byte),
    s.offers f rest → f.kind = 0x0B#8 → f.body = [h, l] →
      (256 * h.toNat + l.toNat = 0 ∨ 4095 < 256 * h.toNat + l.toNat →
        exec .roamTo s = .next (s.refusedWith f rest .format))
      ∧ (1 ≤ 256 * h.toNat + l.toNat → 256 * h.toNat + l.toNat ≤ 4095 →
        (s.roam.engine ≠ .camped → exec .roamTo s = .next (s.refusedWith f rest .state))
        ∧ (s.roam.engine = .camped → s.findCode (256 * h.toNat + l.toNat) = none →
          exec .roamTo s = .next (s.refusedWith f rest .unknownSite))
        ∧ ∀ i, s.roam.engine = .camped → s.findCode (256 * h.toNat + l.toNat) = some i →
          if (s.entry i).status = .serving then exec .roamTo s = .next (s.refusedWith f rest .unknownSite)
          else if (s.entry i).barred ≠ 0 then exec .roamTo s = .next (s.refusedWith f rest .barred)
          else
            ∃ t : State, exec .roamTo s = .next t
              ∧ t.roam =
                  { s.roam with
                    engine := .registering, previous := s.serving.map fun j => (s.entry j).code
                    reason := some .forced, enteredFrom := .camped }
              ∧ t.pins = { s.pins with txinh := true }
              ∧ t.host =
                  ((s.host.taken rest).offer (.engineState .camped .registering .registration true)).answer f .ok
                    [BitVec.ofNat 8 i]
              ∧ t.access.state = .tuning
              ∧ t.access.target = 256 * h.toNat + l.toNat
              ∧ t.access.attempts = 0 ∧ t.access.outstanding = none
              ∧ t.access.attemptLimit = s.par .attemptLimit ∧ t.access.grantWait = s.par .grantWait
              ∧ t.access.readLimit = s.par .readLimit ∧ t.access.registrationLimit = s.par .registrationLimit
              ∧ t.beacon.owner = some { channel := (s.entry i).channel, colour := (s.entry i).colour }
              ∧ t.scan = { s.scan with visit := none, hunt := none, listen := none }
              ∧ t.frontEnd = s.frontEnd ++ [FrontEndRecord.tune (s.entry i).channel]
              ∧ t.table = s.table ∧ t.intake = s.intake ∧ t.call = s.call))
    ∧ ∀ s : State,
        let starts (t : State) (i : Nat) (reason : Reason) : Prop :=
          t.roam =
              { s.roam with
                engine := .registering, previous := s.serving.map fun j => (s.entry j).code
                reason := some reason, enteredFrom := .camped }
            ∧ t.pins = { s.pins with txinh := true }
            ∧ t.host = s.host.offer (.engineState .camped .registering .registration true)
            ∧ t.access.state = .tuning ∧ t.access.target = (s.entry i).code
            ∧ t.access.attempts = 0 ∧ t.access.outstanding = none
            ∧ t.beacon.owner = some { channel := (s.entry i).channel, colour := (s.entry i).colour }
            ∧ t.scan = { s.scan with visit := none, hunt := none, listen := none }
            ∧ t.frontEnd = s.frontEnd ++ [FrontEndRecord.tune (s.entry i).channel]
            ∧ t.table = s.table ∧ t.intake = s.intake ∧ t.call = s.call ∧ t.recallArea = s.recallArea
        let permitted (dwell : Bool) : Prop :=
          s.roam.hold = false
            ∧ (s.call.call = .idle ∨ (s.call.call = .receiving ∧ (dwell = true → s.par .roamInCall = 1)))
        (∀ trigger, s.roam.engine ≠ .camped → s.takeTrigger trigger = s)
          ∧ s.takeTrigger (.urgent none) = s
          ∧ ∀ code, s.roam.engine = .camped →
              (¬permitted true → s.takeTrigger (.dwell code) = s)
                ∧ (¬permitted false → s.takeTrigger (.urgent (some code)) = s)
                ∧ ∀ i, s.findCode code = some i →
                    (permitted true → starts (s.takeTrigger (.dwell code)) i .dwell)
                      ∧ (permitted false → starts (s.takeTrigger (.urgent (some code))) i .urgent)

/-- R103, R104, R123: ROAM ABORT: STATE when no registration runs, TOO LATE with a burst outstanding in CONTENDING or in AWAITING
GRANT; else the registration fails ABORTED with no bar: the unit idle, the engine CAMPED on the previous site, or DIRECT or HUNT by
the expiry flag, ENGINE STATE and ROAM FAILED before the OK, the table as it was. -/
def Obligations.RoamAbortEndsTheRegistration : Prop :=
  ∀ (s : State) (f : HostFrame) (rest : List HostFrame), s.offers f rest → f.kind = 0x0C#8 → f.body = [] →
    (s.access.state.registering = false → exec .roamAbort s = .next (s.refusedWith f rest .state))
      ∧ (s.access.state = .awaitingGrant ∨ (s.access.state = .contending ∧ s.access.outstanding ≠ none) →
        exec .roamAbort s = .next (s.refusedWith f rest .tooLate))
      ∧ (s.access.state = .tuning ∨ s.access.state = .reading
          ∨ (s.access.state = .contending ∧ s.access.outstanding = none) →
        ∃ (t : State) (engine : Engine), exec .roamAbort s = .next t
          ∧ engine = (if s.roam.previous ≠ none then .camped else if s.roam.expired then .direct else .hunt)
          ∧ t.roam = { s.roam with engine := engine, previous := none, reason := none }
          ∧ t.pins = { s.pins with txinh := decide (engine = .hunt) }
          ∧ t.host =
              (((s.host.taken rest).offer
                  (.engineState s.roam.engine engine .outcome (decide (engine = .hunt)))).offer
                (.roamFailed (s.findCode s.access.target) s.access.target .aborted s.roam.reason 0)).answer f .ok []
          ∧ t.access.state = .idle ∧ t.access.generator = s.access.generator
          ∧ t.table = s.table ∧ t.groups = s.groups ∧ t.call = s.call ∧ t.recallArea = s.recallArea)

/-- R1, R163, 12.4.2: QUERY SITE answers the 21 bytes of an entry, each spelled out, with byte 16 the digest's bits and every
digest field that is absent sent as 0, or FORMAT above index 11; QUERY STATUS answers the 29 bytes of the status with the ten
counters last. Neither changes anything but the queues of the Host Link. -/
def Obligations.QueriesChangeNothing : Prop :=
  ∀ (s : State) (f : HostFrame) (rest : List HostFrame), s.offers f rest →
    (∀ b : Byte, f.kind = 0x0D#8 → f.body = [b] →
      if b.toNat < 12 then
        exec .querySite s =
            .next (s.setHost ((s.host.taken rest).answer f .ok (entryBytes b.toNat (s.entry b.toNat))))
          ∧ (entryBytes b.toNat (s.entry b.toNat)).length = 21
          ∧ entryBytes b.toNat (s.entry b.toNat) =
              [b
              , match (s.entry b.toNat).status with
                | .free => 0#8
                | .listed => 1#8
                | .heard => 2#8
                | .serving => 3#8]
                ++ be16 (s.entry b.toNat).code ++ be16 (s.entry b.toNat).channel
                ++ [BitVec.ofNat 8 (s.entry b.toNat).colour
                , match (s.entry b.toNat).origin with
                  | .pinned => 0#8
                  | .neighbour => 1#8
                  | .found => 2#8
                  | .recalled => 3#8
                , BitVec.ofInt 8 (s.entry b.toNat).preference]
                ++ be16 (s.entry b.toNat).level
                ++ [BitVec.ofNat 8 (s.entry b.toNat).samples, BitVec.ofNat 8 (s.entry b.toNat).dwell
                , BitVec.ofNat 8 (s.entry b.toNat).heardAge, BitVec.ofNat 8 (s.entry b.toNat).barred
                , BitVec.ofNat 8 (s.entry b.toNat).penalty]
                ++ (match (s.entry b.toNat).digest with
                  | none => [0#8, 0#8, 0#8, 0#8, 0#8]
                  | some d =>
                    let bit (f : Bool) (k : Nat) : Nat := if f = true then k else 0
                    match d.own with
                    | none =>
                      [BitVec.ofNat 8 (128 + bit d.isolated 4), BitVec.ofNat 8 d.load, 0#8, 0#8, BitVec.ofNat 8 d.age]
                    | some o =>
                      [BitVec.ofNat 8 (192 + bit d.isolated 4 + bit o.closed 2 + bit o.emergencyOnly 1)
                      , BitVec.ofNat 8 d.load, BitVec.ofNat 8 o.slots, BitVec.ofNat 8 o.window
                      , BitVec.ofNat 8 d.age])
      else exec .querySite s = .next (s.refusedWith f rest .format))
    ∧ (f.kind = 0x0E#8 → f.body = [] →
      ∃ status : List Byte,
        exec .queryStatus s = .next (s.setHost ((s.host.taken rest).answer f .ok status))
          ∧ status.length = 29
          ∧ status.take 9 =
              [s.roam.engine.toByte, s.access.state.toByte
              , match s.serving with
                | some i => BitVec.ofNat 8 i
                | none => 0xFF#8
              , match s.ranking.watch with
                | some i => BitVec.ofNat 8 i
                | none => 0xFF#8
              , BitVec.ofNat 8
                  ((if s.pins.txinh = true then 32 else 0) + (if s.intake.timing = .tracking then 16 else 0)
                    + (if s.call.emergency = true then 8 else 0) + (if s.roam.hold = true then 4 else 0)
                    + (if s.groups.identity = none then 0 else 2)
                    + (if ∀ p ∈ s.host.pendingParams, p = none then 0 else 1))
              , s.call.call.toByte]
                ++ be24 (s.groups.identity.getD 0#24).toNat
          ∧ status.drop 9 =
              be16 s.intake.lostFrames ++ be16 s.intake.slips ++ be16 s.intake.checkErrors ++ be16 s.beacon.failures
                ++ be16 s.table.conflicts ++ be16 s.table.skips ++ be16 s.access.collisions
                ++ be16 s.access.missedSlots ++ be16 s.host.checkErrors ++ be16 s.host.droppedEvents)

/-- R151: RECALL CLEAR discards the pending write and is answered OK: an idle writer begins an erase, a writing one is asked for
it, an erase in flight serves the clear. The page and the recall list stand. What a second RECALL CLEAR under a set clear-requested
flag does with a pending write is left to RecallWriterCompletes. -/
def Obligations.RecallClearAsksForAnErase : Prop :=
  ∀ (s : State) (f : HostFrame) (rest : List HostFrame), s.offers f rest → f.kind = 0x0F#8 → f.body = [] →
    ∃ t : State, exec .recallClear s = .next t
      ∧ t = (s.setRecallArea t.recallArea).setHost ((s.host.taken rest).answer f .ok [])
      ∧ (s.recallArea.clearRequested = false ∨ s.recallArea.pendingWrite = none → t.recallArea.pendingWrite = none)
      ∧ t.recallArea.page = s.recallArea.page ∧ t.recallArea.list = s.recallArea.list
      ∧ t.recallArea.fill = s.recallArea.fill
      ∧ (s.recallArea.writer = .idle →
          t.recallArea.writer = .erasing ∧ t.recallArea.clearRequested = s.recallArea.clearRequested)
      ∧ (s.recallArea.writer = .erasing →
          t.recallArea.writer = .erasing ∧ t.recallArea.clearRequested = s.recallArea.clearRequested)
      ∧ (∀ x, s.recallArea.writer = .writing x →
          t.recallArea.writer = .writing x ∧ t.recallArea.clearRequested = true)

/-! ## Resets, the transmit line and power -/

/-- R159, R164, R167: RESET queues its OK reply, discards a group assembly, and from then on no command is taken; a record whose
last byte has been sent leaves the transmit queue, and nothing else changes, unless it is that reply. -/
def Obligations.ResetWaitsForItsReply : Prop :=
  (∀ (s : State) (f : HostFrame) (rest : List HostFrame), s.offers f rest → f.kind = 0x10#8 → f.body = [] →
    exec .reset s =
      .next (s.setHost { (s.host.taken rest).answer f .ok [] with resetTaken := true, assembly := none }))
    ∧ ∀ (s : State) (r : HostFrame) (q : List HostFrame), s.pins.supply = .running → s.host.transmit = r :: q →
      ¬(s.host.resetTaken = true ∧ r.kind = 0x80#8 ∧ r.body = [0x10#8, 0#8]) →
        exec .recordSent s = .next (s.setHost { s.host with transmit := q })

/-- R23, R39, R56, R74, R88, R106, R127, R140, R148, R164, R165, R167: a reset gives every block its reset values and sends ENGINE
STATE from STOPPED to STOPPED with the reset's cause: SOFT RESET when the OK reply of RESET has been sent, POWER-ON when the
supplies or RSTN come back. R152, R153: the page stands, the pending write and the clear request go; the fill count and the recall
list are read from the page, but for an unsound page, which is erased, and for an erase that a soft reset finds in flight; a write
in flight runs on through a soft reset. The model's choices: that the RECORD SENT of the reply and SOFT RESET are the same moment
(log 17), that POWER ON is void while the supplies are up (log 16), and that `free` and `pending` stand (log 33). -/
def Obligations.ResetValuesAreTaken : Prop :=
  (∀ (s : State) (tag : Byte) (q : List HostFrame), s.pins.supply = .running → s.host.resetTaken = true →
    s.host.transmit = { kind := 0x80#8, tag := tag, body := [0x10#8, 0#8] } :: q →
      ∀ row ∈ [Instr.recordSent, Instr.softReset],
        exec row s =
          .next
            { State.reset with
              recallArea := s.recallArea.softReset
              host :=
                { State.reset.host with
                  transmit := [{ kind := 0x41#8, tag := 0#8, body := [0#8, 0#8, 3#8, 0#8] }] }
              free := s.free
              pending := s.pending })
    ∧ (∀ s : State, s.pins.supply ≠ .running →
      exec .powerOn s =
        .next
          { State.reset with recallArea := s.recallArea.powerOn, free := s.free, pending := s.pending })
    ∧ (∀ a : RecallArea,
        let unsound : Prop := ∃ i j, i < j ∧ j < 32 ∧ slotUsed a.page i = false ∧ slotUsed a.page j = true
        let kept (b : RecallArea) : Prop := b.page = a.page ∧ b.pendingWrite = none ∧ b.clearRequested = false
        let read (b : RecallArea) : Prop :=
          b.list = recallListOf a.page ∧ b.fill ≤ 32 ∧ (∀ k < b.fill, slotUsed a.page k = true)
            ∧ (b.fill < 32 → slotUsed a.page b.fill = false)
        let erased (b : RecallArea) : Prop := b.writer = .erasing ∧ b.fill = 32 ∧ b.list = []
        kept a.powerOn ∧ kept a.softReset
          ∧ (unsound → erased a.powerOn) ∧ (¬unsound → a.powerOn.writer = .idle ∧ read a.powerOn)
          ∧ (a.writer = .idle → a.softReset = a.powerOn) ∧ (a.writer = .erasing → erased a.softReset)
          ∧ ∀ x, a.writer = .writing x → ¬unsound → a.softReset.writer = .writing x ∧ read a.softReset)
    ∧ State.reset.table = { entries := List.replicate 12 Entry.free, decay := 0, conflicts := 0, skips := 0 }
    ∧ (∀ n ∈ State.reset.counters, n = 0)
    ∧ State.reset.intake.queue = [] ∧ State.reset.intake.held = none ∧ State.reset.intake.counter = 0
    ∧ State.reset.intake.timing = .holdover ∧ State.reset.intake.loss = 0 ∧ State.reset.intake.silenceRunning = true
    ∧ State.reset.intake.received = []
    ∧ State.reset.beacon =
        { servingStore := Store.cleared, watchStore := Store.cleared, owner := none, lastWatch := none
          lastServing := none, failures := 0 }
    ∧ State.reset.ranking = { watch := none, weakCount := 0, weakReported := false, reportCount := 0 }
    ∧ State.reset.scan =
        { rotation := 0, pointer := 0, watchTurn := false, spent := [], decided := [], visit := none, hunt := none
          huntChannels := [], huntList := [], cursor := 0, listen := none, pace := false }
    ∧ State.reset.roam.engine = .stopped ∧ State.reset.roam.hold = false ∧ State.reset.roam.huntTimer = 0
    ∧ State.reset.roam.expired = false ∧ State.reset.roam.previous = none ∧ State.reset.roam.reason = none
    ∧ State.reset.access.state = .idle ∧ State.reset.access.outstanding = none
    ∧ State.reset.access.generator = none
    ∧ State.reset.groups = { identity := none, groups := [] }
    ∧ State.reset.call = { call := .idle, emergency := false }
    ∧ State.reset.pins = { txinh := false, supply := .running }
    ∧ State.reset.host.transmit = [{ kind := 0x41#8, tag := 0#8, body := [0#8, 0#8, 2#8, 0#8] }]
    ∧ State.reset.host.locked = false ∧ State.reset.host.active = paramDefaults
    ∧ State.reset.host.pendingParams = List.replicate 27 none ∧ State.reset.host.intake = []
    ∧ State.reset.host.sequence = 1#8 ∧ State.reset.host.linkError = false ∧ State.reset.host.received = []
    ∧ State.reset.host.resetTaken = false ∧ State.reset.host.assembly = none

/-- R141, R153: RSTN low and power loss release TXINH and end the writer's operation: an interrupted write leaves its slot blank,
torn or valid and every other slot as it was; an interrupted erase leaves each slot blank or as it was. R141 gives the release
while RSTN is low; that power loss releases TXINH too is the model's choice (log 16). -/
def Obligations.PowerDownReleasesTheInhibit : Prop :=
  ∀ s : State, s.pins.supply = .running → s.pageSound →
    ∀ row ∈ [(Instr.rstnLow, Supply.resetHeld), (Instr.powerLoss, Supply.off)],
      ∃ t : State, exec row.1 s = .next t
        ∧ t.pins = { txinh := false, supply := row.2 }
        ∧ t.recallArea.writer = .idle
        ∧ (s.recallArea.writer = .idle → t.recallArea = s.recallArea)
        ∧ (∀ x, s.recallArea.writer = .writing x → s.recallArea.fill < 32 →
            (∀ k < 32, k ≠ s.recallArea.fill →
              readSlotBytes t.recallArea.page k = readSlotBytes s.recallArea.page k)
            ∧ (slotUsed t.recallArea.page s.recallArea.fill = false
                ∨ slotTorn t.recallArea.page s.recallArea.fill = true
                ∨ readSlotBytes t.recallArea.page s.recallArea.fill = slotBytes x))
        ∧ (s.recallArea.writer = .erasing → ∀ k < 32,
            slotUsed t.recallArea.page k = false
              ∨ readSlotBytes t.recallArea.page k = readSlotBytes s.recallArea.page k)

/-! ## The recall writer -/

/-- R149, R150: a completed write fills the slot at the fill count, with the request or, when the write has failed, with a torn
content; every other slot stands and the fill count rises by one. A requested clear then begins; else a pending write is judged
against the page as it now stands, and begun unless the newest valid slot holds its site, a full page being erased first; with no
pending write the writer is idle. A completed erase leaves every slot blank and the fill count 0; a pending write is then begun,
and with none the writer is idle. R151: a second RECALL CLEAR while the flag is set asks for nothing more; that it discards a write
that has become pending meanwhile is the model's choice (log 49). -/
def Obligations.RecallWriterCompletes : Prop :=
  (∀ (s : State) (x : Site), s.pins.supply = .running → s.pageSound → s.recallArea.writer = .writing x →
    s.recallArea.fill < 32 →
      ∃ t : State, exec .recallWriteComplete s = .next t
        ∧ t.recallArea.fill = s.recallArea.fill + 1
        ∧ (∀ k < 32, k ≠ s.recallArea.fill →
            readSlotBytes t.recallArea.page k = readSlotBytes s.recallArea.page k)
        ∧ (readSlotBytes t.recallArea.page s.recallArea.fill = slotBytes x
            ∨ slotTorn t.recallArea.page s.recallArea.fill = true)
        ∧ (s.recallArea.clearRequested = true →
            t.recallArea.writer = .erasing ∧ t.recallArea.clearRequested = false)
        ∧ (s.recallArea.clearRequested = false → s.recallArea.pendingWrite = none → t.recallArea.writer = .idle)
        ∧ (s.recallArea.clearRequested = false → ∀ y, s.recallArea.pendingWrite = some y →
            if newestValid t.recallArea.page (s.recallArea.fill + 1) = some y then
              t.recallArea.writer = .idle ∧ t.recallArea.pendingWrite = none
            else if s.recallArea.fill + 1 < 32 then
              t.recallArea.writer = .writing y ∧ t.recallArea.pendingWrite = none
            else t.recallArea.writer = .erasing ∧ t.recallArea.pendingWrite = some y)
        ∧ t.recallArea.list = s.recallArea.list ∧ t.table = s.table ∧ t.host = s.host ∧ t.roam = s.roam)
    ∧ (∀ s : State, s.pins.supply = .running → s.recallArea.writer = .erasing → s.recallArea.clearRequested = false →
      exec .recallEraseComplete s =
        .next
          (s.setRecallArea
            { s.recallArea with
              page := [], fill := 0, pendingWrite := none
              writer := match s.recallArea.pendingWrite with
                | some x => .writing x
                | none => .idle }))
    ∧ ∀ (s : State) (f : HostFrame) (rest : List HostFrame) (x : Site), s.offers f rest → f.kind = 0x0F#8 → f.body = [] →
      s.recallArea.writer = .writing x → s.recallArea.clearRequested = true →
        exec .recallClear s =
          .next
            ((s.setRecallArea { s.recallArea with pendingWrite := none }).setHost
              ((s.host.taken rest).answer f .ok []))

/-! ## The host line -/

/-- R155, R156, R157: a frame with a matching check ends a run of damage and joins the intake queue, is answered BUSY under its
kind and tag when 4 frames wait and no BUSY does, or is dropped. -/
def Obligations.HostFrameIsPlaced : Prop :=
  ∀ (s : State) (kind tag : Byte) (body : List Byte), s.pins.supply = .running → s.host.received = [] →
    body.length ≤ 40 →
      exec (.hostFrameComplete (hostFrame kind tag body)) s =
        .next
          (s.setHost
            (if s.host.intake.length < 4 then
              { s.host with
                linkError := false, intake := s.host.intake ++ [{ kind := kind, tag := tag, body := body }] }
            else if s.host.transmit.any HostFrame.isBusy then { s.host with linkError := false }
            else
              { s.host.answer { kind := kind, tag := tag, body := body } .busy [] with linkError := false }))

/-- R155, R156: a frame discarded for its length or its check, and a lead byte followed by nothing for more than 5 ms, raise the
link check counter; the first of a run sends LINK ERROR with the raised counter and sets the flag, or leaves the flag clear when
there is no room. -/
def Obligations.DamagedHostFrameIsReported : Prop :=
  ∀ s : State, s.pins.supply = .running →
    let counted : HostLink := { s.host with checkErrors := min (s.host.checkErrors + 1) 65535 }
    let reported : HostLink :=
      if s.host.linkError then counted
      else
        { counted.offer (.linkError (min (s.host.checkErrors + 1) 65535)) with
          linkError := decide (eventsWaiting s.host.transmit < 12) }
    (s.host.received = [] → ∀ length : Byte, length.toNat < 2 ∨ 42 < length.toNat →
      exec (.hostFrameLengthDiscard [0xA7#8, length]) s =
        .next (s.setHost { reported with received := if length = 0xA7#8 then [0xA7#8] else [] }))
    ∧ (s.host.received = [] → ∀ (kind tag check : Byte) (body : List Byte), body.length ≤ 40 →
      crc8 (BitVec.ofNat 8 (body.length + 2) :: kind :: tag :: body) ≠ check →
      0xA7#8 ∉ kind :: tag :: (body ++ [check]) →
        exec (.hostFrameComplete (0xA7#8 :: BitVec.ofNat 8 (body.length + 2) :: kind :: tag :: (body ++ [check]))) s =
          .next (s.setHost { reported with received := [] }))
    ∧ (s.host.received = [0xA7#8] →
      exec .interByteGapTimeout s = .next (s.setHost { reported with received := [] }))

/-! ## The limit rows: each is the count that reaches its limit, on its own (log 3, the model's choice) -/

/-- R18, R21, R22, R55: a HEARD entry whose next heard age meets the limit falls to LISTED; a bar of 1 ends; a decay counter whose
next value meets the interval becomes 0 and every penalty above 0 falls by one; a digest whose next age meets the limit becomes
absent. That the one count moves and acts apart from a taken record, and all else stands, is the model's choice (log 3). R18, R21,
R22, R55, R77: at a multiframe start all of them move together, in the same entries and under the same limits; in CAMPED the
rotation offset advances by 3 and a new plan replaces the old one with no start spent but one at position 0 whose visit began at
the record before. -/
def Obligations.TableLimitsAct : Prop :=
  (∀ s : State, s.pins.supply = .running →
    (∀ i, (s.entry i).status = .heard → s.par .heardAgeLimit ≤ min ((s.entry i).heardAge + 1) 255 →
      ∃ t : State, exec (.heardAgeLimit i) s = .next t
        ∧ t.table =
            { s.table with
              entries := s.table.entries.set i
                { s.entry i with
                  heardAge := min ((s.entry i).heardAge + 1) 255, status := .listed, level := 0, samples := 0
                  dwell := 0 } }
        ∧ t.ranking = { s.ranking with watch := if s.ranking.watch = some i then none else s.ranking.watch }
        ∧ (s.ranking.watch = some i → s.roam.engine = .camped →
            t.beacon.owner = none
              ∧ (s.beacon.owner ≠ none → t.beacon.watchStore = Store.cleared ∧ t.beacon.lastWatch = none))
        ∧ (s.ranking.watch ≠ some i ∨ s.roam.engine ≠ .camped → t.beacon = s.beacon)
        ∧ t.scan = s.scan ∧ t.roam = s.roam ∧ t.access = s.access ∧ t.host = s.host ∧ t.intake = s.intake)
    ∧ (∀ i, (s.entry i).barred = 1 →
      exec (.barEnd i) s =
        .next
          (s.setTable { s.table with entries := s.table.entries.set i { s.entry i with barred := 0 } }))
    ∧ (s.par .decayInterval ≤ s.table.decay + 1 →
      exec .departureDecay s =
        .next
          (s.setTable
            { s.table with
              decay := 0
              entries := s.table.entries.map fun e => { e with penalty := e.penalty - 1 } }))
    ∧ ∀ (i : Nat) (d : Digest), (s.entry i).digest = some d → s.par .digestAgeLimit ≤ min (d.age + 1) 255 →
      exec (.digestAgeLimit i) s =
        .next
          (s.setTable { s.table with entries := s.table.entries.set i { s.entry i with digest := none } }))
    ∧ ∀ s : State, s.tableSound →
        let decays : Bool := decide (s.par .decayInterval ≤ s.table.decay + 1)
        let falls (e : Entry) : Prop := e.status = .heard ∧ s.par .heardAgeLimit ≤ min (e.heardAge + 1) 255
        s.multiframeWork.table =
            { s.table with
              decay := if decays then 0 else s.table.decay + 1
              entries := s.table.entries.map fun e =>
                e.afterMultiframe (s.par .heardAgeLimit) (s.par .digestAgeLimit) decays }
          ∧ s.multiframeWork.ranking =
              { s.ranking with
                watch :=
                  match s.ranking.watch with
                  | some w => if falls (s.entry w) then none else some w
                  | none => none }
          ∧ s.multiframeWork.scan =
              (if s.roam.engine = .camped then
                { s.scan with
                  rotation := (s.scan.rotation + 3) % 16
                  spent :=
                    match s.scan.visit with
                    | some v => if v.start = 0 ∧ v.stage = .settle then [0] else []
                    | none => [] }
              else s.scan)
          ∧ (∀ w, s.ranking.watch = some w → falls (s.entry w) → s.roam.engine = .camped →
              s.multiframeWork.beacon.owner = none)
          ∧ s.multiframeWork.roam = s.roam ∧ s.multiframeWork.access = s.access ∧ s.multiframeWork.host = s.host
          ∧ s.multiframeWork.groups = s.groups ∧ s.multiframeWork.intake = s.intake

/-- R73: in CAMPED with an interval above 0, a report counter whose next value meets the interval sends SERVING REPORT of the
SERVING entry and becomes 0. That it does so apart from a taken record, and all else stands, is the model's choice (log 3). At a
multiframe start the report counter is held at 0 under interval 0, rises by one below the interval, and else does what the row
does. -/
def Obligations.ServingReportIsSent : Prop :=
  (∀ (s : State) (i : Nat), s.pins.supply = .running → s.roam.engine = .camped → s.serving = some i →
     0 < s.par .reportInterval → s.par .reportInterval ≤ s.ranking.reportCount + 1 →
       exec .servingReport s =
         .next
           { s with
             ranking := { s.ranking with reportCount := 0 }
             host :=
               s.host.offer
                 (.servingReport i (s.entry i).code (s.entry i).level (s.entry i).samples (s.score (s.entry i))
                   s.ranking.weakCount) })
    ∧ ∀ s : State,
        (s.par .reportInterval = 0 → s.reportTick = s.setRanking { s.ranking with reportCount := 0 })
          ∧ (s.ranking.reportCount + 1 < s.par .reportInterval →
              s.reportTick = s.setRanking { s.ranking with reportCount := s.ranking.reportCount + 1 })
          ∧ (s.pins.supply = .running → s.roam.engine = .camped → 0 < s.par .reportInterval →
              s.par .reportInterval ≤ s.ranking.reportCount + 1 → exec .servingReport s = .next s.reportTick)

/-- R33, R34, R35, R96: a loss counter whose next value meets the loss limit, and a silence, in CAMPED lose the serving site: TXINH
asserted, HOLDOVER, the loss counter 0, the entry HEARD, the dwell counts, watch, weak count, Serving Store and delivery states
cleared, the hunt timer 0; then REGISTERING with the best eligible entry other than the lost one, reason LOSS and TUNE to its
channel, or with none HUNT, with its list built and its first visit begun. A silence outside CAMPED sends FRONT-END SILENT and sets
HOLDOVER alone. That the loss counter's row acts apart from a taken record is the model's choice (log 3). R96: a loss of any cause
is the same but for the cause its ENGINE STATE event names, and outside CAMPED it changes nothing. -/
def Obligations.LossOfTheServingSite : Prop :=
  (∀ s : State, s.pins.supply = .running →
     (∀ row ∈ [(Instr.servingLossLimit, EngineCause.loss), (Instr.silenceTimeout, EngineCause.silence)],
       s.roam.engine = .camped →
       (row.1 = .servingLossLimit → s.par .lossLimit ≤ s.intake.loss + 1) →
       (row.1 = .silenceTimeout → s.intake.silenceRunning = true) →
         ∃ t : State, exec row.1 s = .next t
           ∧ t.table =
               { s.table with
                 entries :=
                   s.table.entries.mapIdx fun i e =>
                     if s.serving = some i then { e with status := .heard, barred := 0, penalty := 0, dwell := 0 }
                     else { e with dwell := 0 } }
           ∧ (match (s.setTable t.table).bestEligible s.serving with
             | some i =>
               t.roam =
                   { s.roam with
                     engine := .registering, huntTimer := 0, expired := false, previous := none
                     reason := some .loss, enteredFrom := .camped }
                 ∧ t.access.state = .tuning ∧ t.access.target = (t.entry i).code
                 ∧ t.frontEnd = s.frontEnd ++ [FrontEndRecord.tune (t.entry i).channel]
             | none =>
               t.roam = { s.roam with engine := .hunt, huntTimer := 0, expired := false }
                 ∧ t.access.state.exchange = false
                 ∧ t.scan.huntList = (s.setTable t.table).huntSources ∧ t.scan.cursor = 0
                 ∧ t.frontEnd = s.frontEnd ++ (t.scan.huntList.head?.map FrontEndRecord.tune).toList)
           ∧ t.pins = { s.pins with txinh := true }
           ∧ t.host =
               (if row.1 = .silenceTimeout then s.host.offer .frontEndSilent else s.host).offer
                 (.engineState .camped t.roam.engine row.2 true)
           ∧ t.intake =
               { s.intake with
                 loss := 0, timing := .holdover
                 silenceRunning := s.intake.silenceRunning && row.1 != .silenceTimeout }
           ∧ t.ranking =
               { watch := none, weakCount := 0, weakReported := false, reportCount := s.ranking.reportCount }
           ∧ t.beacon.servingStore = Store.cleared ∧ t.beacon.lastServing = none
           ∧ t.groups = { s.groups with groups := s.groups.groups.map fun g => { g with delivery := .unsent } }
           ∧ t.call = s.call ∧ t.recallArea = s.recallArea)
     ∧ (s.intake.silenceRunning = true → s.roam.engine ≠ .camped →
       exec .silenceTimeout s =
         .next
           { s with
             intake := { s.intake with silenceRunning := false, timing := .holdover }
             host := s.host.offer .frontEndSilent }))
    ∧ (∀ s : State, s.pins.supply = .running → s.roam.engine = .camped → s.par .lossLimit ≤ s.intake.loss + 1 →
        exec .servingLossLimit s =
          .next ((s.setIntake { s.intake with loss := 0, timing := .holdover }).takeLost .loss))
    ∧ ∀ (s : State) (cause : EngineCause),
        (s.roam.engine ≠ .camped → s.takeLost cause = s)
          ∧ (s.roam.engine = .camped →
              s.takeLost cause =
                { s.takeLost .loss with
                  host := s.host.offer (.engineState .camped (s.takeLost .loss).roam.engine cause true) })

/-- R44, R83, R84, R85, R86, R105: a hunt-listen whose next frame meets its read limit ends and its Watch Store owner goes; the
cursor moves on, past the last item to a list built again; in HUNT the next hunt visit begins, and in DIRECT the modem is tuned
back. A hunt timer whose next value meets the hunt limit sets the expiry flag, and in HUNT leads to DIRECT with TXINH released,
ENGINE STATE with cause HUNT LIMIT and a list built again. The model's choices: that both rows act apart from a taken record (log
3), and that the state a registration was entered from is held (log 37). R105: the hunt timer at a record: it counts at a
multiframe start in HUNT and in a registration entered from HUNT, and nowhere else. R85: a hunt-listen begins at the measure record
that finds a site, on that record's channel and colour, with the count 0. R84, R86: at the end of a record in HUNT or DIRECT a hunt
visit whose measure record found nothing is over, a hunt-listen counts one frame, an empty list is built again, and in DIRECT the
visit due at every second multiframe start begins. Further choices and readings of the model: the state in which the record was
taken decides (log 12), a visit due in DIRECT at the record that ends another is skipped (log 29), and an empty list built again
with an item begins its visit at that record (log 41). -/
def Obligations.HuntLimitsAct : Prop :=
  (∀ s : State, s.pins.supply = .running →
     (∀ l : Listen, s.scan.listen = some l → l.limit ≤ l.count + 1 →
       ∃ t : State, exec .huntListenReadLimit s = .next t
         ∧ t.scan.listen = none ∧ t.beacon.owner = none
         ∧ (s.scan.cursor + 1 < s.scan.huntList.length →
             t.scan.cursor = s.scan.cursor + 1 ∧ t.scan.huntList = s.scan.huntList)
         ∧ (s.scan.huntList.length ≤ s.scan.cursor + 1 →
             t.scan.cursor = 0 ∧ t.scan.huntList = s.huntSources)
         ∧ (s.roam.engine = .direct →
             t.scan.hunt = none ∧ t.frontEnd = s.frontEnd ++ [FrontEndRecord.tune (s.par .directChannel)])
         ∧ (s.roam.engine = .hunt →
             t.scan.hunt =
                 (t.scan.huntList[t.scan.cursor]?.map fun channel => { channel := channel, stage := .settle })
               ∧ t.frontEnd =
                   s.frontEnd ++ (t.scan.huntList[t.scan.cursor]?.map FrontEndRecord.tune).toList)
         ∧ t.roam = s.roam ∧ t.table = s.table ∧ t.access = s.access ∧ t.host = s.host ∧ t.pins = s.pins)
     ∧ (s.roam.engine = .registering → s.roam.enteredFrom = .hunt →
       s.par .huntLimit ≤ min (s.roam.huntTimer + 1) 255 →
         exec .huntLimit s =
           .next (s.setRoam { s.roam with huntTimer := min (s.roam.huntTimer + 1) 255, expired := true }))
     ∧ (s.roam.engine = .hunt → s.par .huntLimit ≤ min (s.roam.huntTimer + 1) 255 →
       ∃ t : State, exec .huntLimit s = .next t
         ∧ t.roam =
             { s.roam with engine := .direct, huntTimer := min (s.roam.huntTimer + 1) 255, expired := true }
         ∧ t.pins = { s.pins with txinh := false }
         ∧ t.host = s.host.offer (.engineState .hunt .direct .huntLimit false)
         ∧ t.scan =
             { s.scan with
               visit := none, hunt := none, listen := none, pace := false, huntList := s.huntSources, cursor := 0 }
         ∧ t.beacon.owner = none
         ∧ t.frontEnd = s.frontEnd ++ [FrontEndRecord.tune (s.par .directChannel)]
         ∧ t.table = s.table ∧ t.access = s.access ∧ t.groups = s.groups ∧ t.call = s.call ∧ t.intake = s.intake))
    ∧ (∀ (s : State) (ran multiframe : Bool),
        (ran = false ∨ multiframe = false ∨ (s.roam.engine ≠ .hunt ∧ ¬(s.roam.engine = .registering ∧ s.roam.enteredFrom = .hunt)) →
          s.huntWork ran multiframe = s)
          ∧ (ran = true → multiframe = true →
              s.roam.engine = .hunt ∨ (s.roam.engine = .registering ∧ s.roam.enteredFrom = .hunt) →
                (min (s.roam.huntTimer + 1) 255 < s.par .huntLimit →
                  s.huntWork ran multiframe = s.setRoam { s.roam with huntTimer := min (s.roam.huntTimer + 1) 255 })
                ∧ (s.pins.supply = .running → s.par .huntLimit ≤ min (s.roam.huntTimer + 1) 255 →
                    exec .huntLimit s = .next (s.huntWork ran multiframe))))
    ∧ (∀ s : State,
        let next : Nat := if s.scan.cursor + 1 < s.scan.huntList.length then s.scan.cursor + 1 else 0
        let list : List Nat := if s.scan.cursor + 1 < s.scan.huntList.length then s.scan.huntList else s.huntSources
        s.huntOn =
          { s with
            scan :=
              { s.scan with
                listen := none, huntList := list, cursor := next
                hunt :=
                  if s.roam.engine = .hunt then
                    list[next]?.map fun channel => { channel := channel, stage := .settle }
                  else none }
            frontEnd :=
              s.frontEnd ++
                (if s.roam.engine = .hunt then (list[next]?.map FrontEndRecord.tune).toList
                else if s.roam.engine = .direct then [FrontEndRecord.tune (s.par .directChannel)]
                else []) })
    ∧ (∀ (s : State) (r : Frame),
        (∀ h colour, s.scan.hunt = some h → h.stage = .ended → r.settling = false → r.channel = h.channel →
          r.check = .pass → r.sync = some colour →
            let owner : Pair := { channel := h.channel, colour := colour }
            s.listenIfFound r =
              { s with
                scan :=
                  { s.scan with
                    hunt := none
                    listen :=
                      some
                        { channel := h.channel, colour := colour, limit := s.par .readLimit, count := 0
                          level := r.level } }
                beacon :=
                  if s.beacon.owner = some owner then s.beacon
                  else { s.beacon with owner := some owner, watchStore := Store.cleared, lastWatch := none } })
          ∧ ((∀ h, s.scan.hunt = some h →
                h.stage ≠ .ended ∨ r.settling = true ∨ r.channel ≠ h.channel ∨ r.check ≠ .pass ∨ r.sync = none) →
              s.listenIfFound r = s))
    ∧ ∀ (s : State) (engine : Engine) (listening multiframe : Bool), engine = .hunt ∨ engine = .direct →
        (s.roam.engine ≠ engine → s.scanRecord engine listening multiframe = s)
          ∧ (s.roam.engine = engine →
              (multiframe = false
                  ∨ (engine = .hunt ∧ (s.scan.huntList ≠ [] ∨ s.scan.hunt ≠ none ∨ s.scan.listen ≠ none)) →
                (∀ h, s.scan.hunt = some h → h.stage = .ended →
                  s.scanRecord engine listening multiframe = s.huntOn)
                ∧ ((∀ h, s.scan.hunt = some h → h.stage ≠ .ended) →
                    (listening = false ∨ s.scan.listen = none → s.scanRecord engine listening multiframe = s)
                    ∧ (listening = true → ∀ l, s.scan.listen = some l →
                        (l.count + 1 < l.limit →
                          s.scanRecord engine listening multiframe =
                            s.setScan { s.scan with listen := some { l with count := l.count + 1 } })
                        ∧ (s.pins.supply = .running → l.limit ≤ l.count + 1 →
                            exec .huntListenReadLimit s = .next (s.scanRecord engine listening multiframe)))))
              ∧ (engine = .hunt → multiframe = true → s.scan.huntList = [] → s.scan.hunt = none → s.scan.listen = none →
                  s.scanRecord engine listening multiframe =
                    { s with
                      scan :=
                        { s.scan with
                          huntList := s.huntSources, cursor := 0
                          hunt := s.huntSources.head?.map fun channel => { channel := channel, stage := .settle } }
                      frontEnd := s.frontEnd ++ (s.huntSources.head?.map FrontEndRecord.tune).toList })
              ∧ (engine = .direct → multiframe = true →
                  let list : List Nat := if s.scan.huntList = [] then s.huntSources else s.scan.huntList
                  let cursor : Nat := if s.scan.huntList = [] then 0 else s.scan.cursor
                  let due : Bool :=
                    decide (s.scan.pace = true ∧ s.call.call = .idle ∧ s.scan.hunt = none ∧ s.scan.listen = none
                      ∧ listening = false)
                  s.scanRecord engine listening multiframe =
                    ({ s with
                        scan :=
                          { s.scan with
                            huntList := list, cursor := cursor, pace := !s.scan.pace
                            hunt :=
                              if due then list[cursor]?.map fun channel => { channel := channel, stage := .settle }
                              else s.scan.hunt }
                        frontEnd :=
                          s.frontEnd ++
                            (if due then (list[cursor]?.map FrontEndRecord.tune).toList else []) } : State).scanRecord
                      engine listening false))

/-- R103, R104, R113, R119, R121, R122: a registration whose next count meets its limit fails with the bar time: UNREADABLE in
READING, NO ACCESS in AWAITING GRANT with no attempts left, TOO LONG in any phase. The unit is idle, the engine CAMPED on the
previous site, with TUNE to its channel and the loss and report counters 0, or DIRECT or HUNT by the expiry flag, with the modem
tuned for it; ENGINE STATE and ROAM FAILED are sent in this order. That the rows act apart from a taken record is the model's
choice (log 3). R20, R103, R104, R122: a failure of any other cause and bar does the same under its own cause: the bar is the
requested time, or the bar time for 0, or none, with 0 in ROAM FAILED, and the unit's context is cleared, the generator and the
counters kept. A failure MISMATCH demotes the target too: LISTED, with F, n and dwell count 0, and the identity conflict counter
rises. -/
def Obligations.RegistrationLimitsFail : Prop :=
  (∀ (s : State) (i : Nat), s.pins.supply = .running → s.findCode s.access.target = some i →
    (s.entry i).status ≠ .serving → ∀ row ∈
      [(Instr.readingUnreadable, FailureCause.unreadable), (Instr.grantWaitTimeout, FailureCause.noAccess),
        (Instr.tooLong, FailureCause.tooLong)],
      (row.1 = .readingUnreadable → s.access.state = .reading ∧ s.access.readLimit ≤ s.access.wait + 1) →
      (row.1 = .grantWaitTimeout →
        s.access.state = .awaitingGrant ∧ s.access.grantWait ≤ s.access.wait + 1
          ∧ s.access.attemptLimit ≤ s.access.attempts) →
      (row.1 = .tooLong →
        s.access.state.registering = true ∧ s.access.registrationLimit ≤ s.access.multiframes + 1) →
        ∃ (t : State) (engine : Engine), exec row.1 s = .next t
          ∧ engine = (if s.roam.previous ≠ none then .camped else if s.roam.expired then .direct else .hunt)
          ∧ t.roam = { s.roam with engine := engine, previous := none, reason := none }
          ∧ t.pins = { s.pins with txinh := decide (engine = .hunt) }
          ∧ t.host =
              (s.host.offer (.engineState s.roam.engine engine .outcome (decide (engine = .hunt)))).offer
                (.roamFailed (some i) s.access.target row.2 s.roam.reason (s.par .barTime))
          ∧ t.table =
              { s.table with
                entries := s.table.entries.set i { s.entry i with barred := s.par .barTime, dwell := 0 } }
          ∧ (engine = .camped →
              t.frontEnd = s.frontEnd ++ (s.serving.map fun j => FrontEndRecord.tune (s.entry j).channel).toList
                ∧ t.intake = { s.intake with loss := 0 } ∧ t.ranking.reportCount = 0)
          ∧ (engine ≠ .camped →
              t.scan.huntList = (s.setTable t.table).huntSources ∧ t.scan.cursor = 0 ∧ t.intake = s.intake
                ∧ t.frontEnd =
                    s.frontEnd ++
                      (if engine = .direct then [FrontEndRecord.tune (s.par .directChannel)]
                      else (t.scan.huntList.head?.map FrontEndRecord.tune).toList))
          ∧ t.access.state = .idle ∧ t.groups = s.groups ∧ t.call = s.call)
    ∧ (∀ (s : State) (i : Nat) (cause : FailureCause) (bar : Option Nat), cause ≠ .mismatch →
        s.findCode s.access.target = some i → (s.entry i).status ≠ .serving →
          let t := s.failRoam cause bar
          let engine : Engine :=
            if s.roam.previous ≠ none then .camped else if s.roam.expired then .direct else .hunt
          let applied (hold : Nat) : Nat := if hold = 0 then s.par .barTime else hold
          (bar = none →
              t.table = s.table
                ∧ t.host =
                    (s.host.offer (.engineState s.roam.engine engine .outcome (decide (engine = .hunt)))).offer
                      (.roamFailed (some i) s.access.target cause s.roam.reason 0))
            ∧ (∀ hold, bar = some hold →
                t.table =
                    { s.table with
                      entries := s.table.entries.set i { s.entry i with barred := applied hold, dwell := 0 } }
                  ∧ t.host =
                      (s.host.offer (.engineState s.roam.engine engine .outcome (decide (engine = .hunt)))).offer
                        (.roamFailed (some i) s.access.target cause s.roam.reason (applied hold)))
            ∧ t.roam = { s.roam with engine := engine, previous := none, reason := none }
            ∧ t.pins = { s.pins with txinh := decide (engine = .hunt) }
            ∧ t.access =
                { AccessUnit.reset with
                  generator := s.access.generator, collisions := s.access.collisions
                  missedSlots := s.access.missedSlots }
            ∧ t.groups = s.groups ∧ t.call = s.call)
    ∧ ∀ (s : State) (i : Nat), s.findCode s.access.target = some i → (s.entry i).status ≠ .serving →
        let t := s.failRoam .mismatch (some 0)
        let engine : Engine :=
          if s.roam.previous ≠ none then .camped else if s.roam.expired then .direct else .hunt
        t.table =
            { s.table with
              conflicts := min (s.table.conflicts + 1) 65535
              entries := s.table.entries.set i
                { s.entry i with
                  status := .listed, level := 0, samples := 0, dwell := 0, barred := s.par .barTime } }
          ∧ t.roam = { s.roam with engine := engine, previous := none, reason := none }
          ∧ t.pins = { s.pins with txinh := decide (engine = .hunt) }
          ∧ t.host =
              (s.host.offer (.engineState s.roam.engine engine .outcome (decide (engine = .hunt)))).offer
                (.roamFailed (some i) s.access.target .mismatch s.roam.reason (s.par .barTime))
          ∧ t.access.state = .idle ∧ t.groups = s.groups ∧ t.call = s.call

/-- R116, R119: a grant wait that runs out with attempts left makes a new draw in CONTENDING; a draw of 1 at a known site position
before a slot sends the REGISTER burst at once; nothing else changes. That the row acts apart from a taken record is the model's
choice (log 3). -/
def Obligations.GrantTimeoutDrawsAgain : Prop :=
  ∀ (s : State) (g : BitVec 16) (w : AccessParams), s.pins.supply = .running → s.access.state = .awaitingGrant →
    s.access.grantWait ≤ s.access.wait + 1 → s.access.attempts < s.access.attemptLimit →
    s.access.generator = some g → s.access.params = some w →
      let drawn : AccessUnit :=
        { s.access with
          state := .contending
          wait := s.access.wait + 1
          generator := some (generatorStep g)
          backoff := (generatorStep g).toNat % w.window + 1 }
      (s.access.sitePosition = none → exec .grantWaitTimeout s = .next (s.setAccess drawn))
        ∧ ∀ p, s.access.sitePosition = some p → s.access.outstanding = none →
          let next := (p + 1) % 16
          exec .grantWaitTimeout s =
            .next
              (if drawn.backoff = 1 ∧ next % 2 = 1 ∧ next < 2 * w.slots then
                { s with
                  access :=
                    { drawn with
                      attempts := s.access.attempts + 1, outstanding := some { position := next, carried := [] } }
                  frontEnd :=
                    s.frontEnd ++
                      [FrontEndRecord.burst next .register
                        (be24 (s.groups.identity.getD 0#24).toNat ++ be16 s.access.previous
                          ++ [BitVec.ofNat 8 s.groups.groups.length, if s.call.emergency = true then 1#8 else 0#8])] }
              else s.setAccess drawn)

/-- R124, R125, R137: a wait for AFFIL ACK that runs out returns every SENT entry to UNSENT. In an exchange with no attempts left
the unit goes to IDLE; with attempts left it draws and contends again, and after continuation a new exchange begins with its own
draw; when every entry is CONFIRMED both end in IDLE. A draw of 1 before a slot sends the AFFILIATE burst at once, with the first
up to four entries not CONFIRMED, SENT again. R124: a record in CONTINUING: an AFFIL ACK ends the wait, which else counts one
frame; at site position 0 with a reserved occurrence left a CONTINUE burst carries the first up to four UNSENT entries, or with
none UNSENT the wait begins, or the work ends where no burst has been sent. R114, R116, R118, R125: a record in AFFILIATING: the
wait in the same way; with no burst outstanding the exchange ends when no entry is UNSENT, else the countdown runs and sends the
burst when due; with one outstanding its echo is judged: the wait begins at WON, a new draw is made at LOST, or the exchange fails
with no attempts left. An exchange begins at a multiframe start taken in CAMPED with the unit IDLE and an entry UNSENT. A record in
CAMPED advances the site position and is handled as the access state has it. The model's choices and readings: that the row acts
apart from a record (log 3); that the reserved occurrences fall by one at the record of site position 0 that sends the burst, and
that with none left the wait begins at the next record (log 18, DEDUCED from the example of Section 7.9); that the exchange after
continuation keeps the site position (log 19); that of a lost burst's entries those still SENT return to UNSENT (log 20); that a
CONTINUE burst outstanding is dropped on leaving CONTINUING (log 42); that the AFFIL ACK of the record that begins the wait does
not end it (log 43); that an exchange that ends makes its draw first (log 46). -/
def Obligations.AffilAckWaitRunsOut : Prop :=
  (∀ s : State, s.pins.supply = .running → s.access.awaitingAck = true → s.access.grantWait ≤ s.access.wait + 1 →
    let delivered (t : State) : Prop :=
      t.groups =
          { s.groups with
            groups :=
              s.groups.groups.mapIdx fun i e =>
                if e.delivery = .confirmed then e
                else
                  { e with
                    delivery :=
                      match t.access.outstanding with
                      | some b => if i ∈ b.carried then .sent else .unsent
                      | none => .unsent } }
        ∧ ∀ b, t.access.outstanding = some b →
            b.carried =
              ((List.range s.groups.groups.length).filter fun i =>
                (s.groups.groups[i]?.map fun e => e.delivery) ≠ some .confirmed).take 4
    let contends (t : State) (window slots attempts limit : Nat) (before : List FrontEndRecord) : Prop :=
      t.access.state = .affiliating ∧ t.access.awaitingAck = false
        ∧ t.access.attempts = attempts + (if t.access.outstanding = none then 0 else 1)
        ∧ (∀ g, s.access.generator = some g →
            t.access.generator = some (generatorStep g)
              ∧ t.access.backoff = (generatorStep g).toNat % window + 1)
        ∧ t.access.outstanding.map Burst.position =
            (match s.access.sitePosition with
            | some p =>
              let next := (p + 1) % 16
              if t.access.backoff = 1 ∧ next % 2 = 1 ∧ next < 2 * slots ∧ attempts < limit then some next else none
            | none => none)
        ∧ t.frontEnd =
            before ++
              (t.access.outstanding.map fun b =>
                FrontEndRecord.burst b.position .affiliate
                  (BitVec.ofNat 8 b.carried.length ::
                    b.carried.flatMap fun i =>
                      match s.groups.groups[i]? with
                      | some e => be24 e.id.toNat
                      | none => [])).toList
    (s.access.state = .affiliating → s.access.attemptLimit ≤ s.access.attempts →
      ∃ t : State, exec .affilAckWaitTimeout s = .next t
        ∧ t.access.state = .idle ∧ t.access.outstanding = none ∧ t.access.generator = s.access.generator
        ∧ t.groups =
            { s.groups with
              groups := s.groups.groups.map fun g =>
                if g.delivery = .sent then { g with delivery := .unsent } else g }
        ∧ t.table = s.table ∧ t.roam = s.roam ∧ t.host = s.host ∧ t.scan = s.scan ∧ t.frontEnd = s.frontEnd)
    ∧ (s.access.state = .affiliating → s.access.attempts < s.access.attemptLimit → s.access.outstanding = none →
      ∃ t : State, exec .affilAckWaitTimeout s = .next t
        ∧ delivered t
        ∧ (if ∀ e ∈ s.groups.groups, e.delivery = .confirmed then
            t.access.state = .idle ∧ t.access.outstanding = none
              ∧ t.frontEnd = s.frontEnd
              ∧ ∀ g, s.access.generator = some g → t.access.generator = some (generatorStep g)
          else contends t s.window s.slots s.access.attempts s.access.attemptLimit s.frontEnd)
        ∧ t.table = s.table ∧ t.roam = s.roam ∧ t.host = s.host ∧ t.scan = s.scan)
    ∧ (s.access.state = .continuing →
      ∃ t : State, exec .affilAckWaitTimeout s = .next t
        ∧ delivered t
        ∧ (if ∀ e ∈ s.groups.groups, e.delivery = .confirmed then
            t.access.state = .idle ∧ t.access.outstanding = none ∧ t.access.generator = s.access.generator
              ∧ t.scan = s.scan ∧ t.frontEnd = s.frontEnd
          else
            contends t s.servingParams.window s.servingParams.slots 0 (s.par .attemptLimit)
              (s.frontEnd ++
                (if t.scan.visit = s.scan.visit then []
                else (s.serving.map fun i => FrontEndRecord.tune (s.entry i).channel).toList)))
        ∧ t.table = s.table ∧ t.roam = s.roam ∧ t.host = s.host))
    ∧ (∀ (s : State) (input : AccessInput),
        let unsent : Prop := ∃ e ∈ s.groups.groups, e.delivery = .unsent
        let counted := s.setAccess { s.access with wait := s.access.wait + 1 }
        let waits (t : State) : Prop := t = s.setAccess { s.access with awaitingAck := true, wait := 0 }
        let ended (t : State) : Prop :=
          (¬unsent → t.access.state = .idle ∧ t.access.outstanding = none ∧ t.groups = s.groups ∧ t.frontEnd = s.frontEnd)
            ∧ (unsent →
                t.access.state = .affiliating ∧ t.access.awaitingAck = false
                  ∧ t.access.attempts = (if t.access.outstanding = none then 0 else 1)
                  ∧ (∀ g, s.access.generator = some g → t.access.generator = some (generatorStep g)))
            ∧ t.table = s.table ∧ t.roam = s.roam ∧ t.host = s.host
        (s.access.state = .continuing →
          let t := s.continueRecord input
          (s.access.awaitingAck = true →
            (input.ack = true → ended t) ∧ (input.ack = false → s.access.wait + 1 < s.access.grantWait → t = counted))
          ∧ (s.access.awaitingAck = false →
              (s.access.reserved = 0 → waits t)
                ∧ (s.access.reserved ≠ 0 → s.access.sitePosition ≠ some 0 → t = s)
                ∧ (s.access.reserved ≠ 0 → s.access.sitePosition = some 0 →
                    (unsent →
                      t =
                        { s with
                          access :=
                            { s.access with
                              reserved := s.access.reserved - 1, burstSent := true
                              outstanding := some { position := 1, carried := s.firstUnsent } }
                          groups := s.groupsSent s.firstUnsent
                          frontEnd := s.frontEnd ++ [s.groupBurst 1 .continuation s.firstUnsent] })
                      ∧ (¬unsent → s.access.burstSent = true → waits t)
                      ∧ (¬unsent → s.access.burstSent = false → ended t))))
        ∧ (s.access.state = .affiliating →
          let t := s.affiliateRecord input
          (s.access.awaitingAck = true →
            (input.ack = true → ended t) ∧ (input.ack = false → s.access.wait + 1 < s.access.grantWait → t = counted))
          ∧ (s.access.awaitingAck = false → s.access.outstanding = none →
              (¬unsent → t.access.state = .idle ∧ t.groups = s.groups ∧ t.frontEnd = s.frontEnd)
                ∧ (unsent →
                    let count :=
                      match s.access.sitePosition with
                      | some p => if p % 2 = 1 ∧ p < 2 * s.slots then s.access.backoff - 1 else s.access.backoff
                      | none => s.access.backoff
                    t =
                      match s.burstDue count s.slots s.access.attempts s.access.attemptLimit with
                      | some q =>
                        { s with
                          access :=
                            { s.access with
                              backoff := count, attempts := s.access.attempts + 1
                              outstanding := some { position := q, carried := s.firstUnsent } }
                          groups := s.groupsSent s.firstUnsent
                          frontEnd := s.frontEnd ++ [s.groupBurst q .affiliate s.firstUnsent] }
                      | none => s.setAccess { s.access with backoff := count }))
          ∧ (s.access.awaitingAck = false → ∀ b, s.access.outstanding = some b →
              (s.access.sitePosition = none → t = s)
                ∧ ∀ p, s.access.sitePosition = some p →
                  let echo : Prop := p = (b.position + 1) % 16 ∧ input.sync = true
                  let lost (collisions : Nat) : Prop :=
                    t.access.collisions = collisions
                      ∧ (s.access.attemptLimit ≤ s.access.attempts →
                          t.access.state = .idle ∧ t.groups = s.groupsAllReturned ∧ t.frontEnd = s.frontEnd
                            ∧ t.access.generator = s.access.generator)
                      ∧ (s.access.attempts < s.access.attemptLimit →
                          (∀ g, s.access.generator = some g → t.access.generator = some (generatorStep g))
                            ∧ (if ∀ e ∈ (s.groupsReturned b.carried).groups, e.delivery ≠ .unsent then
                                t.access.state = .idle ∧ t.groups = s.groupsReturned b.carried
                                  ∧ t.frontEnd = s.frontEnd
                              else
                                t.access.state = .affiliating
                                  ∧ t.access.attempts = s.access.attempts + (if t.access.outstanding = none then 0 else 1)
                                  ∧ (t.access.outstanding = none →
                                      t.groups = s.groupsReturned b.carried ∧ t.frontEnd = s.frontEnd)))
                  (p = b.position ∨ (p + 1) % 16 = b.position → t = s)
                    ∧ (p ≠ b.position → (p + 1) % 16 ≠ b.position →
                        (¬echo ∨ input.echo = none → lost s.access.collisions)
                          ∧ (echo → ∀ radio slot, input.echo = some (radio, slot) →
                              (s.groups.identity = some radio → slot = (b.position - 1) / 2 →
                                t =
                                  s.setAccess
                                    { s.access with outstanding := none, awaitingAck := true, wait := 0 })
                              ∧ (s.groups.identity = some radio → slot ≠ (b.position - 1) / 2 →
                                  lost s.access.collisions)
                              ∧ (s.groups.identity ≠ some radio →
                                  lost (min (s.access.collisions + 1) 65535)))))))
    ∧ (∀ (s : State) (engine : Engine) (multiframe : Bool),
        (multiframe = true → engine = .camped → (∃ e ∈ s.groups.groups, e.delivery = .unsent) →
          let t := s.multiframeExchange engine multiframe
          t.access.state = .affiliating ∧ t.access.params = some s.servingParams
            ∧ t.access.attemptLimit = s.par .attemptLimit ∧ t.access.grantWait = s.par .grantWait
            ∧ t.access.sitePosition = (if s.intake.timing = .tracking then some s.intake.counter else none)
            ∧ t.access.attempts = (if t.access.outstanding = none then 0 else 1)
            ∧ t.table = s.table ∧ t.roam = s.roam ∧ t.host = s.host)
          ∧ (¬(multiframe = true ∧ engine = .camped ∧ ∃ e ∈ s.groups.groups, e.delivery = .unsent) →
              s.multiframeExchange engine multiframe = s))
    ∧ ∀ (s : State) (r : Frame) (engine : Engine) (input : AccessInput),
        let moved : State :=
          s.setAccess
            { s.access with
              sitePosition :=
                if input.sync = true then some r.position else s.access.sitePosition.map fun p => (p + 1) % 16 }
        (s.roam.engine ≠ .camped → s.roam.engine ≠ .registering → s.accessRecord r engine input = s)
          ∧ (s.roam.engine = .camped →
              (s.access.state = .continuing → s.accessRecord r engine input = moved.continueRecord input)
                ∧ (s.access.state = .affiliating → s.accessRecord r engine input = moved.affiliateRecord input)
                ∧ (s.access.state = .idle →
                    s.accessRecord r engine input = s.multiframeExchange engine input.multiframe))
end

