-- ==== Sys2Proof/Laws/Memory.lean ====
section
/-! SUPPORT. The recall page: reading after writing, and every operation keeps the canonical form. -/

namespace Sys2Proof.Machine

/-! ## One byte -/

/-- A canonical page above `low` reads blank below it. -/
theorem Memory.read_of_lt {m : List Host.Cell} {low x : Nat} (h : Memory.wfAbove low m = true) (hx : x < low) :
    Memory.read m x = blankByte := by
  induction m generalizing low with
  | nil => rfl
  | cons c m ih =>
    obtain ⟨a, b⟩ := c
    simp only [Memory.wfAbove, Bool.and_eq_true, decide_eq_true_eq] at h
    obtain ⟨⟨⟨h1, -⟩, -⟩, h4⟩ := h
    rw [Memory.read, if_neg (by omega), ih h4 (by omega)]

/-- The bound may be lowered. -/
theorem Memory.wfAbove_mono {m : List Host.Cell} {low low' : Nat} (h : Memory.wfAbove low m = true) (hl : low' ≤ low) :
    Memory.wfAbove low' m = true := by
  cases m with
  | nil => rfl
  | cons c m =>
    simp only [Memory.wfAbove, Bool.and_eq_true, decide_eq_true_eq] at h ⊢
    exact ⟨⟨⟨by omega, h.1.1.2⟩, h.1.2⟩, h.2⟩

/-- A write of one byte keeps the canonical form. -/
theorem Memory.wfAbove_write {m : List Host.Cell} {low x : Nat} (v : Byte) (h : Memory.wfAbove low m = true)
    (hl : low ≤ x) (hx : x < pageSize) : Memory.wfAbove low (Memory.write m x v) = true := by
  induction m generalizing low with
  | nil => by_cases hv : v = 255#8 <;> simp [Memory.write, Memory.wfAbove, hv, hl, hx]
  | cons c m ih =>
    obtain ⟨a, b⟩ := c
    have h' := h
    simp only [Memory.wfAbove, Bool.and_eq_true, decide_eq_true_eq, bne_iff_ne] at h'
    obtain ⟨⟨⟨h1, h2⟩, h3⟩, h4⟩ := h'
    simp only [Memory.write]
    split
    · split
      · exact h
      · rename_i hxa hv
        simp only [Memory.wfAbove, Bool.and_eq_true, decide_eq_true_eq, bne_iff_ne]
        exact ⟨⟨⟨hl, hx⟩, hv⟩, ⟨⟨by omega, h2⟩, h3⟩, h4⟩
    · split
      · split
        · exact Memory.wfAbove_mono h4 (by omega)
        · rename_i hv
          simp only [Memory.wfAbove, Bool.and_eq_true, decide_eq_true_eq, bne_iff_ne]
          exact ⟨⟨⟨hl, hx⟩, hv⟩, Memory.wfAbove_mono h4 (by omega)⟩
      · simp only [Memory.wfAbove, Bool.and_eq_true, decide_eq_true_eq, bne_iff_ne]
        exact ⟨⟨⟨h1, h2⟩, h3⟩, ih h4 (by omega)⟩

/-- A write is read back. -/
theorem Memory.read_write_same {m : List Host.Cell} {low : Nat} (x : Nat) (v : Byte) (h : Memory.wfAbove low m = true) :
    Memory.read (Memory.write m x v) x = v := by
  induction m generalizing low with
  | nil => by_cases hv : v = 255#8 <;> simp [Memory.write, Memory.read, hv]
  | cons c m ih =>
    obtain ⟨a, b⟩ := c
    have h' := h
    simp only [Memory.wfAbove, Bool.and_eq_true, decide_eq_true_eq] at h'
    rw [Memory.write]
    split
    · split
      · rename_i h1 h2
        rw [Memory.read, if_neg (by omega), h2]
        exact Memory.read_of_lt h'.2 (by omega)
      · simp [Memory.read]
    · split
      · split
        · rename_i h1 h2 h3
          rw [h3]; exact Memory.read_of_lt h'.2 (by omega)
        · simp [Memory.read]
      · rename_i h1 h2
        rw [Memory.read, if_neg h2, ih h'.2]

/-- A write leaves every other address as it was. -/
theorem Memory.read_write_other (m : List Host.Cell) {x y : Nat} (v : Byte) (h : y ≠ x) :
    Memory.read (Memory.write m x v) y = Memory.read m y := by
  induction m with
  | nil => by_cases hv : v = 255#8 <;> simp [Memory.write, Memory.read, hv, h]
  | cons c m ih =>
    obtain ⟨a, b⟩ := c
    rw [Memory.write]
    split
    · split <;> simp [Memory.read, h]
    · split
      · subst x
        split <;> simp [Memory.read, h]
      · simp [Memory.read, ih]

/-! ## Bytes and slots -/

/-- Writes at successive addresses keep the canonical form. -/
theorem Memory.wf_writeBytes {m : List Host.Cell} {x : Nat} (b : List Byte) (h : Memory.wf m = true)
    (hx : x + b.length ≤ pageSize) : Memory.wf (Memory.writeBytes m x b) = true := by
  induction b generalizing m x with
  | nil => exact h
  | cons v vs ih =>
    simp only [List.length_cons] at hx
    exact ih (Memory.wfAbove_write v h (by omega) (by omega)) (by omega)

/-- What the bytes from an address on read as after a write of several. -/
theorem Memory.read_writeBytes {m : List Host.Cell} {x : Nat} (b : List Byte) (y : Nat) (h : Memory.wf m = true)
    (hx : x + b.length ≤ pageSize) :
    Memory.read (Memory.writeBytes m x b) y
      = if x ≤ y ∧ y < x + b.length then b.getD (y - x) blankByte else Memory.read m y := by
  induction b generalizing m x with
  | nil =>
    rw [if_neg (by simp only [List.length_nil]; omega)]
    rfl
  | cons v vs ih =>
    simp only [List.length_cons] at hx ⊢
    rw [Memory.writeBytes, ih (Memory.wfAbove_write v h (by omega) (by omega)) (by omega)]
    by_cases hy : y = x
    · subst y
      rw [if_neg (by omega), if_pos (by omega), Memory.read_write_same x v h]
      simp
    · by_cases hin : x + 1 ≤ y ∧ y < x + 1 + vs.length
      · rw [if_pos hin, if_pos (by omega), show y - x = (y - (x + 1)) + 1 by omega]
        simp
      · rw [if_neg hin, if_neg (by omega), Memory.read_write_other m v hy]

/-- Writing a slot keeps the canonical form. -/
theorem wf_writeSlot {m : List Host.Cell} (slot : Nat) (b : List Byte) (h : Memory.wf m = true) :
    Memory.wf (writeSlot m slot b) = true := by
  unfold writeSlot
  split
  · exact Memory.wf_writeBytes _ h (by simp only [List.length_take, pageSize, slotSize, slotCount] at *; omega)
  · exact h

/-- A slot number above 31 names no slot. -/
theorem writeSlot_of_ge (m : List Host.Cell) {slot : Nat} (b : List Byte) (h : slotCount ≤ slot) : writeSlot m slot b = m := by
  rw [writeSlot, if_neg (by omega)]

/-- A slot just written holds the six bytes. -/
theorem readSlotBytes_writeSlot_same {m : List Host.Cell} {slot : Nat} {b : List Byte} (h : Memory.wf m = true)
    (hs : slot < slotCount) (hb : b.length = slotSize) : readSlotBytes (writeSlot m slot b) slot = b := by
  rw [writeSlot, if_pos hs, List.take_of_length_le (by omega)]
  refine List.ext_getElem (by simp [readSlotBytes, hb]) fun k hk hk' => ?_
  simp only [readSlotBytes, List.getElem_map, List.getElem_range]
  rw [Memory.read_writeBytes b _ h (by simp only [pageSize, slotSize, slotCount] at *; omega),
    if_pos (by omega), show slotSize * slot + k - slotSize * slot = k by omega,
    List.getD_eq_getElem?_getD, List.getElem?_eq_getElem hk', Option.getD_some]

/-- Writing a slot leaves every other slot as it was. -/
theorem readSlotBytes_writeSlot_other {m : List Host.Cell} {slot k : Nat} {b : List Byte} (h : Memory.wf m = true)
    (hk : k ≠ slot) : readSlotBytes (writeSlot m slot b) k = readSlotBytes m k := by
  unfold writeSlot
  split
  · refine List.map_congr_left fun j hj => ?_
    have hj := List.mem_range.1 hj
    rw [Memory.read_writeBytes _ _ h (by simp only [List.length_take, pageSize, slotSize, slotCount] at *; omega),
      if_neg]
    simp only [List.length_take, slotSize] at *
    omega
  · rfl

/-- A page with nothing listed is blank. -/
theorem readSlotBytes_nil (k : Nat) : readSlotBytes [] k = List.replicate slotSize blankByte := by rfl

/-! ## The Recall Area -/

/-- Starting a request does not touch the page. -/
@[simp] theorem RecallArea.startRequest_page (a : RecallArea) (x : Site) : (a.startRequest x).page = a.page := by
  unfold RecallArea.startRequest
  split
  · rfl
  · split <;> rfl

/-- An append request does not touch the page. -/
@[simp] theorem RecallArea.append_page (a : RecallArea) (x : Site) : (a.append x).page = a.page := by
  unfold RecallArea.append
  split <;> simp

/-- An append request does not touch the recall list or the fill count. -/
@[simp] theorem RecallArea.append_frame (a : RecallArea) (x : Site) :
    (a.append x).list = a.list ∧ (a.append x).fill = a.fill ∧ (a.append x).clearRequested = a.clearRequested := by
  unfold RecallArea.append RecallArea.startRequest
  split
  · split
    · simp
    · split <;> simp
  · simp

/-- The next work of the writer does not touch the page. -/
@[simp] theorem RecallArea.nextWork_page (a : RecallArea) : a.nextWork.page = a.page := by
  unfold RecallArea.nextWork
  split
  · rfl
  · split <;> simp

/-- RECALL CLEAR does not touch the page. -/
@[simp] theorem RecallArea.clear_page (a : RecallArea) : a.clear.page = a.page := by
  unfold RecallArea.clear
  split <;> rfl

/-- A power-on does not touch the page. -/
@[simp] theorem RecallArea.powerOn_page (a : RecallArea) : a.powerOn.page = a.page := by
  unfold RecallArea.powerOn
  split <;> rfl

/-- A soft reset does not touch the page. -/
@[simp] theorem RecallArea.softReset_page (a : RecallArea) : a.softReset.page = a.page := by
  unfold RecallArea.softReset
  split <;> simp

/-- A torn content has six bytes. -/
theorem length_tornSlot (k : Nat) : (tornSlot k).length = slotSize := by
  unfold tornSlot
  dsimp only
  split
  · rename_i h
    exact h.1
  · rfl

/-- A slot's record has six bytes (12.3). -/
theorem length_slotBytes (x : Site) : (slotBytes x).length = slotSize := by rfl

/-- A completed write keeps the canonical form. -/
theorem RecallArea.wf_finishWrite {a : RecallArea} (k : Nat) (x : Site) (h : Memory.wf a.page = true) :
    Memory.wf (a.finishWrite k x).page = true := by
  simp only [RecallArea.finishWrite, RecallArea.nextWork_page]
  exact wf_writeSlot _ _ h

/-- A completed erase leaves nothing listed. -/
theorem RecallArea.finishErase_page (a : RecallArea) : a.finishErase.page = [] := by
  simp [RecallArea.finishErase]

/-- An interrupted erase keeps the canonical form. -/
theorem wf_interruptedErase {m : List Host.Cell} (k : Nat) (h : Memory.wf m = true) :
    Memory.wf (interruptedErase k m) = true := by
  unfold interruptedErase
  generalize List.range slotCount = l
  induction l generalizing m with
  | nil => exact h
  | cons i rest ih =>
    simp only [List.foldl_cons]
    split
    · exact ih (wf_writeSlot _ _ h)
    · exact ih h

/-- An operation that ends unfinished keeps the canonical form. -/
theorem RecallArea.wf_interrupt {a : RecallArea} (k : Nat) (h : Memory.wf a.page = true) :
    Memory.wf (a.interrupt k).page = true := by
  unfold RecallArea.interrupt
  split
  · exact h
  · exact wf_writeSlot _ _ h
  · exact wf_interruptedErase k h

/-- The page after reset is in its canonical form. -/
theorem State.reset_page_wf : Memory.wf State.reset.recallArea.page = true := rfl

end Sys2Proof.Machine
end

