-- ==== Sys2Proof/Laws/State.lean ====
section
/-! SUPPORT. One lemma for each field and each update of the state, so that no later proof unfolds a record update. -/

namespace Sys2Proof.Machine

@[simp] theorem State.setIntake_intake (s : State) (x : FrameIntake) : (s.setIntake x).intake = x := rfl
@[simp] theorem State.setIntake_table (s : State) (x : FrameIntake) : (s.setIntake x).table = s.table := rfl
@[simp] theorem State.setIntake_beacon (s : State) (x : FrameIntake) : (s.setIntake x).beacon = s.beacon := rfl
@[simp] theorem State.setIntake_ranking (s : State) (x : FrameIntake) : (s.setIntake x).ranking = s.ranking := rfl
@[simp] theorem State.setIntake_scan (s : State) (x : FrameIntake) : (s.setIntake x).scan = s.scan := rfl
@[simp] theorem State.setIntake_roam (s : State) (x : FrameIntake) : (s.setIntake x).roam = s.roam := rfl
@[simp] theorem State.setIntake_access (s : State) (x : FrameIntake) : (s.setIntake x).access = s.access := rfl
@[simp] theorem State.setIntake_groups (s : State) (x : FrameIntake) : (s.setIntake x).groups = s.groups := rfl
@[simp] theorem State.setIntake_call (s : State) (x : FrameIntake) : (s.setIntake x).call = s.call := rfl
@[simp] theorem State.setIntake_recallArea (s : State) (x : FrameIntake) : (s.setIntake x).recallArea = s.recallArea := rfl
@[simp] theorem State.setIntake_host (s : State) (x : FrameIntake) : (s.setIntake x).host = s.host := rfl
@[simp] theorem State.setIntake_pins (s : State) (x : FrameIntake) : (s.setIntake x).pins = s.pins := rfl
@[simp] theorem State.setIntake_frontEnd (s : State) (x : FrameIntake) : (s.setIntake x).frontEnd = s.frontEnd := rfl
@[simp] theorem State.setIntake_free (s : State) (x : FrameIntake) : (s.setIntake x).free = s.free := rfl
@[simp] theorem State.setIntake_pending (s : State) (x : FrameIntake) : (s.setIntake x).pending = s.pending := rfl

@[simp] theorem State.setTable_intake (s : State) (x : SiteTable) : (s.setTable x).intake = s.intake := rfl
@[simp] theorem State.setTable_table (s : State) (x : SiteTable) : (s.setTable x).table = x := rfl
@[simp] theorem State.setTable_beacon (s : State) (x : SiteTable) : (s.setTable x).beacon = s.beacon := rfl
@[simp] theorem State.setTable_ranking (s : State) (x : SiteTable) : (s.setTable x).ranking = s.ranking := rfl
@[simp] theorem State.setTable_scan (s : State) (x : SiteTable) : (s.setTable x).scan = s.scan := rfl
@[simp] theorem State.setTable_roam (s : State) (x : SiteTable) : (s.setTable x).roam = s.roam := rfl
@[simp] theorem State.setTable_access (s : State) (x : SiteTable) : (s.setTable x).access = s.access := rfl
@[simp] theorem State.setTable_groups (s : State) (x : SiteTable) : (s.setTable x).groups = s.groups := rfl
@[simp] theorem State.setTable_call (s : State) (x : SiteTable) : (s.setTable x).call = s.call := rfl
@[simp] theorem State.setTable_recallArea (s : State) (x : SiteTable) : (s.setTable x).recallArea = s.recallArea := rfl
@[simp] theorem State.setTable_host (s : State) (x : SiteTable) : (s.setTable x).host = s.host := rfl
@[simp] theorem State.setTable_pins (s : State) (x : SiteTable) : (s.setTable x).pins = s.pins := rfl
@[simp] theorem State.setTable_frontEnd (s : State) (x : SiteTable) : (s.setTable x).frontEnd = s.frontEnd := rfl
@[simp] theorem State.setTable_free (s : State) (x : SiteTable) : (s.setTable x).free = s.free := rfl
@[simp] theorem State.setTable_pending (s : State) (x : SiteTable) : (s.setTable x).pending = s.pending := rfl

@[simp] theorem State.setBeacon_intake (s : State) (x : BeaconAssembler) : (s.setBeacon x).intake = s.intake := rfl
@[simp] theorem State.setBeacon_table (s : State) (x : BeaconAssembler) : (s.setBeacon x).table = s.table := rfl
@[simp] theorem State.setBeacon_beacon (s : State) (x : BeaconAssembler) : (s.setBeacon x).beacon = x := rfl
@[simp] theorem State.setBeacon_ranking (s : State) (x : BeaconAssembler) : (s.setBeacon x).ranking = s.ranking := rfl
@[simp] theorem State.setBeacon_scan (s : State) (x : BeaconAssembler) : (s.setBeacon x).scan = s.scan := rfl
@[simp] theorem State.setBeacon_roam (s : State) (x : BeaconAssembler) : (s.setBeacon x).roam = s.roam := rfl
@[simp] theorem State.setBeacon_access (s : State) (x : BeaconAssembler) : (s.setBeacon x).access = s.access := rfl
@[simp] theorem State.setBeacon_groups (s : State) (x : BeaconAssembler) : (s.setBeacon x).groups = s.groups := rfl
@[simp] theorem State.setBeacon_call (s : State) (x : BeaconAssembler) : (s.setBeacon x).call = s.call := rfl
@[simp] theorem State.setBeacon_recallArea (s : State) (x : BeaconAssembler) : (s.setBeacon x).recallArea = s.recallArea := rfl
@[simp] theorem State.setBeacon_host (s : State) (x : BeaconAssembler) : (s.setBeacon x).host = s.host := rfl
@[simp] theorem State.setBeacon_pins (s : State) (x : BeaconAssembler) : (s.setBeacon x).pins = s.pins := rfl
@[simp] theorem State.setBeacon_frontEnd (s : State) (x : BeaconAssembler) : (s.setBeacon x).frontEnd = s.frontEnd := rfl
@[simp] theorem State.setBeacon_free (s : State) (x : BeaconAssembler) : (s.setBeacon x).free = s.free := rfl
@[simp] theorem State.setBeacon_pending (s : State) (x : BeaconAssembler) : (s.setBeacon x).pending = s.pending := rfl

@[simp] theorem State.setRanking_intake (s : State) (x : RankingUnit) : (s.setRanking x).intake = s.intake := rfl
@[simp] theorem State.setRanking_table (s : State) (x : RankingUnit) : (s.setRanking x).table = s.table := rfl
@[simp] theorem State.setRanking_beacon (s : State) (x : RankingUnit) : (s.setRanking x).beacon = s.beacon := rfl
@[simp] theorem State.setRanking_ranking (s : State) (x : RankingUnit) : (s.setRanking x).ranking = x := rfl
@[simp] theorem State.setRanking_scan (s : State) (x : RankingUnit) : (s.setRanking x).scan = s.scan := rfl
@[simp] theorem State.setRanking_roam (s : State) (x : RankingUnit) : (s.setRanking x).roam = s.roam := rfl
@[simp] theorem State.setRanking_access (s : State) (x : RankingUnit) : (s.setRanking x).access = s.access := rfl
@[simp] theorem State.setRanking_groups (s : State) (x : RankingUnit) : (s.setRanking x).groups = s.groups := rfl
@[simp] theorem State.setRanking_call (s : State) (x : RankingUnit) : (s.setRanking x).call = s.call := rfl
@[simp] theorem State.setRanking_recallArea (s : State) (x : RankingUnit) : (s.setRanking x).recallArea = s.recallArea := rfl
@[simp] theorem State.setRanking_host (s : State) (x : RankingUnit) : (s.setRanking x).host = s.host := rfl
@[simp] theorem State.setRanking_pins (s : State) (x : RankingUnit) : (s.setRanking x).pins = s.pins := rfl
@[simp] theorem State.setRanking_frontEnd (s : State) (x : RankingUnit) : (s.setRanking x).frontEnd = s.frontEnd := rfl
@[simp] theorem State.setRanking_free (s : State) (x : RankingUnit) : (s.setRanking x).free = s.free := rfl
@[simp] theorem State.setRanking_pending (s : State) (x : RankingUnit) : (s.setRanking x).pending = s.pending := rfl

@[simp] theorem State.setScan_intake (s : State) (x : ScanSequencer) : (s.setScan x).intake = s.intake := rfl
@[simp] theorem State.setScan_table (s : State) (x : ScanSequencer) : (s.setScan x).table = s.table := rfl
@[simp] theorem State.setScan_beacon (s : State) (x : ScanSequencer) : (s.setScan x).beacon = s.beacon := rfl
@[simp] theorem State.setScan_ranking (s : State) (x : ScanSequencer) : (s.setScan x).ranking = s.ranking := rfl
@[simp] theorem State.setScan_scan (s : State) (x : ScanSequencer) : (s.setScan x).scan = x := rfl
@[simp] theorem State.setScan_roam (s : State) (x : ScanSequencer) : (s.setScan x).roam = s.roam := rfl
@[simp] theorem State.setScan_access (s : State) (x : ScanSequencer) : (s.setScan x).access = s.access := rfl
@[simp] theorem State.setScan_groups (s : State) (x : ScanSequencer) : (s.setScan x).groups = s.groups := rfl
@[simp] theorem State.setScan_call (s : State) (x : ScanSequencer) : (s.setScan x).call = s.call := rfl
@[simp] theorem State.setScan_recallArea (s : State) (x : ScanSequencer) : (s.setScan x).recallArea = s.recallArea := rfl
@[simp] theorem State.setScan_host (s : State) (x : ScanSequencer) : (s.setScan x).host = s.host := rfl
@[simp] theorem State.setScan_pins (s : State) (x : ScanSequencer) : (s.setScan x).pins = s.pins := rfl
@[simp] theorem State.setScan_frontEnd (s : State) (x : ScanSequencer) : (s.setScan x).frontEnd = s.frontEnd := rfl
@[simp] theorem State.setScan_free (s : State) (x : ScanSequencer) : (s.setScan x).free = s.free := rfl
@[simp] theorem State.setScan_pending (s : State) (x : ScanSequencer) : (s.setScan x).pending = s.pending := rfl

@[simp] theorem State.setRoam_intake (s : State) (x : RoamEngine) : (s.setRoam x).intake = s.intake := rfl
@[simp] theorem State.setRoam_table (s : State) (x : RoamEngine) : (s.setRoam x).table = s.table := rfl
@[simp] theorem State.setRoam_beacon (s : State) (x : RoamEngine) : (s.setRoam x).beacon = s.beacon := rfl
@[simp] theorem State.setRoam_ranking (s : State) (x : RoamEngine) : (s.setRoam x).ranking = s.ranking := rfl
@[simp] theorem State.setRoam_scan (s : State) (x : RoamEngine) : (s.setRoam x).scan = s.scan := rfl
@[simp] theorem State.setRoam_roam (s : State) (x : RoamEngine) : (s.setRoam x).roam = x := rfl
@[simp] theorem State.setRoam_access (s : State) (x : RoamEngine) : (s.setRoam x).access = s.access := rfl
@[simp] theorem State.setRoam_groups (s : State) (x : RoamEngine) : (s.setRoam x).groups = s.groups := rfl
@[simp] theorem State.setRoam_call (s : State) (x : RoamEngine) : (s.setRoam x).call = s.call := rfl
@[simp] theorem State.setRoam_recallArea (s : State) (x : RoamEngine) : (s.setRoam x).recallArea = s.recallArea := rfl
@[simp] theorem State.setRoam_host (s : State) (x : RoamEngine) : (s.setRoam x).host = s.host := rfl
@[simp] theorem State.setRoam_pins (s : State) (x : RoamEngine) : (s.setRoam x).pins = s.pins := rfl
@[simp] theorem State.setRoam_frontEnd (s : State) (x : RoamEngine) : (s.setRoam x).frontEnd = s.frontEnd := rfl
@[simp] theorem State.setRoam_free (s : State) (x : RoamEngine) : (s.setRoam x).free = s.free := rfl
@[simp] theorem State.setRoam_pending (s : State) (x : RoamEngine) : (s.setRoam x).pending = s.pending := rfl

@[simp] theorem State.setAccess_intake (s : State) (x : AccessUnit) : (s.setAccess x).intake = s.intake := rfl
@[simp] theorem State.setAccess_table (s : State) (x : AccessUnit) : (s.setAccess x).table = s.table := rfl
@[simp] theorem State.setAccess_beacon (s : State) (x : AccessUnit) : (s.setAccess x).beacon = s.beacon := rfl
@[simp] theorem State.setAccess_ranking (s : State) (x : AccessUnit) : (s.setAccess x).ranking = s.ranking := rfl
@[simp] theorem State.setAccess_scan (s : State) (x : AccessUnit) : (s.setAccess x).scan = s.scan := rfl
@[simp] theorem State.setAccess_roam (s : State) (x : AccessUnit) : (s.setAccess x).roam = s.roam := rfl
@[simp] theorem State.setAccess_access (s : State) (x : AccessUnit) : (s.setAccess x).access = x := rfl
@[simp] theorem State.setAccess_groups (s : State) (x : AccessUnit) : (s.setAccess x).groups = s.groups := rfl
@[simp] theorem State.setAccess_call (s : State) (x : AccessUnit) : (s.setAccess x).call = s.call := rfl
@[simp] theorem State.setAccess_recallArea (s : State) (x : AccessUnit) : (s.setAccess x).recallArea = s.recallArea := rfl
@[simp] theorem State.setAccess_host (s : State) (x : AccessUnit) : (s.setAccess x).host = s.host := rfl
@[simp] theorem State.setAccess_pins (s : State) (x : AccessUnit) : (s.setAccess x).pins = s.pins := rfl
@[simp] theorem State.setAccess_frontEnd (s : State) (x : AccessUnit) : (s.setAccess x).frontEnd = s.frontEnd := rfl
@[simp] theorem State.setAccess_free (s : State) (x : AccessUnit) : (s.setAccess x).free = s.free := rfl
@[simp] theorem State.setAccess_pending (s : State) (x : AccessUnit) : (s.setAccess x).pending = s.pending := rfl

@[simp] theorem State.setGroups_intake (s : State) (x : GroupList) : (s.setGroups x).intake = s.intake := rfl
@[simp] theorem State.setGroups_table (s : State) (x : GroupList) : (s.setGroups x).table = s.table := rfl
@[simp] theorem State.setGroups_beacon (s : State) (x : GroupList) : (s.setGroups x).beacon = s.beacon := rfl
@[simp] theorem State.setGroups_ranking (s : State) (x : GroupList) : (s.setGroups x).ranking = s.ranking := rfl
@[simp] theorem State.setGroups_scan (s : State) (x : GroupList) : (s.setGroups x).scan = s.scan := rfl
@[simp] theorem State.setGroups_roam (s : State) (x : GroupList) : (s.setGroups x).roam = s.roam := rfl
@[simp] theorem State.setGroups_access (s : State) (x : GroupList) : (s.setGroups x).access = s.access := rfl
@[simp] theorem State.setGroups_groups (s : State) (x : GroupList) : (s.setGroups x).groups = x := rfl
@[simp] theorem State.setGroups_call (s : State) (x : GroupList) : (s.setGroups x).call = s.call := rfl
@[simp] theorem State.setGroups_recallArea (s : State) (x : GroupList) : (s.setGroups x).recallArea = s.recallArea := rfl
@[simp] theorem State.setGroups_host (s : State) (x : GroupList) : (s.setGroups x).host = s.host := rfl
@[simp] theorem State.setGroups_pins (s : State) (x : GroupList) : (s.setGroups x).pins = s.pins := rfl
@[simp] theorem State.setGroups_frontEnd (s : State) (x : GroupList) : (s.setGroups x).frontEnd = s.frontEnd := rfl
@[simp] theorem State.setGroups_free (s : State) (x : GroupList) : (s.setGroups x).free = s.free := rfl
@[simp] theorem State.setGroups_pending (s : State) (x : GroupList) : (s.setGroups x).pending = s.pending := rfl

@[simp] theorem State.setCall_intake (s : State) (x : CallRecord) : (s.setCall x).intake = s.intake := rfl
@[simp] theorem State.setCall_table (s : State) (x : CallRecord) : (s.setCall x).table = s.table := rfl
@[simp] theorem State.setCall_beacon (s : State) (x : CallRecord) : (s.setCall x).beacon = s.beacon := rfl
@[simp] theorem State.setCall_ranking (s : State) (x : CallRecord) : (s.setCall x).ranking = s.ranking := rfl
@[simp] theorem State.setCall_scan (s : State) (x : CallRecord) : (s.setCall x).scan = s.scan := rfl
@[simp] theorem State.setCall_roam (s : State) (x : CallRecord) : (s.setCall x).roam = s.roam := rfl
@[simp] theorem State.setCall_access (s : State) (x : CallRecord) : (s.setCall x).access = s.access := rfl
@[simp] theorem State.setCall_groups (s : State) (x : CallRecord) : (s.setCall x).groups = s.groups := rfl
@[simp] theorem State.setCall_call (s : State) (x : CallRecord) : (s.setCall x).call = x := rfl
@[simp] theorem State.setCall_recallArea (s : State) (x : CallRecord) : (s.setCall x).recallArea = s.recallArea := rfl
@[simp] theorem State.setCall_host (s : State) (x : CallRecord) : (s.setCall x).host = s.host := rfl
@[simp] theorem State.setCall_pins (s : State) (x : CallRecord) : (s.setCall x).pins = s.pins := rfl
@[simp] theorem State.setCall_frontEnd (s : State) (x : CallRecord) : (s.setCall x).frontEnd = s.frontEnd := rfl
@[simp] theorem State.setCall_free (s : State) (x : CallRecord) : (s.setCall x).free = s.free := rfl
@[simp] theorem State.setCall_pending (s : State) (x : CallRecord) : (s.setCall x).pending = s.pending := rfl

@[simp] theorem State.setRecallArea_intake (s : State) (x : RecallArea) : (s.setRecallArea x).intake = s.intake := rfl
@[simp] theorem State.setRecallArea_table (s : State) (x : RecallArea) : (s.setRecallArea x).table = s.table := rfl
@[simp] theorem State.setRecallArea_beacon (s : State) (x : RecallArea) : (s.setRecallArea x).beacon = s.beacon := rfl
@[simp] theorem State.setRecallArea_ranking (s : State) (x : RecallArea) : (s.setRecallArea x).ranking = s.ranking := rfl
@[simp] theorem State.setRecallArea_scan (s : State) (x : RecallArea) : (s.setRecallArea x).scan = s.scan := rfl
@[simp] theorem State.setRecallArea_roam (s : State) (x : RecallArea) : (s.setRecallArea x).roam = s.roam := rfl
@[simp] theorem State.setRecallArea_access (s : State) (x : RecallArea) : (s.setRecallArea x).access = s.access := rfl
@[simp] theorem State.setRecallArea_groups (s : State) (x : RecallArea) : (s.setRecallArea x).groups = s.groups := rfl
@[simp] theorem State.setRecallArea_call (s : State) (x : RecallArea) : (s.setRecallArea x).call = s.call := rfl
@[simp] theorem State.setRecallArea_recallArea (s : State) (x : RecallArea) : (s.setRecallArea x).recallArea = x := rfl
@[simp] theorem State.setRecallArea_host (s : State) (x : RecallArea) : (s.setRecallArea x).host = s.host := rfl
@[simp] theorem State.setRecallArea_pins (s : State) (x : RecallArea) : (s.setRecallArea x).pins = s.pins := rfl
@[simp] theorem State.setRecallArea_frontEnd (s : State) (x : RecallArea) : (s.setRecallArea x).frontEnd = s.frontEnd := rfl
@[simp] theorem State.setRecallArea_free (s : State) (x : RecallArea) : (s.setRecallArea x).free = s.free := rfl
@[simp] theorem State.setRecallArea_pending (s : State) (x : RecallArea) : (s.setRecallArea x).pending = s.pending := rfl

@[simp] theorem State.setHost_intake (s : State) (x : HostLink) : (s.setHost x).intake = s.intake := rfl
@[simp] theorem State.setHost_table (s : State) (x : HostLink) : (s.setHost x).table = s.table := rfl
@[simp] theorem State.setHost_beacon (s : State) (x : HostLink) : (s.setHost x).beacon = s.beacon := rfl
@[simp] theorem State.setHost_ranking (s : State) (x : HostLink) : (s.setHost x).ranking = s.ranking := rfl
@[simp] theorem State.setHost_scan (s : State) (x : HostLink) : (s.setHost x).scan = s.scan := rfl
@[simp] theorem State.setHost_roam (s : State) (x : HostLink) : (s.setHost x).roam = s.roam := rfl
@[simp] theorem State.setHost_access (s : State) (x : HostLink) : (s.setHost x).access = s.access := rfl
@[simp] theorem State.setHost_groups (s : State) (x : HostLink) : (s.setHost x).groups = s.groups := rfl
@[simp] theorem State.setHost_call (s : State) (x : HostLink) : (s.setHost x).call = s.call := rfl
@[simp] theorem State.setHost_recallArea (s : State) (x : HostLink) : (s.setHost x).recallArea = s.recallArea := rfl
@[simp] theorem State.setHost_host (s : State) (x : HostLink) : (s.setHost x).host = x := rfl
@[simp] theorem State.setHost_pins (s : State) (x : HostLink) : (s.setHost x).pins = s.pins := rfl
@[simp] theorem State.setHost_frontEnd (s : State) (x : HostLink) : (s.setHost x).frontEnd = s.frontEnd := rfl
@[simp] theorem State.setHost_free (s : State) (x : HostLink) : (s.setHost x).free = s.free := rfl
@[simp] theorem State.setHost_pending (s : State) (x : HostLink) : (s.setHost x).pending = s.pending := rfl

@[simp] theorem State.setPins_intake (s : State) (x : Pins) : (s.setPins x).intake = s.intake := rfl
@[simp] theorem State.setPins_table (s : State) (x : Pins) : (s.setPins x).table = s.table := rfl
@[simp] theorem State.setPins_beacon (s : State) (x : Pins) : (s.setPins x).beacon = s.beacon := rfl
@[simp] theorem State.setPins_ranking (s : State) (x : Pins) : (s.setPins x).ranking = s.ranking := rfl
@[simp] theorem State.setPins_scan (s : State) (x : Pins) : (s.setPins x).scan = s.scan := rfl
@[simp] theorem State.setPins_roam (s : State) (x : Pins) : (s.setPins x).roam = s.roam := rfl
@[simp] theorem State.setPins_access (s : State) (x : Pins) : (s.setPins x).access = s.access := rfl
@[simp] theorem State.setPins_groups (s : State) (x : Pins) : (s.setPins x).groups = s.groups := rfl
@[simp] theorem State.setPins_call (s : State) (x : Pins) : (s.setPins x).call = s.call := rfl
@[simp] theorem State.setPins_recallArea (s : State) (x : Pins) : (s.setPins x).recallArea = s.recallArea := rfl
@[simp] theorem State.setPins_host (s : State) (x : Pins) : (s.setPins x).host = s.host := rfl
@[simp] theorem State.setPins_pins (s : State) (x : Pins) : (s.setPins x).pins = x := rfl
@[simp] theorem State.setPins_frontEnd (s : State) (x : Pins) : (s.setPins x).frontEnd = s.frontEnd := rfl
@[simp] theorem State.setPins_free (s : State) (x : Pins) : (s.setPins x).free = s.free := rfl
@[simp] theorem State.setPins_pending (s : State) (x : Pins) : (s.setPins x).pending = s.pending := rfl

@[simp] theorem State.setFrontEnd_intake (s : State) (x : List FrontEndRecord) : (s.setFrontEnd x).intake = s.intake := rfl
@[simp] theorem State.setFrontEnd_table (s : State) (x : List FrontEndRecord) : (s.setFrontEnd x).table = s.table := rfl
@[simp] theorem State.setFrontEnd_beacon (s : State) (x : List FrontEndRecord) : (s.setFrontEnd x).beacon = s.beacon := rfl
@[simp] theorem State.setFrontEnd_ranking (s : State) (x : List FrontEndRecord) : (s.setFrontEnd x).ranking = s.ranking := rfl
@[simp] theorem State.setFrontEnd_scan (s : State) (x : List FrontEndRecord) : (s.setFrontEnd x).scan = s.scan := rfl
@[simp] theorem State.setFrontEnd_roam (s : State) (x : List FrontEndRecord) : (s.setFrontEnd x).roam = s.roam := rfl
@[simp] theorem State.setFrontEnd_access (s : State) (x : List FrontEndRecord) : (s.setFrontEnd x).access = s.access := rfl
@[simp] theorem State.setFrontEnd_groups (s : State) (x : List FrontEndRecord) : (s.setFrontEnd x).groups = s.groups := rfl
@[simp] theorem State.setFrontEnd_call (s : State) (x : List FrontEndRecord) : (s.setFrontEnd x).call = s.call := rfl
@[simp] theorem State.setFrontEnd_recallArea (s : State) (x : List FrontEndRecord) : (s.setFrontEnd x).recallArea = s.recallArea := rfl
@[simp] theorem State.setFrontEnd_host (s : State) (x : List FrontEndRecord) : (s.setFrontEnd x).host = s.host := rfl
@[simp] theorem State.setFrontEnd_pins (s : State) (x : List FrontEndRecord) : (s.setFrontEnd x).pins = s.pins := rfl
@[simp] theorem State.setFrontEnd_frontEnd (s : State) (x : List FrontEndRecord) : (s.setFrontEnd x).frontEnd = x := rfl
@[simp] theorem State.setFrontEnd_free (s : State) (x : List FrontEndRecord) : (s.setFrontEnd x).free = s.free := rfl
@[simp] theorem State.setFrontEnd_pending (s : State) (x : List FrontEndRecord) : (s.setFrontEnd x).pending = s.pending := rfl

@[simp] theorem State.setFree_intake (s : State) (x : Nat) : (s.setFree x).intake = s.intake := rfl
@[simp] theorem State.setFree_table (s : State) (x : Nat) : (s.setFree x).table = s.table := rfl
@[simp] theorem State.setFree_beacon (s : State) (x : Nat) : (s.setFree x).beacon = s.beacon := rfl
@[simp] theorem State.setFree_ranking (s : State) (x : Nat) : (s.setFree x).ranking = s.ranking := rfl
@[simp] theorem State.setFree_scan (s : State) (x : Nat) : (s.setFree x).scan = s.scan := rfl
@[simp] theorem State.setFree_roam (s : State) (x : Nat) : (s.setFree x).roam = s.roam := rfl
@[simp] theorem State.setFree_access (s : State) (x : Nat) : (s.setFree x).access = s.access := rfl
@[simp] theorem State.setFree_groups (s : State) (x : Nat) : (s.setFree x).groups = s.groups := rfl
@[simp] theorem State.setFree_call (s : State) (x : Nat) : (s.setFree x).call = s.call := rfl
@[simp] theorem State.setFree_recallArea (s : State) (x : Nat) : (s.setFree x).recallArea = s.recallArea := rfl
@[simp] theorem State.setFree_host (s : State) (x : Nat) : (s.setFree x).host = s.host := rfl
@[simp] theorem State.setFree_pins (s : State) (x : Nat) : (s.setFree x).pins = s.pins := rfl
@[simp] theorem State.setFree_frontEnd (s : State) (x : Nat) : (s.setFree x).frontEnd = s.frontEnd := rfl
@[simp] theorem State.setFree_free (s : State) (x : Nat) : (s.setFree x).free = x := rfl
@[simp] theorem State.setFree_pending (s : State) (x : Nat) : (s.setFree x).pending = s.pending := rfl

@[simp] theorem State.setPending_intake (s : State) (x : List Instr) : (s.setPending x).intake = s.intake := rfl
@[simp] theorem State.setPending_table (s : State) (x : List Instr) : (s.setPending x).table = s.table := rfl
@[simp] theorem State.setPending_beacon (s : State) (x : List Instr) : (s.setPending x).beacon = s.beacon := rfl
@[simp] theorem State.setPending_ranking (s : State) (x : List Instr) : (s.setPending x).ranking = s.ranking := rfl
@[simp] theorem State.setPending_scan (s : State) (x : List Instr) : (s.setPending x).scan = s.scan := rfl
@[simp] theorem State.setPending_roam (s : State) (x : List Instr) : (s.setPending x).roam = s.roam := rfl
@[simp] theorem State.setPending_access (s : State) (x : List Instr) : (s.setPending x).access = s.access := rfl
@[simp] theorem State.setPending_groups (s : State) (x : List Instr) : (s.setPending x).groups = s.groups := rfl
@[simp] theorem State.setPending_call (s : State) (x : List Instr) : (s.setPending x).call = s.call := rfl
@[simp] theorem State.setPending_recallArea (s : State) (x : List Instr) : (s.setPending x).recallArea = s.recallArea := rfl
@[simp] theorem State.setPending_host (s : State) (x : List Instr) : (s.setPending x).host = s.host := rfl
@[simp] theorem State.setPending_pins (s : State) (x : List Instr) : (s.setPending x).pins = s.pins := rfl
@[simp] theorem State.setPending_frontEnd (s : State) (x : List Instr) : (s.setPending x).frontEnd = s.frontEnd := rfl
@[simp] theorem State.setPending_free (s : State) (x : List Instr) : (s.setPending x).free = s.free := rfl
@[simp] theorem State.setPending_pending (s : State) (x : List Instr) : (s.setPending x).pending = x := rfl

end Sys2Proof.Machine
end

