-- ==== Sys2Proof/Laws/OpsFrame.lean ====
section
/-! SUPPORT. What each operation every block shares leaves as it was. -/

namespace Sys2Proof.Machine

@[simp] theorem State.event_frame (s : State) (e : Event) :
    (s.event e).intake = s.intake ∧ (s.event e).table = s.table ∧ (s.event e).beacon = s.beacon
    ∧ (s.event e).ranking = s.ranking ∧ (s.event e).scan = s.scan ∧ (s.event e).roam = s.roam
    ∧ (s.event e).access = s.access ∧ (s.event e).groups = s.groups ∧ (s.event e).call = s.call
    ∧ (s.event e).recallArea = s.recallArea ∧ (s.event e).host.received = s.host.received
    ∧ (s.event e).host.intake = s.host.intake ∧ (s.event e).host.locked = s.host.locked
    ∧ (s.event e).host.active = s.host.active ∧ (s.event e).host.pendingParams = s.host.pendingParams
    ∧ (s.event e).host.linkError = s.host.linkError ∧ (s.event e).host.checkErrors = s.host.checkErrors
    ∧ (s.event e).host.resetTaken = s.host.resetTaken ∧ (s.event e).host.assembly = s.host.assembly
    ∧ (s.event e).pins = s.pins ∧ (s.event e).frontEnd = s.frontEnd ∧ (s.event e).free = s.free
    ∧ (s.event e).pending = s.pending := by
  unfold State.event; split <;> simp

@[simp] theorem State.reply_frame (s : State) (f : HostFrame) (code : ReplyCode) (result : List Byte := []) :
    (s.reply f code result).intake = s.intake ∧ (s.reply f code result).table = s.table
    ∧ (s.reply f code result).beacon = s.beacon ∧ (s.reply f code result).ranking = s.ranking
    ∧ (s.reply f code result).scan = s.scan ∧ (s.reply f code result).roam = s.roam
    ∧ (s.reply f code result).access = s.access ∧ (s.reply f code result).groups = s.groups
    ∧ (s.reply f code result).call = s.call ∧ (s.reply f code result).recallArea = s.recallArea
    ∧ (s.reply f code result).host.received = s.host.received
    ∧ (s.reply f code result).host.intake = s.host.intake
    ∧ (s.reply f code result).host.locked = s.host.locked
    ∧ (s.reply f code result).host.active = s.host.active
    ∧ (s.reply f code result).host.pendingParams = s.host.pendingParams
    ∧ (s.reply f code result).host.linkError = s.host.linkError
    ∧ (s.reply f code result).host.checkErrors = s.host.checkErrors
    ∧ (s.reply f code result).host.resetTaken = s.host.resetTaken
    ∧ (s.reply f code result).host.assembly = s.host.assembly ∧ (s.reply f code result).pins = s.pins
    ∧ (s.reply f code result).frontEnd = s.frontEnd ∧ (s.reply f code result).free = s.free
    ∧ (s.reply f code result).pending = s.pending := by
  simp [State.reply]

@[simp] theorem State.issue_frame (s : State) (r : FrontEndRecord) :
    (s.issue r).intake = s.intake ∧ (s.issue r).table = s.table ∧ (s.issue r).beacon = s.beacon
    ∧ (s.issue r).ranking = s.ranking ∧ (s.issue r).scan = s.scan ∧ (s.issue r).roam = s.roam
    ∧ (s.issue r).access = s.access ∧ (s.issue r).groups = s.groups ∧ (s.issue r).call = s.call
    ∧ (s.issue r).recallArea = s.recallArea ∧ (s.issue r).host = s.host ∧ (s.issue r).pins = s.pins
    ∧ (s.issue r).free = s.free ∧ (s.issue r).pending = s.pending := by
  simp [State.issue]

@[simp] theorem State.tune_frame (s : State) (channel : Nat) :
    (s.tune channel).intake = s.intake ∧ (s.tune channel).table = s.table
    ∧ (s.tune channel).beacon = s.beacon ∧ (s.tune channel).ranking = s.ranking
    ∧ (s.tune channel).scan = s.scan ∧ (s.tune channel).roam = s.roam ∧ (s.tune channel).access = s.access
    ∧ (s.tune channel).groups = s.groups ∧ (s.tune channel).call = s.call
    ∧ (s.tune channel).recallArea = s.recallArea ∧ (s.tune channel).host = s.host
    ∧ (s.tune channel).pins = s.pins ∧ (s.tune channel).free = s.free ∧ (s.tune channel).pending = s.pending := by
  simp [State.tune]

@[simp] theorem State.tuneServing_frame (s : State) :
    (s.tuneServing).intake = s.intake ∧ (s.tuneServing).table = s.table ∧ (s.tuneServing).beacon = s.beacon
    ∧ (s.tuneServing).ranking = s.ranking ∧ (s.tuneServing).scan = s.scan ∧ (s.tuneServing).roam = s.roam
    ∧ (s.tuneServing).access = s.access ∧ (s.tuneServing).groups = s.groups ∧ (s.tuneServing).call = s.call
    ∧ (s.tuneServing).recallArea = s.recallArea ∧ (s.tuneServing).host = s.host
    ∧ (s.tuneServing).pins = s.pins ∧ (s.tuneServing).free = s.free ∧ (s.tuneServing).pending = s.pending := by
  unfold State.tuneServing; split <;> simp

@[simp] theorem State.setOwner_frame (s : State) (owner : Option Pair) :
    (s.setOwner owner).intake = s.intake ∧ (s.setOwner owner).table = s.table
    ∧ (s.setOwner owner).ranking = s.ranking ∧ (s.setOwner owner).scan = s.scan
    ∧ (s.setOwner owner).roam = s.roam ∧ (s.setOwner owner).access = s.access
    ∧ (s.setOwner owner).groups = s.groups ∧ (s.setOwner owner).call = s.call
    ∧ (s.setOwner owner).recallArea = s.recallArea ∧ (s.setOwner owner).host = s.host
    ∧ (s.setOwner owner).pins = s.pins ∧ (s.setOwner owner).frontEnd = s.frontEnd
    ∧ (s.setOwner owner).free = s.free ∧ (s.setOwner owner).pending = s.pending := by
  unfold State.setOwner; split <;> simp

@[simp] theorem State.setEntry_frame (s : State) (i : Nat) (e : Entry) :
    (s.setEntry i e).intake = s.intake ∧ (s.setEntry i e).table.entries.length = s.table.entries.length
    ∧ (s.setEntry i e).beacon = s.beacon ∧ (s.setEntry i e).ranking = s.ranking
    ∧ (s.setEntry i e).scan = s.scan ∧ (s.setEntry i e).roam = s.roam ∧ (s.setEntry i e).access = s.access
    ∧ (s.setEntry i e).groups = s.groups ∧ (s.setEntry i e).call = s.call
    ∧ (s.setEntry i e).recallArea = s.recallArea ∧ (s.setEntry i e).host = s.host
    ∧ (s.setEntry i e).pins = s.pins ∧ (s.setEntry i e).frontEnd = s.frontEnd
    ∧ (s.setEntry i e).free = s.free ∧ (s.setEntry i e).pending = s.pending := by
  simp [State.setEntry]

@[simp] theorem State.loseObject_frame (s : State) (i : Nat) :
    (s.loseObject i).intake = s.intake ∧ (s.loseObject i).table = s.table
    ∧ (s.loseObject i).beacon = s.beacon ∧ (s.loseObject i).ranking = s.ranking
    ∧ (s.loseObject i).scan.huntChannels = s.scan.huntChannels ∧ (s.loseObject i).roam = s.roam
    ∧ (s.loseObject i).access = s.access ∧ (s.loseObject i).groups = s.groups ∧ (s.loseObject i).call = s.call
    ∧ (s.loseObject i).recallArea = s.recallArea ∧ (s.loseObject i).host = s.host
    ∧ (s.loseObject i).pins = s.pins ∧ (s.loseObject i).frontEnd = s.frontEnd
    ∧ (s.loseObject i).free = s.free ∧ (s.loseObject i).pending = s.pending := by
  simp [State.loseObject]

@[simp] theorem State.replaceEntry_frame (s : State) (i : Nat) (e : Entry) :
    (s.replaceEntry i e).intake = s.intake ∧ (s.replaceEntry i e).table = (s.setEntry i e).table
    ∧ (s.replaceEntry i e).beacon = s.beacon ∧ (s.replaceEntry i e).ranking = s.ranking
    ∧ (s.replaceEntry i e).scan.huntChannels = s.scan.huntChannels ∧ (s.replaceEntry i e).roam = s.roam
    ∧ (s.replaceEntry i e).access = s.access ∧ (s.replaceEntry i e).groups = s.groups
    ∧ (s.replaceEntry i e).call = s.call ∧ (s.replaceEntry i e).recallArea = s.recallArea
    ∧ (s.replaceEntry i e).host = s.host ∧ (s.replaceEntry i e).pins = s.pins
    ∧ (s.replaceEntry i e).frontEnd = s.frontEnd ∧ (s.replaceEntry i e).free = s.free
    ∧ (s.replaceEntry i e).pending = s.pending := by
  simp [State.replaceEntry, State.setEntry]

/-- Of the Scan Sequencer, replacing an entry changes the visit in progress alone. -/
theorem State.replaceEntry_scan (s : State) (i : Nat) (e : Entry) :
    (s.replaceEntry i e).scan = { s.scan with visit := s.scan.visit.map fun v => v.withoutSite (s.entry i) } := by
  simp [State.replaceEntry, State.loseObject]

@[simp] theorem State.mapEntries_frame (s : State) (f : Entry → Entry) :
    (s.mapEntries f).intake = s.intake ∧ (s.mapEntries f).table.entries.length = s.table.entries.length
    ∧ (s.mapEntries f).beacon = s.beacon ∧ (s.mapEntries f).ranking = s.ranking
    ∧ (s.mapEntries f).scan = s.scan ∧ (s.mapEntries f).roam = s.roam ∧ (s.mapEntries f).access = s.access
    ∧ (s.mapEntries f).groups = s.groups ∧ (s.mapEntries f).call = s.call
    ∧ (s.mapEntries f).recallArea = s.recallArea ∧ (s.mapEntries f).host = s.host
    ∧ (s.mapEntries f).pins = s.pins ∧ (s.mapEntries f).frontEnd = s.frontEnd
    ∧ (s.mapEntries f).free = s.free ∧ (s.mapEntries f).pending = s.pending := by
  simp [State.mapEntries]

@[simp] theorem State.clearWatch_frame (s : State) :
    (s.clearWatch).intake = s.intake ∧ (s.clearWatch).table = s.table ∧ (s.clearWatch).scan = s.scan
    ∧ (s.clearWatch).roam = s.roam ∧ (s.clearWatch).access = s.access ∧ (s.clearWatch).groups = s.groups
    ∧ (s.clearWatch).call = s.call ∧ (s.clearWatch).recallArea = s.recallArea ∧ (s.clearWatch).host = s.host
    ∧ (s.clearWatch).pins = s.pins ∧ (s.clearWatch).frontEnd = s.frontEnd ∧ (s.clearWatch).free = s.free
    ∧ (s.clearWatch).pending = s.pending := by
  unfold State.clearWatch; split <;> simp

@[simp] theorem State.dwellCleared_frame (s : State) (i : Nat) :
    (s.dwellCleared i).intake = s.intake ∧ (s.dwellCleared i).table = s.table
    ∧ (s.dwellCleared i).scan = s.scan ∧ (s.dwellCleared i).roam = s.roam
    ∧ (s.dwellCleared i).access = s.access ∧ (s.dwellCleared i).groups = s.groups
    ∧ (s.dwellCleared i).call = s.call ∧ (s.dwellCleared i).recallArea = s.recallArea
    ∧ (s.dwellCleared i).host = s.host ∧ (s.dwellCleared i).pins = s.pins
    ∧ (s.dwellCleared i).frontEnd = s.frontEnd ∧ (s.dwellCleared i).free = s.free
    ∧ (s.dwellCleared i).pending = s.pending := by
  unfold State.dwellCleared; split <;> simp

@[simp] theorem State.fallToListed_frame (s : State) (i : Nat) :
    (s.fallToListed i).intake = s.intake ∧ (s.fallToListed i).table.entries.length = s.table.entries.length
    ∧ (s.fallToListed i).scan = s.scan ∧ (s.fallToListed i).roam = s.roam
    ∧ (s.fallToListed i).access = s.access ∧ (s.fallToListed i).groups = s.groups
    ∧ (s.fallToListed i).call = s.call ∧ (s.fallToListed i).recallArea = s.recallArea
    ∧ (s.fallToListed i).host = s.host ∧ (s.fallToListed i).pins = s.pins
    ∧ (s.fallToListed i).frontEnd = s.frontEnd ∧ (s.fallToListed i).free = s.free
    ∧ (s.fallToListed i).pending = s.pending := by
  simp [State.fallToListed]

@[simp] theorem State.countConflict_frame (s : State) :
    (s.countConflict).intake = s.intake ∧ (s.countConflict).table.entries.length = s.table.entries.length
    ∧ (s.countConflict).beacon = s.beacon ∧ (s.countConflict).ranking = s.ranking
    ∧ (s.countConflict).scan = s.scan ∧ (s.countConflict).roam = s.roam
    ∧ (s.countConflict).access = s.access ∧ (s.countConflict).groups = s.groups
    ∧ (s.countConflict).call = s.call ∧ (s.countConflict).recallArea = s.recallArea
    ∧ (s.countConflict).host = s.host ∧ (s.countConflict).pins = s.pins
    ∧ (s.countConflict).frontEnd = s.frontEnd ∧ (s.countConflict).free = s.free
    ∧ (s.countConflict).pending = s.pending := by
  simp [State.countConflict]

@[simp] theorem State.countSkip_frame (s : State) :
    (s.countSkip).intake = s.intake ∧ (s.countSkip).table.entries.length = s.table.entries.length
    ∧ (s.countSkip).beacon = s.beacon ∧ (s.countSkip).ranking = s.ranking ∧ (s.countSkip).scan = s.scan
    ∧ (s.countSkip).roam = s.roam ∧ (s.countSkip).access = s.access ∧ (s.countSkip).groups = s.groups
    ∧ (s.countSkip).call = s.call ∧ (s.countSkip).recallArea = s.recallArea ∧ (s.countSkip).host = s.host
    ∧ (s.countSkip).pins = s.pins ∧ (s.countSkip).frontEnd = s.frontEnd ∧ (s.countSkip).free = s.free
    ∧ (s.countSkip).pending = s.pending := by
  simp [State.countSkip]

@[simp] theorem State.nextFree_frame (s : State) :
    (s.nextFree).intake = s.intake ∧ (s.nextFree).table = s.table ∧ (s.nextFree).beacon = s.beacon
    ∧ (s.nextFree).ranking = s.ranking ∧ (s.nextFree).scan = s.scan ∧ (s.nextFree).roam = s.roam
    ∧ (s.nextFree).access = s.access ∧ (s.nextFree).groups = s.groups ∧ (s.nextFree).call = s.call
    ∧ (s.nextFree).recallArea = s.recallArea ∧ (s.nextFree).host = s.host ∧ (s.nextFree).pins = s.pins
    ∧ (s.nextFree).frontEnd = s.frontEnd ∧ (s.nextFree).pending = s.pending := by
  simp [State.nextFree]

end Sys2Proof.Machine
end

