-- ==== Sys2Proof/Laws/ScanFrame.lean ====
section
/-! SUPPORT. What the operations of the group list and the Scan Sequencer leave as it was. -/

namespace Sys2Proof.Machine

@[simp] theorem State.setGroupList_frame (s : State) (groups : List Group) :
    (s.setGroupList groups).intake = s.intake ∧ (s.setGroupList groups).table = s.table
    ∧ (s.setGroupList groups).beacon = s.beacon ∧ (s.setGroupList groups).ranking = s.ranking
    ∧ (s.setGroupList groups).scan = s.scan ∧ (s.setGroupList groups).roam = s.roam
    ∧ (s.setGroupList groups).access = s.access
    ∧ (s.setGroupList groups).groups.identity = s.groups.identity ∧ (s.setGroupList groups).call = s.call
    ∧ (s.setGroupList groups).recallArea = s.recallArea ∧ (s.setGroupList groups).host = s.host
    ∧ (s.setGroupList groups).pins = s.pins ∧ (s.setGroupList groups).frontEnd = s.frontEnd
    ∧ (s.setGroupList groups).free = s.free ∧ (s.setGroupList groups).pending = s.pending := by
  simp [State.setGroupList]

@[simp] theorem State.allUnsent_frame (s : State) :
    (s.allUnsent).intake = s.intake ∧ (s.allUnsent).table = s.table ∧ (s.allUnsent).beacon = s.beacon
    ∧ (s.allUnsent).ranking = s.ranking ∧ (s.allUnsent).scan = s.scan ∧ (s.allUnsent).roam = s.roam
    ∧ (s.allUnsent).access = s.access ∧ (s.allUnsent).groups.identity = s.groups.identity
    ∧ (s.allUnsent).call = s.call ∧ (s.allUnsent).recallArea = s.recallArea ∧ (s.allUnsent).host = s.host
    ∧ (s.allUnsent).pins = s.pins ∧ (s.allUnsent).frontEnd = s.frontEnd ∧ (s.allUnsent).free = s.free
    ∧ (s.allUnsent).pending = s.pending := by
  simp [State.allUnsent]

@[simp] theorem State.returnSent_frame (s : State) :
    (s.returnSent).intake = s.intake ∧ (s.returnSent).table = s.table ∧ (s.returnSent).beacon = s.beacon
    ∧ (s.returnSent).ranking = s.ranking ∧ (s.returnSent).scan = s.scan ∧ (s.returnSent).roam = s.roam
    ∧ (s.returnSent).access = s.access ∧ (s.returnSent).groups.identity = s.groups.identity
    ∧ (s.returnSent).call = s.call ∧ (s.returnSent).recallArea = s.recallArea ∧ (s.returnSent).host = s.host
    ∧ (s.returnSent).pins = s.pins ∧ (s.returnSent).frontEnd = s.frontEnd ∧ (s.returnSent).free = s.free
    ∧ (s.returnSent).pending = s.pending := by
  simp [State.returnSent]

@[simp] theorem State.returnCarried_frame (s : State) (carried : List Nat) :
    (s.returnCarried carried).intake = s.intake ∧ (s.returnCarried carried).table = s.table
    ∧ (s.returnCarried carried).beacon = s.beacon ∧ (s.returnCarried carried).ranking = s.ranking
    ∧ (s.returnCarried carried).scan = s.scan ∧ (s.returnCarried carried).roam = s.roam
    ∧ (s.returnCarried carried).access = s.access
    ∧ (s.returnCarried carried).groups.identity = s.groups.identity
    ∧ (s.returnCarried carried).call = s.call ∧ (s.returnCarried carried).recallArea = s.recallArea
    ∧ (s.returnCarried carried).host = s.host ∧ (s.returnCarried carried).pins = s.pins
    ∧ (s.returnCarried carried).frontEnd = s.frontEnd ∧ (s.returnCarried carried).free = s.free
    ∧ (s.returnCarried carried).pending = s.pending := by
  simp [State.returnCarried]

@[simp] theorem State.markSent_frame (s : State) (carried : List Nat) :
    (s.markSent carried).intake = s.intake ∧ (s.markSent carried).table = s.table
    ∧ (s.markSent carried).beacon = s.beacon ∧ (s.markSent carried).ranking = s.ranking
    ∧ (s.markSent carried).scan = s.scan ∧ (s.markSent carried).roam = s.roam
    ∧ (s.markSent carried).access = s.access ∧ (s.markSent carried).groups.identity = s.groups.identity
    ∧ (s.markSent carried).call = s.call ∧ (s.markSent carried).recallArea = s.recallArea
    ∧ (s.markSent carried).host = s.host ∧ (s.markSent carried).pins = s.pins
    ∧ (s.markSent carried).frontEnd = s.frontEnd ∧ (s.markSent carried).free = s.free
    ∧ (s.markSent carried).pending = s.pending := by
  simp [State.markSent]

@[simp] theorem State.affilAck_frame (s : State) (count : Nat) :
    (s.affilAck count).intake = s.intake ∧ (s.affilAck count).table = s.table
    ∧ (s.affilAck count).beacon = s.beacon ∧ (s.affilAck count).ranking = s.ranking
    ∧ (s.affilAck count).scan = s.scan ∧ (s.affilAck count).roam = s.roam
    ∧ (s.affilAck count).access = s.access ∧ (s.affilAck count).groups.identity = s.groups.identity
    ∧ (s.affilAck count).call = s.call ∧ (s.affilAck count).recallArea = s.recallArea
    ∧ (s.affilAck count).host.received = s.host.received ∧ (s.affilAck count).host.intake = s.host.intake
    ∧ (s.affilAck count).host.locked = s.host.locked ∧ (s.affilAck count).host.active = s.host.active
    ∧ (s.affilAck count).host.pendingParams = s.host.pendingParams
    ∧ (s.affilAck count).host.linkError = s.host.linkError
    ∧ (s.affilAck count).host.checkErrors = s.host.checkErrors
    ∧ (s.affilAck count).host.resetTaken = s.host.resetTaken
    ∧ (s.affilAck count).host.assembly = s.host.assembly ∧ (s.affilAck count).pins = s.pins
    ∧ (s.affilAck count).frontEnd = s.frontEnd ∧ (s.affilAck count).free = s.free
    ∧ (s.affilAck count).pending = s.pending := by
  simp [State.affilAck]

@[simp] theorem State.buildHuntList_frame (s : State) :
    (s.buildHuntList).intake = s.intake ∧ (s.buildHuntList).table = s.table
    ∧ (s.buildHuntList).beacon = s.beacon ∧ (s.buildHuntList).ranking = s.ranking
    ∧ (s.buildHuntList).scan.huntChannels = s.scan.huntChannels ∧ (s.buildHuntList).roam = s.roam
    ∧ (s.buildHuntList).access = s.access ∧ (s.buildHuntList).groups = s.groups
    ∧ (s.buildHuntList).call = s.call ∧ (s.buildHuntList).recallArea = s.recallArea
    ∧ (s.buildHuntList).host = s.host ∧ (s.buildHuntList).pins = s.pins
    ∧ (s.buildHuntList).frontEnd = s.frontEnd ∧ (s.buildHuntList).free = s.free
    ∧ (s.buildHuntList).pending = s.pending := by
  simp [State.buildHuntList]

@[simp] theorem State.moveCursor_frame (s : State) :
    (s.moveCursor).intake = s.intake ∧ (s.moveCursor).table = s.table ∧ (s.moveCursor).beacon = s.beacon
    ∧ (s.moveCursor).ranking = s.ranking ∧ (s.moveCursor).scan.huntChannels = s.scan.huntChannels
    ∧ (s.moveCursor).roam = s.roam ∧ (s.moveCursor).access = s.access ∧ (s.moveCursor).groups = s.groups
    ∧ (s.moveCursor).call = s.call ∧ (s.moveCursor).recallArea = s.recallArea ∧ (s.moveCursor).host = s.host
    ∧ (s.moveCursor).pins = s.pins ∧ (s.moveCursor).frontEnd = s.frontEnd ∧ (s.moveCursor).free = s.free
    ∧ (s.moveCursor).pending = s.pending := by
  unfold State.moveCursor; split <;> simp

@[simp] theorem State.beginHuntVisit_frame (s : State) :
    (s.beginHuntVisit).intake = s.intake ∧ (s.beginHuntVisit).table = s.table
    ∧ (s.beginHuntVisit).beacon = s.beacon ∧ (s.beginHuntVisit).ranking = s.ranking
    ∧ (s.beginHuntVisit).scan.huntChannels = s.scan.huntChannels ∧ (s.beginHuntVisit).roam = s.roam
    ∧ (s.beginHuntVisit).access = s.access ∧ (s.beginHuntVisit).groups = s.groups
    ∧ (s.beginHuntVisit).call = s.call ∧ (s.beginHuntVisit).recallArea = s.recallArea
    ∧ (s.beginHuntVisit).host = s.host ∧ (s.beginHuntVisit).pins = s.pins ∧ (s.beginHuntVisit).free = s.free
    ∧ (s.beginHuntVisit).pending = s.pending := by
  unfold State.beginHuntVisit; split <;> simp

@[simp] theorem State.huntOn_frame (s : State) :
    (s.huntOn).intake = s.intake ∧ (s.huntOn).table = s.table ∧ (s.huntOn).beacon = s.beacon
    ∧ (s.huntOn).ranking = s.ranking ∧ (s.huntOn).scan.huntChannels = s.scan.huntChannels
    ∧ (s.huntOn).roam = s.roam ∧ (s.huntOn).access = s.access ∧ (s.huntOn).groups = s.groups
    ∧ (s.huntOn).call = s.call ∧ (s.huntOn).recallArea = s.recallArea ∧ (s.huntOn).host = s.host
    ∧ (s.huntOn).pins = s.pins ∧ (s.huntOn).free = s.free ∧ (s.huntOn).pending = s.pending := by
  unfold State.huntOn; split <;> simp

@[simp] theorem State.endListen_frame (s : State) :
    (s.endListen).intake = s.intake ∧ (s.endListen).table = s.table ∧ (s.endListen).ranking = s.ranking
    ∧ (s.endListen).scan.huntChannels = s.scan.huntChannels ∧ (s.endListen).roam = s.roam
    ∧ (s.endListen).access = s.access ∧ (s.endListen).groups = s.groups ∧ (s.endListen).call = s.call
    ∧ (s.endListen).recallArea = s.recallArea ∧ (s.endListen).host = s.host ∧ (s.endListen).pins = s.pins
    ∧ (s.endListen).free = s.free ∧ (s.endListen).pending = s.pending := by
  simp [State.endListen]

@[simp] theorem State.scanIdle_frame (s : State) :
    (s.scanIdle).intake = s.intake ∧ (s.scanIdle).table = s.table ∧ (s.scanIdle).beacon = s.beacon
    ∧ (s.scanIdle).ranking = s.ranking ∧ (s.scanIdle).scan.huntChannels = s.scan.huntChannels
    ∧ (s.scanIdle).roam = s.roam ∧ (s.scanIdle).access = s.access ∧ (s.scanIdle).groups = s.groups
    ∧ (s.scanIdle).call = s.call ∧ (s.scanIdle).recallArea = s.recallArea ∧ (s.scanIdle).host = s.host
    ∧ (s.scanIdle).pins = s.pins ∧ (s.scanIdle).frontEnd = s.frontEnd ∧ (s.scanIdle).free = s.free
    ∧ (s.scanIdle).pending = s.pending := by
  simp [State.scanIdle]

@[simp] theorem State.rebuildPlan_frame (s : State) :
    (s.rebuildPlan).intake = s.intake ∧ (s.rebuildPlan).table = s.table ∧ (s.rebuildPlan).beacon = s.beacon
    ∧ (s.rebuildPlan).ranking = s.ranking ∧ (s.rebuildPlan).scan.huntChannels = s.scan.huntChannels
    ∧ (s.rebuildPlan).roam = s.roam ∧ (s.rebuildPlan).access = s.access ∧ (s.rebuildPlan).groups = s.groups
    ∧ (s.rebuildPlan).call = s.call ∧ (s.rebuildPlan).recallArea = s.recallArea
    ∧ (s.rebuildPlan).host = s.host ∧ (s.rebuildPlan).pins = s.pins ∧ (s.rebuildPlan).frontEnd = s.frontEnd
    ∧ (s.rebuildPlan).free = s.free ∧ (s.rebuildPlan).pending = s.pending := by
  simp [State.rebuildPlan]

@[simp] theorem State.beginVisit_frame (s : State) (i start : Nat) :
    (s.beginVisit i start).intake = s.intake ∧ (s.beginVisit i start).table = s.table
    ∧ (s.beginVisit i start).beacon = s.beacon ∧ (s.beginVisit i start).ranking = s.ranking
    ∧ (s.beginVisit i start).scan.huntChannels = s.scan.huntChannels ∧ (s.beginVisit i start).roam = s.roam
    ∧ (s.beginVisit i start).access = s.access ∧ (s.beginVisit i start).groups = s.groups
    ∧ (s.beginVisit i start).call = s.call ∧ (s.beginVisit i start).recallArea = s.recallArea
    ∧ (s.beginVisit i start).host = s.host ∧ (s.beginVisit i start).pins = s.pins
    ∧ (s.beginVisit i start).free = s.free ∧ (s.beginVisit i start).pending = s.pending := by
  unfold State.beginVisit; repeat' split <;> simp

@[simp] theorem State.decideStart_frame (s : State) :
    (s.decideStart).intake = s.intake ∧ (s.decideStart).table = s.table ∧ (s.decideStart).beacon = s.beacon
    ∧ (s.decideStart).ranking = s.ranking ∧ (s.decideStart).scan.huntChannels = s.scan.huntChannels
    ∧ (s.decideStart).roam = s.roam ∧ (s.decideStart).access = s.access ∧ (s.decideStart).groups = s.groups
    ∧ (s.decideStart).call = s.call ∧ (s.decideStart).recallArea = s.recallArea
    ∧ (s.decideStart).host = s.host ∧ (s.decideStart).pins = s.pins ∧ (s.decideStart).free = s.free
    ∧ (s.decideStart).pending = s.pending := by
  simp only [State.decideStart]; repeat' split
  all_goals simp

@[simp] theorem State.endVisit_frame (s : State) :
    (s.endVisit).intake = s.intake ∧ (s.endVisit).table = s.table ∧ (s.endVisit).beacon = s.beacon
    ∧ (s.endVisit).ranking = s.ranking ∧ (s.endVisit).scan.huntChannels = s.scan.huntChannels
    ∧ (s.endVisit).roam = s.roam ∧ (s.endVisit).access = s.access ∧ (s.endVisit).groups = s.groups
    ∧ (s.endVisit).call = s.call ∧ (s.endVisit).recallArea = s.recallArea ∧ (s.endVisit).host = s.host
    ∧ (s.endVisit).pins = s.pins ∧ (s.endVisit).free = s.free ∧ (s.endVisit).pending = s.pending := by
  simp only [State.endVisit]; repeat' split
  all_goals simp

@[simp] theorem State.abandonVisit_frame (s : State) :
    (s.abandonVisit).intake = s.intake ∧ (s.abandonVisit).table = s.table
    ∧ (s.abandonVisit).beacon = s.beacon ∧ (s.abandonVisit).ranking = s.ranking
    ∧ (s.abandonVisit).scan.huntChannels = s.scan.huntChannels ∧ (s.abandonVisit).roam = s.roam
    ∧ (s.abandonVisit).access = s.access ∧ (s.abandonVisit).groups = s.groups
    ∧ (s.abandonVisit).call = s.call ∧ (s.abandonVisit).recallArea = s.recallArea
    ∧ (s.abandonVisit).host = s.host ∧ (s.abandonVisit).pins = s.pins ∧ (s.abandonVisit).free = s.free
    ∧ (s.abandonVisit).pending = s.pending := by
  unfold State.abandonVisit; split <;> simp

@[simp] theorem State.exchangeBegins_frame (s : State) :
    (s.exchangeBegins).intake = s.intake ∧ (s.exchangeBegins).table = s.table
    ∧ (s.exchangeBegins).beacon = s.beacon ∧ (s.exchangeBegins).ranking = s.ranking
    ∧ (s.exchangeBegins).scan.huntChannels = s.scan.huntChannels ∧ (s.exchangeBegins).roam = s.roam
    ∧ (s.exchangeBegins).access = s.access ∧ (s.exchangeBegins).groups = s.groups
    ∧ (s.exchangeBegins).call = s.call ∧ (s.exchangeBegins).recallArea = s.recallArea
    ∧ (s.exchangeBegins).host = s.host ∧ (s.exchangeBegins).pins = s.pins ∧ (s.exchangeBegins).free = s.free
    ∧ (s.exchangeBegins).pending = s.pending := by
  simp only [State.exchangeBegins]; repeat' split
  all_goals simp

@[simp] theorem State.advancePlan_frame (s : State) :
    (s.advancePlan).intake = s.intake ∧ (s.advancePlan).table = s.table ∧ (s.advancePlan).beacon = s.beacon
    ∧ (s.advancePlan).ranking = s.ranking ∧ (s.advancePlan).scan.huntChannels = s.scan.huntChannels
    ∧ (s.advancePlan).roam = s.roam ∧ (s.advancePlan).access = s.access ∧ (s.advancePlan).groups = s.groups
    ∧ (s.advancePlan).call = s.call ∧ (s.advancePlan).recallArea = s.recallArea
    ∧ (s.advancePlan).host = s.host ∧ (s.advancePlan).pins = s.pins ∧ (s.advancePlan).frontEnd = s.frontEnd
    ∧ (s.advancePlan).free = s.free ∧ (s.advancePlan).pending = s.pending := by
  simp [State.advancePlan]

@[simp] theorem State.nameRecord_frame (s : State) :
    (s.nameRecord).intake = s.intake ∧ (s.nameRecord).table = s.table ∧ (s.nameRecord).beacon = s.beacon
    ∧ (s.nameRecord).ranking = s.ranking ∧ (s.nameRecord).scan.huntChannels = s.scan.huntChannels
    ∧ (s.nameRecord).roam = s.roam ∧ (s.nameRecord).access = s.access ∧ (s.nameRecord).groups = s.groups
    ∧ (s.nameRecord).call = s.call ∧ (s.nameRecord).recallArea = s.recallArea ∧ (s.nameRecord).host = s.host
    ∧ (s.nameRecord).pins = s.pins ∧ (s.nameRecord).frontEnd = s.frontEnd ∧ (s.nameRecord).free = s.free
    ∧ (s.nameRecord).pending = s.pending := by
  simp [State.nameRecord]

@[simp] theorem State.listenIfFound_frame (s : State) (r : Frame) :
    (s.listenIfFound r).intake = s.intake ∧ (s.listenIfFound r).table = s.table
    ∧ (s.listenIfFound r).ranking = s.ranking ∧ (s.listenIfFound r).scan.huntChannels = s.scan.huntChannels
    ∧ (s.listenIfFound r).roam = s.roam ∧ (s.listenIfFound r).access = s.access
    ∧ (s.listenIfFound r).groups = s.groups ∧ (s.listenIfFound r).call = s.call
    ∧ (s.listenIfFound r).recallArea = s.recallArea ∧ (s.listenIfFound r).host = s.host
    ∧ (s.listenIfFound r).pins = s.pins ∧ (s.listenIfFound r).frontEnd = s.frontEnd
    ∧ (s.listenIfFound r).free = s.free ∧ (s.listenIfFound r).pending = s.pending := by
  unfold State.listenIfFound; repeat' split <;> simp

@[simp] theorem State.huntVisitOver_frame (s : State) :
    (s.huntVisitOver).intake = s.intake ∧ (s.huntVisitOver).table = s.table
    ∧ (s.huntVisitOver).beacon = s.beacon ∧ (s.huntVisitOver).ranking = s.ranking
    ∧ (s.huntVisitOver).scan.huntChannels = s.scan.huntChannels ∧ (s.huntVisitOver).roam = s.roam
    ∧ (s.huntVisitOver).access = s.access ∧ (s.huntVisitOver).groups = s.groups
    ∧ (s.huntVisitOver).call = s.call ∧ (s.huntVisitOver).recallArea = s.recallArea
    ∧ (s.huntVisitOver).host = s.host ∧ (s.huntVisitOver).pins = s.pins ∧ (s.huntVisitOver).free = s.free
    ∧ (s.huntVisitOver).pending = s.pending := by
  simp only [State.huntVisitOver]; repeat' split
  all_goals simp

@[simp] theorem State.listenFrame_frame (s : State) :
    (s.listenFrame).intake = s.intake ∧ (s.listenFrame).table = s.table
    ∧ (s.listenFrame).ranking = s.ranking ∧ (s.listenFrame).scan.huntChannels = s.scan.huntChannels
    ∧ (s.listenFrame).roam = s.roam ∧ (s.listenFrame).access = s.access ∧ (s.listenFrame).groups = s.groups
    ∧ (s.listenFrame).call = s.call ∧ (s.listenFrame).recallArea = s.recallArea
    ∧ (s.listenFrame).host = s.host ∧ (s.listenFrame).pins = s.pins ∧ (s.listenFrame).free = s.free
    ∧ (s.listenFrame).pending = s.pending := by
  unfold State.listenFrame; repeat' split <;> simp

@[simp] theorem State.directPace_frame (s : State) (listening : Bool) :
    (s.directPace listening).intake = s.intake ∧ (s.directPace listening).table = s.table ∧ (s.directPace listening).beacon = s.beacon
    ∧ (s.directPace listening).ranking = s.ranking ∧ (s.directPace listening).scan.huntChannels = s.scan.huntChannels
    ∧ (s.directPace listening).roam = s.roam ∧ (s.directPace listening).access = s.access ∧ (s.directPace listening).groups = s.groups
    ∧ (s.directPace listening).call = s.call ∧ (s.directPace listening).recallArea = s.recallArea ∧ (s.directPace listening).host = s.host
    ∧ (s.directPace listening).pins = s.pins ∧ (s.directPace listening).free = s.free ∧ (s.directPace listening).pending = s.pending := by
  unfold State.directPace; split <;> simp

@[simp] theorem State.rebuildEmpty_frame (s : State) :
    (s.rebuildEmpty).intake = s.intake ∧ (s.rebuildEmpty).table = s.table
    ∧ (s.rebuildEmpty).beacon = s.beacon ∧ (s.rebuildEmpty).ranking = s.ranking
    ∧ (s.rebuildEmpty).scan.huntChannels = s.scan.huntChannels ∧ (s.rebuildEmpty).roam = s.roam
    ∧ (s.rebuildEmpty).access = s.access ∧ (s.rebuildEmpty).groups = s.groups
    ∧ (s.rebuildEmpty).call = s.call ∧ (s.rebuildEmpty).recallArea = s.recallArea
    ∧ (s.rebuildEmpty).host = s.host ∧ (s.rebuildEmpty).pins = s.pins
    ∧ (s.rebuildEmpty).frontEnd = s.frontEnd ∧ (s.rebuildEmpty).free = s.free
    ∧ (s.rebuildEmpty).pending = s.pending := by
  unfold State.rebuildEmpty; split <;> simp

@[simp] theorem State.scanRecord_frame (s : State) (engine0 : Engine) (listening multiframe : Bool) :
    (s.scanRecord engine0 listening multiframe).intake = s.intake
    ∧ (s.scanRecord engine0 listening multiframe).table = s.table
    ∧ (s.scanRecord engine0 listening multiframe).ranking = s.ranking
    ∧ (s.scanRecord engine0 listening multiframe).scan.huntChannels = s.scan.huntChannels
    ∧ (s.scanRecord engine0 listening multiframe).roam = s.roam
    ∧ (s.scanRecord engine0 listening multiframe).access = s.access
    ∧ (s.scanRecord engine0 listening multiframe).groups = s.groups
    ∧ (s.scanRecord engine0 listening multiframe).call = s.call
    ∧ (s.scanRecord engine0 listening multiframe).recallArea = s.recallArea
    ∧ (s.scanRecord engine0 listening multiframe).host = s.host
    ∧ (s.scanRecord engine0 listening multiframe).pins = s.pins
    ∧ (s.scanRecord engine0 listening multiframe).free = s.free
    ∧ (s.scanRecord engine0 listening multiframe).pending = s.pending := by
  simp only [State.scanRecord]; repeat' split
  all_goals simp

end Sys2Proof.Machine
end

