-- ==== Sys2Proof/Laws/AccessFrame.lean ====
section
/-! SUPPORT. What the shared operations of the Access Unit leave as it was. -/

namespace Sys2Proof.Machine

@[simp] theorem State.accessIdle_frame (s : State) :
    (s.accessIdle).intake = s.intake ∧ (s.accessIdle).table = s.table ∧ (s.accessIdle).beacon = s.beacon
    ∧ (s.accessIdle).ranking = s.ranking ∧ (s.accessIdle).scan = s.scan ∧ (s.accessIdle).roam = s.roam
    ∧ (s.accessIdle).groups = s.groups ∧ (s.accessIdle).call = s.call
    ∧ (s.accessIdle).recallArea = s.recallArea ∧ (s.accessIdle).host = s.host ∧ (s.accessIdle).pins = s.pins
    ∧ (s.accessIdle).frontEnd = s.frontEnd ∧ (s.accessIdle).free = s.free
    ∧ (s.accessIdle).pending = s.pending := by
  simp [State.accessIdle]

@[simp] theorem State.abandonWork_frame (s : State) :
    (s.abandonWork).intake = s.intake ∧ (s.abandonWork).table = s.table ∧ (s.abandonWork).beacon = s.beacon
    ∧ (s.abandonWork).ranking = s.ranking ∧ (s.abandonWork).scan = s.scan ∧ (s.abandonWork).roam = s.roam
    ∧ (s.abandonWork).groups.identity = s.groups.identity ∧ (s.abandonWork).call = s.call
    ∧ (s.abandonWork).recallArea = s.recallArea ∧ (s.abandonWork).host = s.host
    ∧ (s.abandonWork).pins = s.pins ∧ (s.abandonWork).frontEnd = s.frontEnd ∧ (s.abandonWork).free = s.free
    ∧ (s.abandonWork).pending = s.pending := by
  unfold State.abandonWork; split <;> simp

@[simp] theorem State.draw_frame (s : State) :
    (s.draw).intake = s.intake ∧ (s.draw).table = s.table ∧ (s.draw).beacon = s.beacon
    ∧ (s.draw).ranking = s.ranking ∧ (s.draw).scan = s.scan ∧ (s.draw).roam = s.roam
    ∧ (s.draw).groups = s.groups ∧ (s.draw).call = s.call ∧ (s.draw).recallArea = s.recallArea
    ∧ (s.draw).host = s.host ∧ (s.draw).pins = s.pins ∧ (s.draw).frontEnd = s.frontEnd
    ∧ (s.draw).pending = s.pending := by
  unfold State.draw; split <;> simp

@[simp] theorem State.sendBurst_frame (s : State) (position : Nat) (kind : BurstKind) (carried : List Nat) (payload : List Byte) :
    (s.sendBurst position kind carried payload).intake = s.intake
    ∧ (s.sendBurst position kind carried payload).table = s.table
    ∧ (s.sendBurst position kind carried payload).beacon = s.beacon
    ∧ (s.sendBurst position kind carried payload).ranking = s.ranking
    ∧ (s.sendBurst position kind carried payload).scan = s.scan
    ∧ (s.sendBurst position kind carried payload).roam = s.roam
    ∧ (s.sendBurst position kind carried payload).groups = s.groups
    ∧ (s.sendBurst position kind carried payload).call = s.call
    ∧ (s.sendBurst position kind carried payload).recallArea = s.recallArea
    ∧ (s.sendBurst position kind carried payload).host = s.host
    ∧ (s.sendBurst position kind carried payload).pins = s.pins
    ∧ (s.sendBurst position kind carried payload).free = s.free
    ∧ (s.sendBurst position kind carried payload).pending = s.pending := by
  simp [State.sendBurst]

@[simp] theorem State.sendGroups_frame (s : State) (position : Nat) (kind : BurstKind) :
    (s.sendGroups position kind).intake = s.intake ∧ (s.sendGroups position kind).table = s.table
    ∧ (s.sendGroups position kind).beacon = s.beacon ∧ (s.sendGroups position kind).ranking = s.ranking
    ∧ (s.sendGroups position kind).scan = s.scan ∧ (s.sendGroups position kind).roam = s.roam
    ∧ (s.sendGroups position kind).groups.identity = s.groups.identity
    ∧ (s.sendGroups position kind).call = s.call ∧ (s.sendGroups position kind).recallArea = s.recallArea
    ∧ (s.sendGroups position kind).host = s.host ∧ (s.sendGroups position kind).pins = s.pins
    ∧ (s.sendGroups position kind).free = s.free ∧ (s.sendGroups position kind).pending = s.pending := by
  simp [State.sendGroups]

@[simp] theorem State.countAttempt_frame (s : State) :
    (s.countAttempt).intake = s.intake ∧ (s.countAttempt).table = s.table
    ∧ (s.countAttempt).beacon = s.beacon ∧ (s.countAttempt).ranking = s.ranking
    ∧ (s.countAttempt).scan = s.scan ∧ (s.countAttempt).roam = s.roam ∧ (s.countAttempt).groups = s.groups
    ∧ (s.countAttempt).call = s.call ∧ (s.countAttempt).recallArea = s.recallArea
    ∧ (s.countAttempt).host = s.host ∧ (s.countAttempt).pins = s.pins
    ∧ (s.countAttempt).frontEnd = s.frontEnd ∧ (s.countAttempt).free = s.free
    ∧ (s.countAttempt).pending = s.pending := by
  simp [State.countAttempt]

@[simp] theorem State.sendIfDue_frame (s : State) :
    (s.sendIfDue).intake = s.intake ∧ (s.sendIfDue).table = s.table ∧ (s.sendIfDue).beacon = s.beacon
    ∧ (s.sendIfDue).ranking = s.ranking ∧ (s.sendIfDue).scan = s.scan ∧ (s.sendIfDue).roam = s.roam
    ∧ (s.sendIfDue).groups.identity = s.groups.identity ∧ (s.sendIfDue).call = s.call
    ∧ (s.sendIfDue).recallArea = s.recallArea ∧ (s.sendIfDue).host = s.host ∧ (s.sendIfDue).pins = s.pins
    ∧ (s.sendIfDue).free = s.free ∧ (s.sendIfDue).pending = s.pending := by
  simp only [State.sendIfDue]; repeat' split
  all_goals simp

@[simp] theorem State.countSlot_frame (s : State) :
    (s.countSlot).intake = s.intake ∧ (s.countSlot).table = s.table ∧ (s.countSlot).beacon = s.beacon
    ∧ (s.countSlot).ranking = s.ranking ∧ (s.countSlot).scan = s.scan ∧ (s.countSlot).roam = s.roam
    ∧ (s.countSlot).groups = s.groups ∧ (s.countSlot).call = s.call
    ∧ (s.countSlot).recallArea = s.recallArea ∧ (s.countSlot).host = s.host ∧ (s.countSlot).pins = s.pins
    ∧ (s.countSlot).frontEnd = s.frontEnd ∧ (s.countSlot).free = s.free ∧ (s.countSlot).pending = s.pending := by
  unfold State.countSlot; repeat' split <;> simp

@[simp] theorem State.countdown_frame (s : State) :
    (s.countdown).intake = s.intake ∧ (s.countdown).table = s.table ∧ (s.countdown).beacon = s.beacon
    ∧ (s.countdown).ranking = s.ranking ∧ (s.countdown).scan = s.scan ∧ (s.countdown).roam = s.roam
    ∧ (s.countdown).groups.identity = s.groups.identity ∧ (s.countdown).call = s.call
    ∧ (s.countdown).recallArea = s.recallArea ∧ (s.countdown).host = s.host ∧ (s.countdown).pins = s.pins
    ∧ (s.countdown).free = s.free ∧ (s.countdown).pending = s.pending := by
  simp [State.countdown]

@[simp] theorem State.drawAtRecord_frame (s : State) :
    (s.drawAtRecord).intake = s.intake ∧ (s.drawAtRecord).table = s.table
    ∧ (s.drawAtRecord).beacon = s.beacon ∧ (s.drawAtRecord).ranking = s.ranking
    ∧ (s.drawAtRecord).scan = s.scan ∧ (s.drawAtRecord).roam = s.roam
    ∧ (s.drawAtRecord).groups.identity = s.groups.identity ∧ (s.drawAtRecord).call = s.call
    ∧ (s.drawAtRecord).recallArea = s.recallArea ∧ (s.drawAtRecord).host = s.host
    ∧ (s.drawAtRecord).pins = s.pins ∧ (s.drawAtRecord).pending = s.pending := by
  simp [State.drawAtRecord]

@[simp] theorem State.beginExchange_frame (s : State) (sitePosition : Option Nat) :
    (s.beginExchange sitePosition).intake = s.intake ∧ (s.beginExchange sitePosition).table = s.table
    ∧ (s.beginExchange sitePosition).beacon = s.beacon ∧ (s.beginExchange sitePosition).ranking = s.ranking
    ∧ (s.beginExchange sitePosition).scan.huntChannels = s.scan.huntChannels
    ∧ (s.beginExchange sitePosition).roam = s.roam ∧ (s.beginExchange sitePosition).groups = s.groups
    ∧ (s.beginExchange sitePosition).call = s.call
    ∧ (s.beginExchange sitePosition).recallArea = s.recallArea
    ∧ (s.beginExchange sitePosition).host = s.host ∧ (s.beginExchange sitePosition).pins = s.pins
    ∧ (s.beginExchange sitePosition).pending = s.pending := by
  simp [State.beginExchange]

@[simp] theorem State.affiliateOrIdle_frame (s : State) :
    (s.affiliateOrIdle).intake = s.intake ∧ (s.affiliateOrIdle).table = s.table
    ∧ (s.affiliateOrIdle).beacon = s.beacon ∧ (s.affiliateOrIdle).ranking = s.ranking
    ∧ (s.affiliateOrIdle).scan.huntChannels = s.scan.huntChannels ∧ (s.affiliateOrIdle).roam = s.roam
    ∧ (s.affiliateOrIdle).groups.identity = s.groups.identity ∧ (s.affiliateOrIdle).call = s.call
    ∧ (s.affiliateOrIdle).recallArea = s.recallArea ∧ (s.affiliateOrIdle).host = s.host
    ∧ (s.affiliateOrIdle).pins = s.pins ∧ (s.affiliateOrIdle).pending = s.pending := by
  unfold State.affiliateOrIdle; split <;> simp

@[simp] theorem State.afterAccept_frame (s : State) (count : Nat) :
    (s.afterAccept count).intake = s.intake ∧ (s.afterAccept count).table = s.table
    ∧ (s.afterAccept count).beacon = s.beacon ∧ (s.afterAccept count).ranking = s.ranking
    ∧ (s.afterAccept count).scan.huntChannels = s.scan.huntChannels ∧ (s.afterAccept count).roam = s.roam
    ∧ (s.afterAccept count).groups.identity = s.groups.identity ∧ (s.afterAccept count).call = s.call
    ∧ (s.afterAccept count).recallArea = s.recallArea ∧ (s.afterAccept count).host = s.host
    ∧ (s.afterAccept count).pins = s.pins ∧ (s.afterAccept count).pending = s.pending := by
  unfold State.afterAccept; split <;> simp

@[simp] theorem State.trackSite_frame (s : State) (r : Frame) (sync : Bool) :
    (s.trackSite r sync).intake = s.intake ∧ (s.trackSite r sync).table = s.table
    ∧ (s.trackSite r sync).beacon = s.beacon ∧ (s.trackSite r sync).ranking = s.ranking
    ∧ (s.trackSite r sync).scan = s.scan ∧ (s.trackSite r sync).roam = s.roam
    ∧ (s.trackSite r sync).groups = s.groups ∧ (s.trackSite r sync).call = s.call
    ∧ (s.trackSite r sync).recallArea = s.recallArea ∧ (s.trackSite r sync).host = s.host
    ∧ (s.trackSite r sync).pins = s.pins ∧ (s.trackSite r sync).frontEnd = s.frontEnd
    ∧ (s.trackSite r sync).free = s.free ∧ (s.trackSite r sync).pending = s.pending := by
  simp [State.trackSite]

@[simp] theorem State.burstLost_frame (s : State) (b : Burst) :
    (s.burstLost b).intake = s.intake ∧ (s.burstLost b).table = s.table ∧ (s.burstLost b).beacon = s.beacon
    ∧ (s.burstLost b).ranking = s.ranking ∧ (s.burstLost b).scan = s.scan ∧ (s.burstLost b).roam = s.roam
    ∧ (s.burstLost b).groups.identity = s.groups.identity ∧ (s.burstLost b).call = s.call
    ∧ (s.burstLost b).recallArea = s.recallArea ∧ (s.burstLost b).host = s.host
    ∧ (s.burstLost b).pins = s.pins ∧ (s.burstLost b).frontEnd = s.frontEnd ∧ (s.burstLost b).free = s.free
    ∧ (s.burstLost b).pending = s.pending := by
  simp [State.burstLost]

@[simp] theorem State.countCollision_frame (s : State) :
    (s.countCollision).intake = s.intake ∧ (s.countCollision).table = s.table
    ∧ (s.countCollision).beacon = s.beacon ∧ (s.countCollision).ranking = s.ranking
    ∧ (s.countCollision).scan = s.scan ∧ (s.countCollision).roam = s.roam
    ∧ (s.countCollision).groups = s.groups ∧ (s.countCollision).call = s.call
    ∧ (s.countCollision).recallArea = s.recallArea ∧ (s.countCollision).host = s.host
    ∧ (s.countCollision).pins = s.pins ∧ (s.countCollision).frontEnd = s.frontEnd
    ∧ (s.countCollision).free = s.free ∧ (s.countCollision).pending = s.pending := by
  simp [State.countCollision]

@[simp] theorem State.burstMissed_frame (s : State) (b : Burst) :
    (s.burstMissed b).intake = s.intake ∧ (s.burstMissed b).table = s.table
    ∧ (s.burstMissed b).beacon = s.beacon ∧ (s.burstMissed b).ranking = s.ranking
    ∧ (s.burstMissed b).scan = s.scan ∧ (s.burstMissed b).roam = s.roam
    ∧ (s.burstMissed b).groups.identity = s.groups.identity ∧ (s.burstMissed b).call = s.call
    ∧ (s.burstMissed b).recallArea = s.recallArea ∧ (s.burstMissed b).host = s.host
    ∧ (s.burstMissed b).pins = s.pins ∧ (s.burstMissed b).frontEnd = s.frontEnd
    ∧ (s.burstMissed b).pending = s.pending := by
  unfold State.burstMissed; split <;> simp

@[simp] theorem State.burstDone_frame (s : State) (position : Nat) (missed : Bool) :
    (s.burstDone position missed).intake = s.intake ∧ (s.burstDone position missed).table = s.table
    ∧ (s.burstDone position missed).beacon = s.beacon ∧ (s.burstDone position missed).ranking = s.ranking
    ∧ (s.burstDone position missed).scan = s.scan ∧ (s.burstDone position missed).roam = s.roam
    ∧ (s.burstDone position missed).groups.identity = s.groups.identity
    ∧ (s.burstDone position missed).call = s.call ∧ (s.burstDone position missed).recallArea = s.recallArea
    ∧ (s.burstDone position missed).host = s.host ∧ (s.burstDone position missed).pins = s.pins
    ∧ (s.burstDone position missed).frontEnd = s.frontEnd
    ∧ (s.burstDone position missed).pending = s.pending := by
  simp only [State.burstDone]; repeat' split
  all_goals simp

end Sys2Proof.Machine
end

