-- ==== Sys2Proof/Laws/SiteTableFrame.lean ====
section
/-! SUPPORT. What the operations of the Site Table leave as it was. -/

namespace Sys2Proof.Machine

@[simp] theorem State.takePair_frame (s : State) (i : Nat) (p : Pair) :
    (s.takePair i p).intake = s.intake ∧ (s.takePair i p).table.entries.length = s.table.entries.length
    ∧ (s.takePair i p).scan = s.scan ∧ (s.takePair i p).roam = s.roam ∧ (s.takePair i p).access = s.access
    ∧ (s.takePair i p).groups = s.groups ∧ (s.takePair i p).call = s.call
    ∧ (s.takePair i p).recallArea = s.recallArea ∧ (s.takePair i p).host = s.host
    ∧ (s.takePair i p).pins = s.pins ∧ (s.takePair i p).frontEnd = s.frontEnd
    ∧ (s.takePair i p).free = s.free ∧ (s.takePair i p).pending = s.pending := by
  unfold State.takePair; split <;> simp

@[simp] theorem State.loadSite_frame (s : State) (code : Nat) (p : Pair) (preference : Int) (pinned : Bool) :
    (s.loadSite code p preference pinned).1.intake = s.intake
    ∧ (s.loadSite code p preference pinned).1.table.entries.length = s.table.entries.length
    ∧ (s.loadSite code p preference pinned).1.scan.huntChannels = s.scan.huntChannels
    ∧ (s.loadSite code p preference pinned).1.roam = s.roam
    ∧ (s.loadSite code p preference pinned).1.access = s.access
    ∧ (s.loadSite code p preference pinned).1.groups = s.groups
    ∧ (s.loadSite code p preference pinned).1.call = s.call
    ∧ (s.loadSite code p preference pinned).1.recallArea = s.recallArea
    ∧ (s.loadSite code p preference pinned).1.host = s.host
    ∧ (s.loadSite code p preference pinned).1.pins = s.pins
    ∧ (s.loadSite code p preference pinned).1.frontEnd = s.frontEnd
    ∧ (s.loadSite code p preference pinned).1.free = s.free
    ∧ (s.loadSite code p preference pinned).1.pending = s.pending := by
  simp only [State.loadSite]; repeat' split
  all_goals simp

@[simp] theorem State.writeDigest_frame (s : State) (i : Nat) (d : Digest) :
    (s.writeDigest i d).intake = s.intake
    ∧ (s.writeDigest i d).table.entries.length = s.table.entries.length
    ∧ (s.writeDigest i d).beacon = s.beacon ∧ (s.writeDigest i d).ranking = s.ranking
    ∧ (s.writeDigest i d).scan = s.scan ∧ (s.writeDigest i d).roam = s.roam
    ∧ (s.writeDigest i d).access = s.access ∧ (s.writeDigest i d).groups = s.groups
    ∧ (s.writeDigest i d).call = s.call ∧ (s.writeDigest i d).recallArea = s.recallArea
    ∧ (s.writeDigest i d).host = s.host ∧ (s.writeDigest i d).pins = s.pins
    ∧ (s.writeDigest i d).frontEnd = s.frontEnd ∧ (s.writeDigest i d).free = s.free
    ∧ (s.writeDigest i d).pending = s.pending := by
  simp [State.writeDigest]

@[simp] theorem State.importItem_frame (s : State) (kept : List Nat) (item : Neighbour) :
    (s.importItem kept item).1.intake = s.intake
    ∧ (s.importItem kept item).1.table.entries.length = s.table.entries.length
    ∧ (s.importItem kept item).1.scan.huntChannels = s.scan.huntChannels ∧ (s.importItem kept item).1.roam = s.roam
    ∧ (s.importItem kept item).1.access = s.access ∧ (s.importItem kept item).1.groups = s.groups
    ∧ (s.importItem kept item).1.call = s.call ∧ (s.importItem kept item).1.recallArea = s.recallArea
    ∧ (s.importItem kept item).1.host = s.host ∧ (s.importItem kept item).1.pins = s.pins
    ∧ (s.importItem kept item).1.frontEnd = s.frontEnd ∧ (s.importItem kept item).1.free = s.free
    ∧ (s.importItem kept item).1.pending = s.pending := by
  simp only [State.importItem]; repeat' split
  all_goals simp

@[simp] theorem State.importItems_frame (s : State) (kept : List Nat) (items : List Neighbour) :
    (s.importItems kept items).intake = s.intake
    ∧ (s.importItems kept items).table.entries.length = s.table.entries.length
    ∧ (s.importItems kept items).scan.huntChannels = s.scan.huntChannels ∧ (s.importItems kept items).roam = s.roam
    ∧ (s.importItems kept items).access = s.access ∧ (s.importItems kept items).groups = s.groups
    ∧ (s.importItems kept items).call = s.call ∧ (s.importItems kept items).recallArea = s.recallArea
    ∧ (s.importItems kept items).host = s.host ∧ (s.importItems kept items).pins = s.pins
    ∧ (s.importItems kept items).frontEnd = s.frontEnd ∧ (s.importItems kept items).free = s.free
    ∧ (s.importItems kept items).pending = s.pending := by
  induction items generalizing s kept with
  | nil => simp [State.importItems]
  | cons x rest ih => simp [State.importItems, ih]

@[simp] theorem State.admitFound_frame (s : State) (code : Nat) (p : Pair) :
    (s.admitFound code p).1.intake = s.intake
    ∧ (s.admitFound code p).1.table.entries.length = s.table.entries.length
    ∧ (s.admitFound code p).1.scan.huntChannels = s.scan.huntChannels ∧ (s.admitFound code p).1.roam = s.roam
    ∧ (s.admitFound code p).1.access = s.access ∧ (s.admitFound code p).1.groups = s.groups
    ∧ (s.admitFound code p).1.call = s.call ∧ (s.admitFound code p).1.recallArea = s.recallArea
    ∧ (s.admitFound code p).1.host = s.host ∧ (s.admitFound code p).1.pins = s.pins
    ∧ (s.admitFound code p).1.frontEnd = s.frontEnd ∧ (s.admitFound code p).1.free = s.free
    ∧ (s.admitFound code p).1.pending = s.pending := by
  simp only [State.admitFound]; repeat' split
  all_goals simp

@[simp] theorem State.recallItem_frame (s : State) (kept : List Nat) (item : Site) :
    (s.recallItem kept item).1.intake = s.intake
    ∧ (s.recallItem kept item).1.table.entries.length = s.table.entries.length
    ∧ (s.recallItem kept item).1.beacon = s.beacon ∧ (s.recallItem kept item).1.ranking = s.ranking
    ∧ (s.recallItem kept item).1.scan.huntChannels = s.scan.huntChannels ∧ (s.recallItem kept item).1.roam = s.roam
    ∧ (s.recallItem kept item).1.access = s.access ∧ (s.recallItem kept item).1.groups = s.groups
    ∧ (s.recallItem kept item).1.call = s.call ∧ (s.recallItem kept item).1.recallArea = s.recallArea
    ∧ (s.recallItem kept item).1.host = s.host ∧ (s.recallItem kept item).1.pins = s.pins
    ∧ (s.recallItem kept item).1.frontEnd = s.frontEnd ∧ (s.recallItem kept item).1.free = s.free
    ∧ (s.recallItem kept item).1.pending = s.pending := by
  simp only [State.recallItem]; repeat' split
  all_goals simp

@[simp] theorem State.recallItems_frame (s : State) (kept : List Nat) (items : List Site) :
    (s.recallItems kept items).intake = s.intake
    ∧ (s.recallItems kept items).table.entries.length = s.table.entries.length
    ∧ (s.recallItems kept items).beacon = s.beacon ∧ (s.recallItems kept items).ranking = s.ranking
    ∧ (s.recallItems kept items).scan.huntChannels = s.scan.huntChannels ∧ (s.recallItems kept items).roam = s.roam
    ∧ (s.recallItems kept items).access = s.access ∧ (s.recallItems kept items).groups = s.groups
    ∧ (s.recallItems kept items).call = s.call ∧ (s.recallItems kept items).recallArea = s.recallArea
    ∧ (s.recallItems kept items).host = s.host ∧ (s.recallItems kept items).pins = s.pins
    ∧ (s.recallItems kept items).frontEnd = s.frontEnd ∧ (s.recallItems kept items).free = s.free
    ∧ (s.recallItems kept items).pending = s.pending := by
  induction items generalizing s kept with
  | nil => simp [State.recallItems]
  | cons x rest ih => simp [State.recallItems, ih]

@[simp] theorem State.freeEntry_frame (s : State) (i : Nat) :
    (s.freeEntry i).intake = s.intake ∧ (s.freeEntry i).table.entries.length = s.table.entries.length
    ∧ (s.freeEntry i).scan.huntChannels = s.scan.huntChannels ∧ (s.freeEntry i).roam = s.roam ∧ (s.freeEntry i).access = s.access
    ∧ (s.freeEntry i).groups = s.groups ∧ (s.freeEntry i).call = s.call
    ∧ (s.freeEntry i).recallArea = s.recallArea ∧ (s.freeEntry i).host = s.host
    ∧ (s.freeEntry i).pins = s.pins ∧ (s.freeEntry i).frontEnd = s.frontEnd ∧ (s.freeEntry i).free = s.free
    ∧ (s.freeEntry i).pending = s.pending := by
  simp [State.freeEntry]

/-! ## The visit in progress is all that an admission changes of the Scan Sequencer (R15) -/

theorem State.loadSite_scan (s : State) (code : Nat) (p : Pair) (preference : Int) (pinned : Bool) :
    ∃ v, (s.loadSite code p preference pinned).1.scan = { s.scan with visit := v } := by
  simp only [State.loadSite]; repeat' split
  all_goals first
    | exact ⟨_, State.replaceEntry_scan ..⟩
    | exact ⟨s.scan.visit, by simp⟩

theorem State.importItem_scan (s : State) (kept : List Nat) (item : Neighbour) :
    ∃ v, (s.importItem kept item).1.scan = { s.scan with visit := v } := by
  simp only [State.importItem]; repeat' split
  all_goals first
    | exact ⟨_, State.replaceEntry_scan ..⟩
    | exact ⟨s.scan.visit, by simp⟩

theorem State.importItems_scan (s : State) (kept : List Nat) (items : List Neighbour) :
    ∃ v, (s.importItems kept items).scan = { s.scan with visit := v } := by
  induction items generalizing s kept with
  | nil => exact ⟨s.scan.visit, rfl⟩
  | cons x rest ih =>
    obtain ⟨v, hv⟩ := ih (s.importItem kept x).1 (s.importItem kept x).2
    obtain ⟨u, hu⟩ := s.importItem_scan kept x
    exact ⟨v, by simp [State.importItems, hv, hu]⟩

theorem State.admitFound_scan (s : State) (code : Nat) (p : Pair) :
    ∃ v, (s.admitFound code p).1.scan = { s.scan with visit := v } := by
  simp only [State.admitFound]; repeat' split
  all_goals first
    | exact ⟨_, State.replaceEntry_scan ..⟩
    | exact ⟨s.scan.visit, by simp⟩

theorem State.recallItem_scan (s : State) (kept : List Nat) (item : Site) :
    ∃ v, (s.recallItem kept item).1.scan = { s.scan with visit := v } := by
  simp only [State.recallItem]; repeat' split
  all_goals first
    | exact ⟨_, State.replaceEntry_scan ..⟩
    | exact ⟨s.scan.visit, by simp⟩

theorem State.recallItems_scan (s : State) (kept : List Nat) (items : List Site) :
    ∃ v, (s.recallItems kept items).scan = { s.scan with visit := v } := by
  induction items generalizing s kept with
  | nil => exact ⟨s.scan.visit, rfl⟩
  | cons x rest ih =>
    obtain ⟨v, hv⟩ := ih (s.recallItem kept x).1 (s.recallItem kept x).2
    obtain ⟨u, hu⟩ := s.recallItem_scan kept x
    exact ⟨v, by simp [State.recallItems, hv, hu]⟩

theorem State.freeEntry_scan (s : State) (i : Nat) :
    (s.freeEntry i).scan = { s.scan with visit := s.scan.visit.map fun v => v.withoutSite (s.entry i) } := by
  simp [State.freeEntry, State.replaceEntry_scan]

@[simp] theorem State.bar_frame (s : State) (code requested : Nat) :
    (s.bar code requested).intake = s.intake
    ∧ (s.bar code requested).table.entries.length = s.table.entries.length
    ∧ (s.bar code requested).scan = s.scan ∧ (s.bar code requested).roam = s.roam
    ∧ (s.bar code requested).access = s.access ∧ (s.bar code requested).groups = s.groups
    ∧ (s.bar code requested).call = s.call ∧ (s.bar code requested).recallArea = s.recallArea
    ∧ (s.bar code requested).host = s.host ∧ (s.bar code requested).pins = s.pins
    ∧ (s.bar code requested).frontEnd = s.frontEnd ∧ (s.bar code requested).free = s.free
    ∧ (s.bar code requested).pending = s.pending := by
  unfold State.bar; repeat' split <;> simp

@[simp] theorem State.endServing_frame (s : State) (penalty : Nat) :
    (s.endServing penalty).intake = s.intake
    ∧ (s.endServing penalty).table.entries.length = s.table.entries.length
    ∧ (s.endServing penalty).beacon = s.beacon ∧ (s.endServing penalty).ranking = s.ranking
    ∧ (s.endServing penalty).scan = s.scan ∧ (s.endServing penalty).roam = s.roam
    ∧ (s.endServing penalty).access = s.access ∧ (s.endServing penalty).groups = s.groups
    ∧ (s.endServing penalty).call = s.call ∧ (s.endServing penalty).recallArea = s.recallArea
    ∧ (s.endServing penalty).host = s.host ∧ (s.endServing penalty).pins = s.pins
    ∧ (s.endServing penalty).frontEnd = s.frontEnd ∧ (s.endServing penalty).free = s.free
    ∧ (s.endServing penalty).pending = s.pending := by
  unfold State.endServing; split <;> simp

@[simp] theorem State.beginServing_frame (s : State) (i : Nat) :
    (s.beginServing i).intake = s.intake ∧ (s.beginServing i).table.entries.length = s.table.entries.length
    ∧ (s.beginServing i).beacon = s.beacon ∧ (s.beginServing i).ranking = s.ranking
    ∧ (s.beginServing i).scan = s.scan ∧ (s.beginServing i).roam = s.roam
    ∧ (s.beginServing i).access = s.access ∧ (s.beginServing i).groups = s.groups
    ∧ (s.beginServing i).call = s.call ∧ (s.beginServing i).recallArea = s.recallArea
    ∧ (s.beginServing i).host = s.host ∧ (s.beginServing i).pins = s.pins
    ∧ (s.beginServing i).frontEnd = s.frontEnd ∧ (s.beginServing i).free = s.free
    ∧ (s.beginServing i).pending = s.pending := by
  simp [State.beginServing]

@[simp] theorem State.clearAllDwell_frame (s : State) :
    (s.clearAllDwell).intake = s.intake ∧ (s.clearAllDwell).table.entries.length = s.table.entries.length
    ∧ (s.clearAllDwell).scan = s.scan ∧ (s.clearAllDwell).roam = s.roam
    ∧ (s.clearAllDwell).access = s.access ∧ (s.clearAllDwell).groups = s.groups
    ∧ (s.clearAllDwell).call = s.call ∧ (s.clearAllDwell).recallArea = s.recallArea
    ∧ (s.clearAllDwell).host = s.host ∧ (s.clearAllDwell).pins = s.pins
    ∧ (s.clearAllDwell).frontEnd = s.frontEnd ∧ (s.clearAllDwell).free = s.free
    ∧ (s.clearAllDwell).pending = s.pending := by
  simp [State.clearAllDwell]

@[simp] theorem State.ageEntry_frame (s : State) (i : Nat) :
    (s.ageEntry i).intake = s.intake ∧ (s.ageEntry i).table.entries.length = s.table.entries.length
    ∧ (s.ageEntry i).scan = s.scan ∧ (s.ageEntry i).roam = s.roam ∧ (s.ageEntry i).access = s.access
    ∧ (s.ageEntry i).groups = s.groups ∧ (s.ageEntry i).call = s.call
    ∧ (s.ageEntry i).recallArea = s.recallArea ∧ (s.ageEntry i).host = s.host ∧ (s.ageEntry i).pins = s.pins
    ∧ (s.ageEntry i).frontEnd = s.frontEnd ∧ (s.ageEntry i).free = s.free
    ∧ (s.ageEntry i).pending = s.pending := by
  simp only [State.ageEntry]; repeat' split
  all_goals simp

@[simp] theorem State.ageEntries_frame (s : State) :
    (s.ageEntries).intake = s.intake ∧ (s.ageEntries).table.entries.length = s.table.entries.length
    ∧ (s.ageEntries).scan = s.scan ∧ (s.ageEntries).roam = s.roam ∧ (s.ageEntries).access = s.access
    ∧ (s.ageEntries).groups = s.groups ∧ (s.ageEntries).call = s.call
    ∧ (s.ageEntries).recallArea = s.recallArea ∧ (s.ageEntries).host = s.host ∧ (s.ageEntries).pins = s.pins
    ∧ (s.ageEntries).frontEnd = s.frontEnd ∧ (s.ageEntries).free = s.free
    ∧ (s.ageEntries).pending = s.pending := by
  unfold State.ageEntries
  induction allIndexes generalizing s with
  | nil => simp
  | cons i rest ih => simp [ih]

@[simp] theorem State.decayTick_frame (s : State) :
    (s.decayTick).intake = s.intake ∧ (s.decayTick).table.entries.length = s.table.entries.length
    ∧ (s.decayTick).beacon = s.beacon ∧ (s.decayTick).ranking = s.ranking ∧ (s.decayTick).scan = s.scan
    ∧ (s.decayTick).roam = s.roam ∧ (s.decayTick).access = s.access ∧ (s.decayTick).groups = s.groups
    ∧ (s.decayTick).call = s.call ∧ (s.decayTick).recallArea = s.recallArea ∧ (s.decayTick).host = s.host
    ∧ (s.decayTick).pins = s.pins ∧ (s.decayTick).frontEnd = s.frontEnd ∧ (s.decayTick).free = s.free
    ∧ (s.decayTick).pending = s.pending := by
  unfold State.decayTick; split <;> simp

@[simp] theorem State.tableMultiframe_frame (s : State) :
    (s.tableMultiframe).intake = s.intake
    ∧ (s.tableMultiframe).table.entries.length = s.table.entries.length ∧ (s.tableMultiframe).scan = s.scan
    ∧ (s.tableMultiframe).roam = s.roam ∧ (s.tableMultiframe).access = s.access
    ∧ (s.tableMultiframe).groups = s.groups ∧ (s.tableMultiframe).call = s.call
    ∧ (s.tableMultiframe).recallArea = s.recallArea ∧ (s.tableMultiframe).host = s.host
    ∧ (s.tableMultiframe).pins = s.pins ∧ (s.tableMultiframe).frontEnd = s.frontEnd
    ∧ (s.tableMultiframe).free = s.free ∧ (s.tableMultiframe).pending = s.pending := by
  simp [State.tableMultiframe]

end Sys2Proof.Machine
end

