-- ==== Sys2Proof/Laws/RoamFrame.lean ====
section
/-! SUPPORT. What the operations of the Roam Engine leave as it was. -/

namespace Sys2Proof.Machine

@[simp] theorem State.enterEngine_frame (s : State) (new : Engine) (cause : EngineCause) :
    (s.enterEngine new cause).intake = s.intake ∧ (s.enterEngine new cause).table = s.table
    ∧ (s.enterEngine new cause).beacon = s.beacon ∧ (s.enterEngine new cause).ranking = s.ranking
    ∧ (s.enterEngine new cause).scan = s.scan ∧ (s.enterEngine new cause).roam.hold = s.roam.hold
    ∧ (s.enterEngine new cause).access = s.access ∧ (s.enterEngine new cause).groups = s.groups
    ∧ (s.enterEngine new cause).call = s.call ∧ (s.enterEngine new cause).recallArea = s.recallArea
    ∧ (s.enterEngine new cause).host.received = s.host.received
    ∧ (s.enterEngine new cause).host.intake = s.host.intake
    ∧ (s.enterEngine new cause).host.locked = s.host.locked
    ∧ (s.enterEngine new cause).host.active = s.host.active
    ∧ (s.enterEngine new cause).host.pendingParams = s.host.pendingParams
    ∧ (s.enterEngine new cause).host.linkError = s.host.linkError
    ∧ (s.enterEngine new cause).host.checkErrors = s.host.checkErrors
    ∧ (s.enterEngine new cause).host.resetTaken = s.host.resetTaken
    ∧ (s.enterEngine new cause).host.assembly = s.host.assembly
    ∧ (s.enterEngine new cause).pins.supply = s.pins.supply
    ∧ (s.enterEngine new cause).frontEnd = s.frontEnd ∧ (s.enterEngine new cause).free = s.free
    ∧ (s.enterEngine new cause).pending = s.pending := by
  simp [State.enterEngine]

@[simp] theorem State.enterHunt_frame (s : State) (cause : EngineCause) :
    (s.enterHunt cause).intake = s.intake ∧ (s.enterHunt cause).table = s.table
    ∧ (s.enterHunt cause).ranking = s.ranking ∧ (s.enterHunt cause).scan.huntChannels = s.scan.huntChannels
    ∧ (s.enterHunt cause).roam.hold = s.roam.hold ∧ (s.enterHunt cause).access = s.access
    ∧ (s.enterHunt cause).groups = s.groups ∧ (s.enterHunt cause).call = s.call
    ∧ (s.enterHunt cause).recallArea = s.recallArea ∧ (s.enterHunt cause).host.received = s.host.received
    ∧ (s.enterHunt cause).host.intake = s.host.intake ∧ (s.enterHunt cause).host.locked = s.host.locked
    ∧ (s.enterHunt cause).host.active = s.host.active
    ∧ (s.enterHunt cause).host.pendingParams = s.host.pendingParams
    ∧ (s.enterHunt cause).host.linkError = s.host.linkError
    ∧ (s.enterHunt cause).host.checkErrors = s.host.checkErrors
    ∧ (s.enterHunt cause).host.resetTaken = s.host.resetTaken
    ∧ (s.enterHunt cause).host.assembly = s.host.assembly ∧ (s.enterHunt cause).pins.supply = s.pins.supply
    ∧ (s.enterHunt cause).free = s.free ∧ (s.enterHunt cause).pending = s.pending := by
  simp [State.enterHunt]

@[simp] theorem State.enterDirect_frame (s : State) (cause : EngineCause) :
    (s.enterDirect cause).intake = s.intake ∧ (s.enterDirect cause).table = s.table
    ∧ (s.enterDirect cause).ranking = s.ranking
    ∧ (s.enterDirect cause).scan.huntChannels = s.scan.huntChannels
    ∧ (s.enterDirect cause).roam.hold = s.roam.hold ∧ (s.enterDirect cause).access = s.access
    ∧ (s.enterDirect cause).groups = s.groups ∧ (s.enterDirect cause).call = s.call
    ∧ (s.enterDirect cause).recallArea = s.recallArea
    ∧ (s.enterDirect cause).host.received = s.host.received
    ∧ (s.enterDirect cause).host.intake = s.host.intake ∧ (s.enterDirect cause).host.locked = s.host.locked
    ∧ (s.enterDirect cause).host.active = s.host.active
    ∧ (s.enterDirect cause).host.pendingParams = s.host.pendingParams
    ∧ (s.enterDirect cause).host.linkError = s.host.linkError
    ∧ (s.enterDirect cause).host.checkErrors = s.host.checkErrors
    ∧ (s.enterDirect cause).host.resetTaken = s.host.resetTaken
    ∧ (s.enterDirect cause).host.assembly = s.host.assembly
    ∧ (s.enterDirect cause).pins.supply = s.pins.supply ∧ (s.enterDirect cause).free = s.free
    ∧ (s.enterDirect cause).pending = s.pending := by
  simp [State.enterDirect]

@[simp] theorem State.clearCampedCounts_frame (s : State) :
    (s.clearCampedCounts).intake.queue = s.intake.queue ∧ (s.clearCampedCounts).intake.held = s.intake.held
    ∧ (s.clearCampedCounts).intake.counter = s.intake.counter
    ∧ (s.clearCampedCounts).intake.slips = s.intake.slips
    ∧ (s.clearCampedCounts).intake.lostFrames = s.intake.lostFrames
    ∧ (s.clearCampedCounts).intake.checkErrors = s.intake.checkErrors
    ∧ (s.clearCampedCounts).intake.received = s.intake.received
    ∧ (s.clearCampedCounts).intake.silenceRunning = s.intake.silenceRunning
    ∧ (s.clearCampedCounts).table = s.table ∧ (s.clearCampedCounts).beacon = s.beacon
    ∧ (s.clearCampedCounts).scan = s.scan ∧ (s.clearCampedCounts).roam = s.roam
    ∧ (s.clearCampedCounts).access = s.access ∧ (s.clearCampedCounts).groups = s.groups
    ∧ (s.clearCampedCounts).call = s.call ∧ (s.clearCampedCounts).recallArea = s.recallArea
    ∧ (s.clearCampedCounts).host = s.host ∧ (s.clearCampedCounts).pins = s.pins
    ∧ (s.clearCampedCounts).frontEnd = s.frontEnd ∧ (s.clearCampedCounts).free = s.free
    ∧ (s.clearCampedCounts).pending = s.pending := by
  simp [State.clearCampedCounts]

@[simp] theorem State.returnToCamped_frame (s : State) :
    (s.returnToCamped).intake.queue = s.intake.queue ∧ (s.returnToCamped).intake.held = s.intake.held
    ∧ (s.returnToCamped).intake.counter = s.intake.counter
    ∧ (s.returnToCamped).intake.slips = s.intake.slips
    ∧ (s.returnToCamped).intake.lostFrames = s.intake.lostFrames
    ∧ (s.returnToCamped).intake.checkErrors = s.intake.checkErrors
    ∧ (s.returnToCamped).intake.received = s.intake.received
    ∧ (s.returnToCamped).intake.silenceRunning = s.intake.silenceRunning
    ∧ (s.returnToCamped).table = s.table ∧ (s.returnToCamped).scan.huntChannels = s.scan.huntChannels
    ∧ (s.returnToCamped).roam.hold = s.roam.hold ∧ (s.returnToCamped).access = s.access
    ∧ (s.returnToCamped).groups = s.groups ∧ (s.returnToCamped).call = s.call
    ∧ (s.returnToCamped).recallArea = s.recallArea ∧ (s.returnToCamped).host.received = s.host.received
    ∧ (s.returnToCamped).host.intake = s.host.intake ∧ (s.returnToCamped).host.locked = s.host.locked
    ∧ (s.returnToCamped).host.active = s.host.active
    ∧ (s.returnToCamped).host.pendingParams = s.host.pendingParams
    ∧ (s.returnToCamped).host.linkError = s.host.linkError
    ∧ (s.returnToCamped).host.checkErrors = s.host.checkErrors
    ∧ (s.returnToCamped).host.resetTaken = s.host.resetTaken
    ∧ (s.returnToCamped).host.assembly = s.host.assembly ∧ (s.returnToCamped).pins.supply = s.pins.supply
    ∧ (s.returnToCamped).free = s.free ∧ (s.returnToCamped).pending = s.pending := by
  simp [State.returnToCamped]

@[simp] theorem State.startRegistration_frame (s : State) (i : Nat) (reason : Reason) (previous : Option Nat) (cause : EngineCause) :
    (s.startRegistration i reason previous cause).intake = s.intake
    ∧ (s.startRegistration i reason previous cause).table = s.table
    ∧ (s.startRegistration i reason previous cause).ranking = s.ranking
    ∧ (s.startRegistration i reason previous cause).scan.huntChannels = s.scan.huntChannels
    ∧ (s.startRegistration i reason previous cause).roam.hold = s.roam.hold
    ∧ (s.startRegistration i reason previous cause).groups.identity = s.groups.identity
    ∧ (s.startRegistration i reason previous cause).call = s.call
    ∧ (s.startRegistration i reason previous cause).recallArea = s.recallArea
    ∧ (s.startRegistration i reason previous cause).host.received = s.host.received
    ∧ (s.startRegistration i reason previous cause).host.intake = s.host.intake
    ∧ (s.startRegistration i reason previous cause).host.locked = s.host.locked
    ∧ (s.startRegistration i reason previous cause).host.active = s.host.active
    ∧ (s.startRegistration i reason previous cause).host.pendingParams = s.host.pendingParams
    ∧ (s.startRegistration i reason previous cause).host.linkError = s.host.linkError
    ∧ (s.startRegistration i reason previous cause).host.checkErrors = s.host.checkErrors
    ∧ (s.startRegistration i reason previous cause).host.resetTaken = s.host.resetTaken
    ∧ (s.startRegistration i reason previous cause).host.assembly = s.host.assembly
    ∧ (s.startRegistration i reason previous cause).pins.supply = s.pins.supply
    ∧ (s.startRegistration i reason previous cause).free = s.free
    ∧ (s.startRegistration i reason previous cause).pending = s.pending := by
  simp [State.startRegistration]

@[simp] theorem State.raiseLost_frame (s : State) :
    (s.raiseLost).intake.queue = s.intake.queue ∧ (s.raiseLost).intake.held = s.intake.held
    ∧ (s.raiseLost).intake.counter = s.intake.counter ∧ (s.raiseLost).intake.slips = s.intake.slips
    ∧ (s.raiseLost).intake.lostFrames = s.intake.lostFrames
    ∧ (s.raiseLost).intake.checkErrors = s.intake.checkErrors
    ∧ (s.raiseLost).intake.received = s.intake.received
    ∧ (s.raiseLost).intake.silenceRunning = s.intake.silenceRunning ∧ (s.raiseLost).table = s.table
    ∧ (s.raiseLost).beacon = s.beacon ∧ (s.raiseLost).ranking = s.ranking ∧ (s.raiseLost).scan = s.scan
    ∧ (s.raiseLost).roam = s.roam ∧ (s.raiseLost).access = s.access ∧ (s.raiseLost).groups = s.groups
    ∧ (s.raiseLost).call = s.call ∧ (s.raiseLost).recallArea = s.recallArea ∧ (s.raiseLost).host = s.host
    ∧ (s.raiseLost).pins = s.pins ∧ (s.raiseLost).frontEnd = s.frontEnd ∧ (s.raiseLost).free = s.free
    ∧ (s.raiseLost).pending = s.pending := by
  simp [State.raiseLost]

@[simp] theorem State.clearServingWork_frame (s : State) :
    (s.clearServingWork).intake = s.intake
    ∧ (s.clearServingWork).table.entries.length = s.table.entries.length
    ∧ (s.clearServingWork).scan = s.scan ∧ (s.clearServingWork).roam = s.roam
    ∧ (s.clearServingWork).access = s.access ∧ (s.clearServingWork).groups.identity = s.groups.identity
    ∧ (s.clearServingWork).call = s.call ∧ (s.clearServingWork).recallArea = s.recallArea
    ∧ (s.clearServingWork).host = s.host ∧ (s.clearServingWork).pins = s.pins
    ∧ (s.clearServingWork).frontEnd = s.frontEnd ∧ (s.clearServingWork).free = s.free
    ∧ (s.clearServingWork).pending = s.pending := by
  simp [State.clearServingWork]

@[simp] theorem State.restartHunt_frame (s : State) :
    (s.restartHunt).intake = s.intake ∧ (s.restartHunt).table = s.table ∧ (s.restartHunt).beacon = s.beacon
    ∧ (s.restartHunt).ranking = s.ranking ∧ (s.restartHunt).scan = s.scan
    ∧ (s.restartHunt).roam.hold = s.roam.hold ∧ (s.restartHunt).access = s.access
    ∧ (s.restartHunt).groups = s.groups ∧ (s.restartHunt).call = s.call
    ∧ (s.restartHunt).recallArea = s.recallArea ∧ (s.restartHunt).host = s.host
    ∧ (s.restartHunt).pins = s.pins ∧ (s.restartHunt).frontEnd = s.frontEnd ∧ (s.restartHunt).free = s.free
    ∧ (s.restartHunt).pending = s.pending := by
  simp [State.restartHunt]

@[simp] theorem State.takeLost_frame (s : State) (cause : EngineCause) :
    (s.takeLost cause).intake = s.intake ∧ (s.takeLost cause).table.entries.length = s.table.entries.length
    ∧ (s.takeLost cause).scan.huntChannels = s.scan.huntChannels
    ∧ (s.takeLost cause).roam.hold = s.roam.hold ∧ (s.takeLost cause).groups.identity = s.groups.identity
    ∧ (s.takeLost cause).call = s.call ∧ (s.takeLost cause).recallArea = s.recallArea
    ∧ (s.takeLost cause).host.received = s.host.received ∧ (s.takeLost cause).host.intake = s.host.intake
    ∧ (s.takeLost cause).host.locked = s.host.locked ∧ (s.takeLost cause).host.active = s.host.active
    ∧ (s.takeLost cause).host.pendingParams = s.host.pendingParams
    ∧ (s.takeLost cause).host.linkError = s.host.linkError
    ∧ (s.takeLost cause).host.checkErrors = s.host.checkErrors
    ∧ (s.takeLost cause).host.resetTaken = s.host.resetTaken
    ∧ (s.takeLost cause).host.assembly = s.host.assembly ∧ (s.takeLost cause).pins.supply = s.pins.supply
    ∧ (s.takeLost cause).free = s.free ∧ (s.takeLost cause).pending = s.pending := by
  unfold State.takeLost; repeat' split <;> simp

@[simp] theorem State.roamFromCamped_frame (s : State) (target : Nat) (reason : Reason) :
    (s.roamFromCamped target reason).intake = s.intake ∧ (s.roamFromCamped target reason).table = s.table
    ∧ (s.roamFromCamped target reason).ranking = s.ranking
    ∧ (s.roamFromCamped target reason).scan.huntChannels = s.scan.huntChannels
    ∧ (s.roamFromCamped target reason).roam.hold = s.roam.hold
    ∧ (s.roamFromCamped target reason).groups.identity = s.groups.identity
    ∧ (s.roamFromCamped target reason).call = s.call
    ∧ (s.roamFromCamped target reason).recallArea = s.recallArea
    ∧ (s.roamFromCamped target reason).host.received = s.host.received
    ∧ (s.roamFromCamped target reason).host.intake = s.host.intake
    ∧ (s.roamFromCamped target reason).host.locked = s.host.locked
    ∧ (s.roamFromCamped target reason).host.active = s.host.active
    ∧ (s.roamFromCamped target reason).host.pendingParams = s.host.pendingParams
    ∧ (s.roamFromCamped target reason).host.linkError = s.host.linkError
    ∧ (s.roamFromCamped target reason).host.checkErrors = s.host.checkErrors
    ∧ (s.roamFromCamped target reason).host.resetTaken = s.host.resetTaken
    ∧ (s.roamFromCamped target reason).host.assembly = s.host.assembly
    ∧ (s.roamFromCamped target reason).pins.supply = s.pins.supply
    ∧ (s.roamFromCamped target reason).free = s.free ∧ (s.roamFromCamped target reason).pending = s.pending := by
  unfold State.roamFromCamped; split <;> simp

@[simp] theorem State.takeTrigger_frame (s : State) (t : Trigger) :
    (s.takeTrigger t).intake = s.intake ∧ (s.takeTrigger t).table = s.table
    ∧ (s.takeTrigger t).ranking = s.ranking ∧ (s.takeTrigger t).scan.huntChannels = s.scan.huntChannels
    ∧ (s.takeTrigger t).roam.hold = s.roam.hold ∧ (s.takeTrigger t).groups.identity = s.groups.identity
    ∧ (s.takeTrigger t).call = s.call ∧ (s.takeTrigger t).recallArea = s.recallArea
    ∧ (s.takeTrigger t).host.received = s.host.received ∧ (s.takeTrigger t).host.intake = s.host.intake
    ∧ (s.takeTrigger t).host.locked = s.host.locked ∧ (s.takeTrigger t).host.active = s.host.active
    ∧ (s.takeTrigger t).host.pendingParams = s.host.pendingParams
    ∧ (s.takeTrigger t).host.linkError = s.host.linkError
    ∧ (s.takeTrigger t).host.checkErrors = s.host.checkErrors
    ∧ (s.takeTrigger t).host.resetTaken = s.host.resetTaken
    ∧ (s.takeTrigger t).host.assembly = s.host.assembly ∧ (s.takeTrigger t).pins.supply = s.pins.supply
    ∧ (s.takeTrigger t).free = s.free ∧ (s.takeTrigger t).pending = s.pending := by
  simp only [State.takeTrigger]; repeat' split
  all_goals simp

@[simp] theorem State.moveWatchStore_frame (s : State) :
    (s.moveWatchStore).intake = s.intake ∧ (s.moveWatchStore).table = s.table
    ∧ (s.moveWatchStore).ranking = s.ranking ∧ (s.moveWatchStore).scan = s.scan
    ∧ (s.moveWatchStore).roam = s.roam ∧ (s.moveWatchStore).access = s.access
    ∧ (s.moveWatchStore).groups = s.groups ∧ (s.moveWatchStore).call = s.call
    ∧ (s.moveWatchStore).recallArea = s.recallArea ∧ (s.moveWatchStore).host = s.host
    ∧ (s.moveWatchStore).pins = s.pins ∧ (s.moveWatchStore).frontEnd = s.frontEnd
    ∧ (s.moveWatchStore).free = s.free ∧ (s.moveWatchStore).pending = s.pending := by
  simp [State.moveWatchStore]

@[simp] theorem State.clearRoam_frame (s : State) :
    (s.clearRoam).intake = s.intake ∧ (s.clearRoam).table = s.table ∧ (s.clearRoam).beacon = s.beacon
    ∧ (s.clearRoam).ranking = s.ranking ∧ (s.clearRoam).scan = s.scan
    ∧ (s.clearRoam).roam.hold = s.roam.hold ∧ (s.clearRoam).access = s.access
    ∧ (s.clearRoam).groups = s.groups ∧ (s.clearRoam).call = s.call
    ∧ (s.clearRoam).recallArea = s.recallArea ∧ (s.clearRoam).host = s.host ∧ (s.clearRoam).pins = s.pins
    ∧ (s.clearRoam).frontEnd = s.frontEnd ∧ (s.clearRoam).free = s.free ∧ (s.clearRoam).pending = s.pending := by
  simp [State.clearRoam]

@[simp] theorem State.leaveRegistering_frame (s : State) :
    (s.leaveRegistering).intake.queue = s.intake.queue ∧ (s.leaveRegistering).intake.held = s.intake.held
    ∧ (s.leaveRegistering).intake.counter = s.intake.counter
    ∧ (s.leaveRegistering).intake.slips = s.intake.slips
    ∧ (s.leaveRegistering).intake.lostFrames = s.intake.lostFrames
    ∧ (s.leaveRegistering).intake.checkErrors = s.intake.checkErrors
    ∧ (s.leaveRegistering).intake.received = s.intake.received
    ∧ (s.leaveRegistering).intake.silenceRunning = s.intake.silenceRunning
    ∧ (s.leaveRegistering).table = s.table ∧ (s.leaveRegistering).scan.huntChannels = s.scan.huntChannels
    ∧ (s.leaveRegistering).roam.hold = s.roam.hold ∧ (s.leaveRegistering).access = s.access
    ∧ (s.leaveRegistering).groups = s.groups ∧ (s.leaveRegistering).call = s.call
    ∧ (s.leaveRegistering).recallArea = s.recallArea ∧ (s.leaveRegistering).host.received = s.host.received
    ∧ (s.leaveRegistering).host.intake = s.host.intake ∧ (s.leaveRegistering).host.locked = s.host.locked
    ∧ (s.leaveRegistering).host.active = s.host.active
    ∧ (s.leaveRegistering).host.pendingParams = s.host.pendingParams
    ∧ (s.leaveRegistering).host.linkError = s.host.linkError
    ∧ (s.leaveRegistering).host.checkErrors = s.host.checkErrors
    ∧ (s.leaveRegistering).host.resetTaken = s.host.resetTaken
    ∧ (s.leaveRegistering).host.assembly = s.host.assembly
    ∧ (s.leaveRegistering).pins.supply = s.pins.supply ∧ (s.leaveRegistering).free = s.free
    ∧ (s.leaveRegistering).pending = s.pending := by
  simp only [State.leaveRegistering]; repeat' split
  all_goals simp

@[simp] theorem State.demoteTarget_frame (s : State) (cause : FailureCause) (target : Option Nat) :
    (s.demoteTarget cause target).intake = s.intake
    ∧ (s.demoteTarget cause target).table.entries.length = s.table.entries.length
    ∧ (s.demoteTarget cause target).scan = s.scan ∧ (s.demoteTarget cause target).roam = s.roam
    ∧ (s.demoteTarget cause target).access = s.access ∧ (s.demoteTarget cause target).groups = s.groups
    ∧ (s.demoteTarget cause target).call = s.call ∧ (s.demoteTarget cause target).recallArea = s.recallArea
    ∧ (s.demoteTarget cause target).host = s.host ∧ (s.demoteTarget cause target).pins = s.pins
    ∧ (s.demoteTarget cause target).frontEnd = s.frontEnd ∧ (s.demoteTarget cause target).free = s.free
    ∧ (s.demoteTarget cause target).pending = s.pending := by
  unfold State.demoteTarget; split <;> simp

@[simp] theorem State.failRoam_frame (s : State) (cause : FailureCause) (bar : Option Nat) :
    (s.failRoam cause bar).intake.queue = s.intake.queue
    ∧ (s.failRoam cause bar).intake.held = s.intake.held
    ∧ (s.failRoam cause bar).intake.counter = s.intake.counter
    ∧ (s.failRoam cause bar).intake.slips = s.intake.slips
    ∧ (s.failRoam cause bar).intake.lostFrames = s.intake.lostFrames
    ∧ (s.failRoam cause bar).intake.checkErrors = s.intake.checkErrors
    ∧ (s.failRoam cause bar).intake.received = s.intake.received
    ∧ (s.failRoam cause bar).intake.silenceRunning = s.intake.silenceRunning
    ∧ (s.failRoam cause bar).table.entries.length = s.table.entries.length
    ∧ (s.failRoam cause bar).scan.huntChannels = s.scan.huntChannels
    ∧ (s.failRoam cause bar).roam.hold = s.roam.hold ∧ (s.failRoam cause bar).groups = s.groups
    ∧ (s.failRoam cause bar).call = s.call ∧ (s.failRoam cause bar).recallArea = s.recallArea
    ∧ (s.failRoam cause bar).host.received = s.host.received
    ∧ (s.failRoam cause bar).host.intake = s.host.intake
    ∧ (s.failRoam cause bar).host.locked = s.host.locked
    ∧ (s.failRoam cause bar).host.active = s.host.active
    ∧ (s.failRoam cause bar).host.pendingParams = s.host.pendingParams
    ∧ (s.failRoam cause bar).host.linkError = s.host.linkError
    ∧ (s.failRoam cause bar).host.checkErrors = s.host.checkErrors
    ∧ (s.failRoam cause bar).host.resetTaken = s.host.resetTaken
    ∧ (s.failRoam cause bar).host.assembly = s.host.assembly
    ∧ (s.failRoam cause bar).pins.supply = s.pins.supply ∧ (s.failRoam cause bar).free = s.free
    ∧ (s.failRoam cause bar).pending = s.pending := by
  unfold State.failRoam; split <;> simp

@[simp] theorem State.huntTick_frame (s : State) :
    (s.huntTick).intake = s.intake ∧ (s.huntTick).table = s.table ∧ (s.huntTick).ranking = s.ranking
    ∧ (s.huntTick).scan.huntChannels = s.scan.huntChannels ∧ (s.huntTick).roam.hold = s.roam.hold
    ∧ (s.huntTick).access = s.access ∧ (s.huntTick).groups = s.groups ∧ (s.huntTick).call = s.call
    ∧ (s.huntTick).recallArea = s.recallArea ∧ (s.huntTick).host.received = s.host.received
    ∧ (s.huntTick).host.intake = s.host.intake ∧ (s.huntTick).host.locked = s.host.locked
    ∧ (s.huntTick).host.active = s.host.active ∧ (s.huntTick).host.pendingParams = s.host.pendingParams
    ∧ (s.huntTick).host.linkError = s.host.linkError ∧ (s.huntTick).host.checkErrors = s.host.checkErrors
    ∧ (s.huntTick).host.resetTaken = s.host.resetTaken ∧ (s.huntTick).host.assembly = s.host.assembly
    ∧ (s.huntTick).pins.supply = s.pins.supply ∧ (s.huntTick).free = s.free
    ∧ (s.huntTick).pending = s.pending := by
  unfold State.huntTick; repeat' split <;> simp

@[simp] theorem State.startEngine_frame (s : State) :
    (s.startEngine).intake = s.intake ∧ (s.startEngine).table.entries.length = s.table.entries.length
    ∧ (s.startEngine).ranking = s.ranking ∧ (s.startEngine).scan.huntChannels = s.scan.huntChannels
    ∧ (s.startEngine).roam.hold = s.roam.hold ∧ (s.startEngine).access = s.access
    ∧ (s.startEngine).groups = s.groups ∧ (s.startEngine).call = s.call
    ∧ (s.startEngine).recallArea = s.recallArea ∧ (s.startEngine).host.received = s.host.received
    ∧ (s.startEngine).host.intake = s.host.intake ∧ (s.startEngine).host.locked = s.host.locked
    ∧ (s.startEngine).host.active = s.host.active
    ∧ (s.startEngine).host.pendingParams = s.host.pendingParams
    ∧ (s.startEngine).host.linkError = s.host.linkError
    ∧ (s.startEngine).host.checkErrors = s.host.checkErrors
    ∧ (s.startEngine).host.resetTaken = s.host.resetTaken ∧ (s.startEngine).host.assembly = s.host.assembly
    ∧ (s.startEngine).pins.supply = s.pins.supply ∧ (s.startEngine).free = s.free
    ∧ (s.startEngine).pending = s.pending := by
  simp [State.startEngine]

@[simp] theorem State.stopEngine_frame (s : State) :
    (s.stopEngine).intake = s.intake ∧ (s.stopEngine).table.entries.length = s.table.entries.length
    ∧ (s.stopEngine).scan.huntChannels = s.scan.huntChannels ∧ (s.stopEngine).roam.hold = s.roam.hold
    ∧ (s.stopEngine).groups.identity = s.groups.identity ∧ (s.stopEngine).call = s.call
    ∧ (s.stopEngine).recallArea = s.recallArea ∧ (s.stopEngine).host.received = s.host.received
    ∧ (s.stopEngine).host.intake = s.host.intake ∧ (s.stopEngine).host.locked = s.host.locked
    ∧ (s.stopEngine).host.active = s.host.active ∧ (s.stopEngine).host.pendingParams = s.host.pendingParams
    ∧ (s.stopEngine).host.linkError = s.host.linkError
    ∧ (s.stopEngine).host.checkErrors = s.host.checkErrors
    ∧ (s.stopEngine).host.resetTaken = s.host.resetTaken ∧ (s.stopEngine).host.assembly = s.host.assembly
    ∧ (s.stopEngine).pins.supply = s.pins.supply ∧ (s.stopEngine).frontEnd = s.frontEnd
    ∧ (s.stopEngine).free = s.free ∧ (s.stopEngine).pending = s.pending := by
  simp [State.stopEngine]

end Sys2Proof.Machine
end

