-- ==== Sys2Proof/Laws/AcceptFrame.lean ====
section
/-! SUPPORT. What the triggers, MOVE, hunt acceptance and ACCEPT leave as it was. -/

namespace Sys2Proof.Machine

@[simp] theorem State.takeTriggers_frame (s : State) (ts : List Trigger) :
    (s.takeTriggers ts).intake = s.intake ∧ (s.takeTriggers ts).table = s.table
    ∧ (s.takeTriggers ts).ranking = s.ranking ∧ (s.takeTriggers ts).scan.huntChannels = s.scan.huntChannels
    ∧ (s.takeTriggers ts).roam.hold = s.roam.hold ∧ (s.takeTriggers ts).groups.identity = s.groups.identity
    ∧ (s.takeTriggers ts).call = s.call ∧ (s.takeTriggers ts).recallArea = s.recallArea
    ∧ (s.takeTriggers ts).host.received = s.host.received ∧ (s.takeTriggers ts).host.intake = s.host.intake
    ∧ (s.takeTriggers ts).host.locked = s.host.locked ∧ (s.takeTriggers ts).host.active = s.host.active
    ∧ (s.takeTriggers ts).host.pendingParams = s.host.pendingParams
    ∧ (s.takeTriggers ts).host.linkError = s.host.linkError
    ∧ (s.takeTriggers ts).host.checkErrors = s.host.checkErrors
    ∧ (s.takeTriggers ts).host.resetTaken = s.host.resetTaken
    ∧ (s.takeTriggers ts).host.assembly = s.host.assembly ∧ (s.takeTriggers ts).pins.supply = s.pins.supply
    ∧ (s.takeTriggers ts).free = s.free ∧ (s.takeTriggers ts).pending = s.pending := by
  unfold State.takeTriggers
  induction ts generalizing s with
  | nil => simp
  | cons t rest ih => simp [ih]

@[simp] theorem State.takeMove_frame (s : State) (code : Nat) (p : Pair) :
    (s.takeMove code p).intake = s.intake
    ∧ (s.takeMove code p).table.entries.length = s.table.entries.length
    ∧ (s.takeMove code p).scan.huntChannels = s.scan.huntChannels
    ∧ (s.takeMove code p).roam.hold = s.roam.hold ∧ (s.takeMove code p).groups.identity = s.groups.identity
    ∧ (s.takeMove code p).call = s.call ∧ (s.takeMove code p).recallArea = s.recallArea
    ∧ (s.takeMove code p).host.received = s.host.received ∧ (s.takeMove code p).host.intake = s.host.intake
    ∧ (s.takeMove code p).host.locked = s.host.locked ∧ (s.takeMove code p).host.active = s.host.active
    ∧ (s.takeMove code p).host.pendingParams = s.host.pendingParams
    ∧ (s.takeMove code p).host.linkError = s.host.linkError
    ∧ (s.takeMove code p).host.checkErrors = s.host.checkErrors
    ∧ (s.takeMove code p).host.resetTaken = s.host.resetTaken
    ∧ (s.takeMove code p).host.assembly = s.host.assembly ∧ (s.takeMove code p).pins.supply = s.pins.supply
    ∧ (s.takeMove code p).free = s.free ∧ (s.takeMove code p).pending = s.pending := by
  have h := State.admitFound_frame s code p
  unfold State.takeMove
  split
  · generalize s.admitFound code p = r at h ⊢
    obtain ⟨s1, a⟩ := r
    simp only at h
    cases a with
    | admitted i => dsimp only; split <;> [skip; split] <;> simp [h]
    | conflict => simp [h]
    | full => simp [h]
  · simp

@[simp] theorem State.huntAccept_frame (s : State) (b : Summary) (l : Listen) :
    (s.huntAccept b l).intake = s.intake ∧ (s.huntAccept b l).table.entries.length = s.table.entries.length
    ∧ (s.huntAccept b l).scan.huntChannels = s.scan.huntChannels
    ∧ (s.huntAccept b l).roam.hold = s.roam.hold ∧ (s.huntAccept b l).groups.identity = s.groups.identity
    ∧ (s.huntAccept b l).call = s.call ∧ (s.huntAccept b l).recallArea = s.recallArea
    ∧ (s.huntAccept b l).host.received = s.host.received ∧ (s.huntAccept b l).host.intake = s.host.intake
    ∧ (s.huntAccept b l).host.locked = s.host.locked ∧ (s.huntAccept b l).host.active = s.host.active
    ∧ (s.huntAccept b l).host.pendingParams = s.host.pendingParams
    ∧ (s.huntAccept b l).host.linkError = s.host.linkError
    ∧ (s.huntAccept b l).host.checkErrors = s.host.checkErrors
    ∧ (s.huntAccept b l).host.resetTaken = s.host.resetTaken
    ∧ (s.huntAccept b l).host.assembly = s.host.assembly ∧ (s.huntAccept b l).pins.supply = s.pins.supply
    ∧ (s.huntAccept b l).free = s.free ∧ (s.huntAccept b l).pending = s.pending := by
  have h := State.admitFound_frame s b.code { channel := l.channel, colour := l.colour }
  unfold State.huntAccept
  dsimp only
  generalize s.admitFound b.code { channel := l.channel, colour := l.colour } = r at h ⊢
  obtain ⟨s1, a⟩ := r
  simp only at h
  repeat' split
  all_goals simp_all

@[simp] theorem State.acceptRoam_frame (s : State) (count : Nat) :
    (s.acceptRoam count).intake.queue = s.intake.queue ∧ (s.acceptRoam count).intake.held = s.intake.held
    ∧ (s.acceptRoam count).intake.counter = s.intake.counter
    ∧ (s.acceptRoam count).intake.slips = s.intake.slips
    ∧ (s.acceptRoam count).intake.lostFrames = s.intake.lostFrames
    ∧ (s.acceptRoam count).intake.checkErrors = s.intake.checkErrors
    ∧ (s.acceptRoam count).intake.received = s.intake.received
    ∧ (s.acceptRoam count).intake.silenceRunning = s.intake.silenceRunning
    ∧ (s.acceptRoam count).table.entries.length = s.table.entries.length
    ∧ (s.acceptRoam count).scan.huntChannels = s.scan.huntChannels
    ∧ (s.acceptRoam count).roam.hold = s.roam.hold
    ∧ (s.acceptRoam count).groups.identity = s.groups.identity ∧ (s.acceptRoam count).call = s.call
    ∧ (s.acceptRoam count).recallArea.list = s.recallArea.list
    ∧ (s.acceptRoam count).host.received = s.host.received
    ∧ (s.acceptRoam count).host.intake = s.host.intake ∧ (s.acceptRoam count).host.locked = s.host.locked
    ∧ (s.acceptRoam count).host.active = s.host.active
    ∧ (s.acceptRoam count).host.pendingParams = s.host.pendingParams
    ∧ (s.acceptRoam count).host.linkError = s.host.linkError
    ∧ (s.acceptRoam count).host.checkErrors = s.host.checkErrors
    ∧ (s.acceptRoam count).host.resetTaken = s.host.resetTaken
    ∧ (s.acceptRoam count).host.assembly = s.host.assembly
    ∧ (s.acceptRoam count).pins.supply = s.pins.supply ∧ (s.acceptRoam count).pending = s.pending := by
  unfold State.acceptRoam
  split
  · simp
  · simp

end Sys2Proof.Machine
end

