-- ==== Sys2Proof/Laws/BeaconFrame.lean ====
section
/-! SUPPORT. What the operations of the Beacon Assembler leave as it was. -/

namespace Sys2Proof.Machine

@[simp] theorem State.countFailure_frame (s : State) :
    (s.countFailure).intake = s.intake ∧ (s.countFailure).table = s.table
    ∧ (s.countFailure).ranking = s.ranking ∧ (s.countFailure).scan = s.scan ∧ (s.countFailure).roam = s.roam
    ∧ (s.countFailure).access = s.access ∧ (s.countFailure).groups = s.groups
    ∧ (s.countFailure).call = s.call ∧ (s.countFailure).recallArea = s.recallArea
    ∧ (s.countFailure).host = s.host ∧ (s.countFailure).pins = s.pins
    ∧ (s.countFailure).frontEnd = s.frontEnd ∧ (s.countFailure).free = s.free
    ∧ (s.countFailure).pending = s.pending := by
  simp [State.countFailure]

@[simp] theorem State.setServingStore_frame (s : State) (st : Store) :
    (s.setServingStore st).intake = s.intake ∧ (s.setServingStore st).table = s.table
    ∧ (s.setServingStore st).ranking = s.ranking ∧ (s.setServingStore st).scan = s.scan
    ∧ (s.setServingStore st).roam = s.roam ∧ (s.setServingStore st).access = s.access
    ∧ (s.setServingStore st).groups = s.groups ∧ (s.setServingStore st).call = s.call
    ∧ (s.setServingStore st).recallArea = s.recallArea ∧ (s.setServingStore st).host = s.host
    ∧ (s.setServingStore st).pins = s.pins ∧ (s.setServingStore st).frontEnd = s.frontEnd
    ∧ (s.setServingStore st).free = s.free ∧ (s.setServingStore st).pending = s.pending := by
  simp [State.setServingStore]

@[simp] theorem State.setWatchStore_frame (s : State) (st : Store) :
    (s.setWatchStore st).intake = s.intake ∧ (s.setWatchStore st).table = s.table
    ∧ (s.setWatchStore st).ranking = s.ranking ∧ (s.setWatchStore st).scan = s.scan
    ∧ (s.setWatchStore st).roam = s.roam ∧ (s.setWatchStore st).access = s.access
    ∧ (s.setWatchStore st).groups = s.groups ∧ (s.setWatchStore st).call = s.call
    ∧ (s.setWatchStore st).recallArea = s.recallArea ∧ (s.setWatchStore st).host = s.host
    ∧ (s.setWatchStore st).pins = s.pins ∧ (s.setWatchStore st).frontEnd = s.frontEnd
    ∧ (s.setWatchStore st).free = s.free ∧ (s.setWatchStore st).pending = s.pending := by
  simp [State.setWatchStore]

@[simp] theorem State.compareServing_frame (s : State) (i : Nat) (b : Summary) :
    (s.compareServing i b).intake = s.intake ∧ (s.compareServing i b).table = s.table
    ∧ (s.compareServing i b).ranking = s.ranking ∧ (s.compareServing i b).scan = s.scan
    ∧ (s.compareServing i b).roam = s.roam ∧ (s.compareServing i b).access = s.access
    ∧ (s.compareServing i b).groups = s.groups ∧ (s.compareServing i b).call = s.call
    ∧ (s.compareServing i b).recallArea = s.recallArea
    ∧ (s.compareServing i b).host.received = s.host.received
    ∧ (s.compareServing i b).host.intake = s.host.intake
    ∧ (s.compareServing i b).host.locked = s.host.locked
    ∧ (s.compareServing i b).host.active = s.host.active
    ∧ (s.compareServing i b).host.pendingParams = s.host.pendingParams
    ∧ (s.compareServing i b).host.linkError = s.host.linkError
    ∧ (s.compareServing i b).host.checkErrors = s.host.checkErrors
    ∧ (s.compareServing i b).host.resetTaken = s.host.resetTaken
    ∧ (s.compareServing i b).host.assembly = s.host.assembly ∧ (s.compareServing i b).pins = s.pins
    ∧ (s.compareServing i b).frontEnd = s.frontEnd ∧ (s.compareServing i b).free = s.free
    ∧ (s.compareServing i b).pending = s.pending := by
  unfold State.compareServing; repeat' split <;> simp

@[simp] theorem State.acceptServing_frame (s : State) (i : Nat) (b : Summary) (neighbours : List Neighbour) :
    (s.acceptServing i b neighbours).intake = s.intake
    ∧ (s.acceptServing i b neighbours).table.entries.length = s.table.entries.length
    ∧ (s.acceptServing i b neighbours).scan.huntChannels = s.scan.huntChannels ∧ (s.acceptServing i b neighbours).roam = s.roam
    ∧ (s.acceptServing i b neighbours).access = s.access
    ∧ (s.acceptServing i b neighbours).groups = s.groups ∧ (s.acceptServing i b neighbours).call = s.call
    ∧ (s.acceptServing i b neighbours).recallArea = s.recallArea
    ∧ (s.acceptServing i b neighbours).host.received = s.host.received
    ∧ (s.acceptServing i b neighbours).host.intake = s.host.intake
    ∧ (s.acceptServing i b neighbours).host.locked = s.host.locked
    ∧ (s.acceptServing i b neighbours).host.active = s.host.active
    ∧ (s.acceptServing i b neighbours).host.pendingParams = s.host.pendingParams
    ∧ (s.acceptServing i b neighbours).host.linkError = s.host.linkError
    ∧ (s.acceptServing i b neighbours).host.checkErrors = s.host.checkErrors
    ∧ (s.acceptServing i b neighbours).host.resetTaken = s.host.resetTaken
    ∧ (s.acceptServing i b neighbours).host.assembly = s.host.assembly
    ∧ (s.acceptServing i b neighbours).pins = s.pins
    ∧ (s.acceptServing i b neighbours).frontEnd = s.frontEnd
    ∧ (s.acceptServing i b neighbours).free = s.free ∧ (s.acceptServing i b neighbours).pending = s.pending := by
  unfold State.acceptServing
  simp

@[simp] theorem State.servingFragment_frame (s : State) (i position : Nat) (f : Fragment) :
    (s.servingFragment i position f).1.intake.queue = s.intake.queue
    ∧ (s.servingFragment i position f).1.intake.held = s.intake.held
    ∧ (s.servingFragment i position f).1.intake.counter = s.intake.counter
    ∧ (s.servingFragment i position f).1.intake.slips = s.intake.slips
    ∧ (s.servingFragment i position f).1.intake.lostFrames = s.intake.lostFrames
    ∧ (s.servingFragment i position f).1.intake.checkErrors = s.intake.checkErrors
    ∧ (s.servingFragment i position f).1.intake.received = s.intake.received
    ∧ (s.servingFragment i position f).1.intake.silenceRunning = s.intake.silenceRunning
    ∧ (s.servingFragment i position f).1.table.entries.length = s.table.entries.length
    ∧ (s.servingFragment i position f).1.scan.huntChannels = s.scan.huntChannels ∧ (s.servingFragment i position f).1.roam = s.roam
    ∧ (s.servingFragment i position f).1.access = s.access
    ∧ (s.servingFragment i position f).1.groups = s.groups
    ∧ (s.servingFragment i position f).1.call = s.call
    ∧ (s.servingFragment i position f).1.recallArea = s.recallArea
    ∧ (s.servingFragment i position f).1.host.received = s.host.received
    ∧ (s.servingFragment i position f).1.host.intake = s.host.intake
    ∧ (s.servingFragment i position f).1.host.locked = s.host.locked
    ∧ (s.servingFragment i position f).1.host.active = s.host.active
    ∧ (s.servingFragment i position f).1.host.pendingParams = s.host.pendingParams
    ∧ (s.servingFragment i position f).1.host.linkError = s.host.linkError
    ∧ (s.servingFragment i position f).1.host.checkErrors = s.host.checkErrors
    ∧ (s.servingFragment i position f).1.host.resetTaken = s.host.resetTaken
    ∧ (s.servingFragment i position f).1.host.assembly = s.host.assembly
    ∧ (s.servingFragment i position f).1.pins = s.pins
    ∧ (s.servingFragment i position f).1.frontEnd = s.frontEnd
    ∧ (s.servingFragment i position f).1.free = s.free
    ∧ (s.servingFragment i position f).1.pending = s.pending := by
  simp only [State.servingFragment]; repeat' split
  all_goals simp

@[simp] theorem State.watchAccepted_frame (s : State) (b : Summary) :
    (s.watchAccepted b).intake = s.intake
    ∧ (s.watchAccepted b).table.entries.length = s.table.entries.length ∧ (s.watchAccepted b).scan = s.scan
    ∧ (s.watchAccepted b).roam = s.roam ∧ (s.watchAccepted b).access = s.access
    ∧ (s.watchAccepted b).groups = s.groups ∧ (s.watchAccepted b).call = s.call
    ∧ (s.watchAccepted b).recallArea = s.recallArea ∧ (s.watchAccepted b).host = s.host
    ∧ (s.watchAccepted b).pins = s.pins ∧ (s.watchAccepted b).frontEnd = s.frontEnd
    ∧ (s.watchAccepted b).free = s.free ∧ (s.watchAccepted b).pending = s.pending := by
  simp only [State.watchAccepted]; repeat' split
  all_goals simp

@[simp] theorem State.targetAccepted_frame (s : State) (b : Summary) :
    (s.targetAccepted b).intake = s.intake
    ∧ (s.targetAccepted b).table.entries.length = s.table.entries.length
    ∧ (s.targetAccepted b).beacon = s.beacon ∧ (s.targetAccepted b).ranking = s.ranking
    ∧ (s.targetAccepted b).scan = s.scan ∧ (s.targetAccepted b).roam = s.roam
    ∧ (s.targetAccepted b).access = s.access ∧ (s.targetAccepted b).groups = s.groups
    ∧ (s.targetAccepted b).call = s.call ∧ (s.targetAccepted b).recallArea = s.recallArea
    ∧ (s.targetAccepted b).host = s.host ∧ (s.targetAccepted b).pins = s.pins
    ∧ (s.targetAccepted b).frontEnd = s.frontEnd ∧ (s.targetAccepted b).free = s.free
    ∧ (s.targetAccepted b).pending = s.pending := by
  simp only [State.targetAccepted]; repeat' split
  all_goals simp

@[simp] theorem State.acceptWatch_frame (s : State) (b : Summary) :
    (s.acceptWatch b).1.intake.queue = s.intake.queue ∧ (s.acceptWatch b).1.intake.held = s.intake.held
    ∧ (s.acceptWatch b).1.intake.counter = s.intake.counter
    ∧ (s.acceptWatch b).1.intake.slips = s.intake.slips
    ∧ (s.acceptWatch b).1.intake.lostFrames = s.intake.lostFrames
    ∧ (s.acceptWatch b).1.intake.checkErrors = s.intake.checkErrors
    ∧ (s.acceptWatch b).1.intake.received = s.intake.received
    ∧ (s.acceptWatch b).1.intake.silenceRunning = s.intake.silenceRunning
    ∧ (s.acceptWatch b).1.table.entries.length = s.table.entries.length
    ∧ (s.acceptWatch b).1.scan.huntChannels = s.scan.huntChannels
    ∧ (s.acceptWatch b).1.roam.hold = s.roam.hold ∧ (s.acceptWatch b).1.groups.identity = s.groups.identity
    ∧ (s.acceptWatch b).1.call = s.call ∧ (s.acceptWatch b).1.recallArea.list = s.recallArea.list
    ∧ (s.acceptWatch b).1.host.received = s.host.received ∧ (s.acceptWatch b).1.host.intake = s.host.intake
    ∧ (s.acceptWatch b).1.host.locked = s.host.locked ∧ (s.acceptWatch b).1.host.active = s.host.active
    ∧ (s.acceptWatch b).1.host.pendingParams = s.host.pendingParams
    ∧ (s.acceptWatch b).1.host.linkError = s.host.linkError
    ∧ (s.acceptWatch b).1.host.checkErrors = s.host.checkErrors
    ∧ (s.acceptWatch b).1.host.resetTaken = s.host.resetTaken
    ∧ (s.acceptWatch b).1.host.assembly = s.host.assembly ∧ (s.acceptWatch b).1.pins.supply = s.pins.supply
    ∧ (s.acceptWatch b).1.pending = s.pending := by
  simp only [State.acceptWatch]; repeat' split
  all_goals simp

@[simp] theorem State.watchFragment_frame (s : State) (position : Nat) (f : Fragment) :
    (s.watchFragment position f).1.intake.queue = s.intake.queue
    ∧ (s.watchFragment position f).1.intake.held = s.intake.held
    ∧ (s.watchFragment position f).1.intake.counter = s.intake.counter
    ∧ (s.watchFragment position f).1.intake.slips = s.intake.slips
    ∧ (s.watchFragment position f).1.intake.lostFrames = s.intake.lostFrames
    ∧ (s.watchFragment position f).1.intake.checkErrors = s.intake.checkErrors
    ∧ (s.watchFragment position f).1.intake.received = s.intake.received
    ∧ (s.watchFragment position f).1.intake.silenceRunning = s.intake.silenceRunning
    ∧ (s.watchFragment position f).1.table.entries.length = s.table.entries.length
    ∧ (s.watchFragment position f).1.scan.huntChannels = s.scan.huntChannels
    ∧ (s.watchFragment position f).1.roam.hold = s.roam.hold
    ∧ (s.watchFragment position f).1.groups.identity = s.groups.identity
    ∧ (s.watchFragment position f).1.call = s.call
    ∧ (s.watchFragment position f).1.recallArea.list = s.recallArea.list
    ∧ (s.watchFragment position f).1.host.received = s.host.received
    ∧ (s.watchFragment position f).1.host.intake = s.host.intake
    ∧ (s.watchFragment position f).1.host.locked = s.host.locked
    ∧ (s.watchFragment position f).1.host.active = s.host.active
    ∧ (s.watchFragment position f).1.host.pendingParams = s.host.pendingParams
    ∧ (s.watchFragment position f).1.host.linkError = s.host.linkError
    ∧ (s.watchFragment position f).1.host.checkErrors = s.host.checkErrors
    ∧ (s.watchFragment position f).1.host.resetTaken = s.host.resetTaken
    ∧ (s.watchFragment position f).1.host.assembly = s.host.assembly
    ∧ (s.watchFragment position f).1.pins.supply = s.pins.supply
    ∧ (s.watchFragment position f).1.pending = s.pending := by
  simp only [State.watchFragment]; repeat' split
  all_goals simp

@[simp] theorem State.beaconRecord_frame (s : State) (r : Frame) :
    (s.beaconRecord r).1.intake.queue = s.intake.queue ∧ (s.beaconRecord r).1.intake.held = s.intake.held
    ∧ (s.beaconRecord r).1.intake.counter = s.intake.counter
    ∧ (s.beaconRecord r).1.intake.slips = s.intake.slips
    ∧ (s.beaconRecord r).1.intake.lostFrames = s.intake.lostFrames
    ∧ (s.beaconRecord r).1.intake.checkErrors = s.intake.checkErrors
    ∧ (s.beaconRecord r).1.intake.received = s.intake.received
    ∧ (s.beaconRecord r).1.intake.silenceRunning = s.intake.silenceRunning
    ∧ (s.beaconRecord r).1.table.entries.length = s.table.entries.length
    ∧ (s.beaconRecord r).1.scan.huntChannels = s.scan.huntChannels
    ∧ (s.beaconRecord r).1.roam.hold = s.roam.hold
    ∧ (s.beaconRecord r).1.groups.identity = s.groups.identity ∧ (s.beaconRecord r).1.call = s.call
    ∧ (s.beaconRecord r).1.recallArea.list = s.recallArea.list
    ∧ (s.beaconRecord r).1.host.received = s.host.received
    ∧ (s.beaconRecord r).1.host.intake = s.host.intake ∧ (s.beaconRecord r).1.host.locked = s.host.locked
    ∧ (s.beaconRecord r).1.host.active = s.host.active
    ∧ (s.beaconRecord r).1.host.pendingParams = s.host.pendingParams
    ∧ (s.beaconRecord r).1.host.linkError = s.host.linkError
    ∧ (s.beaconRecord r).1.host.checkErrors = s.host.checkErrors
    ∧ (s.beaconRecord r).1.host.resetTaken = s.host.resetTaken
    ∧ (s.beaconRecord r).1.host.assembly = s.host.assembly
    ∧ (s.beaconRecord r).1.pins.supply = s.pins.supply ∧ (s.beaconRecord r).1.pending = s.pending := by
  simp only [State.beaconRecord]; repeat' split
  all_goals simp

end Sys2Proof.Machine
end

