-- ==== Sys2Proof/Laws/FilterFrame.lean ====
section
/-! SUPPORT. What the Address Filter leave as it was. -/

namespace Sys2Proof.Machine

@[simp] theorem State.deliver_frame (s : State) (b : ControlBlock) (m : Message) :
    (s.deliver b m).1.intake.queue = s.intake.queue ∧ (s.deliver b m).1.intake.held = s.intake.held
    ∧ (s.deliver b m).1.intake.counter = s.intake.counter ∧ (s.deliver b m).1.intake.slips = s.intake.slips
    ∧ (s.deliver b m).1.intake.lostFrames = s.intake.lostFrames
    ∧ (s.deliver b m).1.intake.checkErrors = s.intake.checkErrors
    ∧ (s.deliver b m).1.intake.received = s.intake.received
    ∧ (s.deliver b m).1.intake.silenceRunning = s.intake.silenceRunning
    ∧ (s.deliver b m).1.table.entries.length = s.table.entries.length
    ∧ (s.deliver b m).1.scan.huntChannels = s.scan.huntChannels ∧ (s.deliver b m).1.roam.hold = s.roam.hold
    ∧ (s.deliver b m).1.groups.identity = s.groups.identity ∧ (s.deliver b m).1.call = s.call
    ∧ (s.deliver b m).1.recallArea.list = s.recallArea.list
    ∧ (s.deliver b m).1.host.received = s.host.received ∧ (s.deliver b m).1.host.intake = s.host.intake
    ∧ (s.deliver b m).1.host.locked = s.host.locked ∧ (s.deliver b m).1.host.active = s.host.active
    ∧ (s.deliver b m).1.host.pendingParams = s.host.pendingParams
    ∧ (s.deliver b m).1.host.linkError = s.host.linkError
    ∧ (s.deliver b m).1.host.checkErrors = s.host.checkErrors
    ∧ (s.deliver b m).1.host.resetTaken = s.host.resetTaken
    ∧ (s.deliver b m).1.host.assembly = s.host.assembly ∧ (s.deliver b m).1.pins.supply = s.pins.supply
    ∧ (s.deliver b m).1.pending = s.pending := by
  unfold State.deliver; split <;> simp

@[simp] theorem State.filterRecord_frame (s : State) (r : Frame) :
    (s.filterRecord r).1.intake.queue = s.intake.queue ∧ (s.filterRecord r).1.intake.held = s.intake.held
    ∧ (s.filterRecord r).1.intake.counter = s.intake.counter
    ∧ (s.filterRecord r).1.intake.slips = s.intake.slips
    ∧ (s.filterRecord r).1.intake.lostFrames = s.intake.lostFrames
    ∧ (s.filterRecord r).1.intake.checkErrors = s.intake.checkErrors
    ∧ (s.filterRecord r).1.intake.received = s.intake.received
    ∧ (s.filterRecord r).1.intake.silenceRunning = s.intake.silenceRunning
    ∧ (s.filterRecord r).1.table.entries.length = s.table.entries.length
    ∧ (s.filterRecord r).1.scan.huntChannels = s.scan.huntChannels
    ∧ (s.filterRecord r).1.roam.hold = s.roam.hold
    ∧ (s.filterRecord r).1.groups.identity = s.groups.identity ∧ (s.filterRecord r).1.call = s.call
    ∧ (s.filterRecord r).1.recallArea.list = s.recallArea.list
    ∧ (s.filterRecord r).1.host.received = s.host.received
    ∧ (s.filterRecord r).1.host.intake = s.host.intake ∧ (s.filterRecord r).1.host.locked = s.host.locked
    ∧ (s.filterRecord r).1.host.active = s.host.active
    ∧ (s.filterRecord r).1.host.pendingParams = s.host.pendingParams
    ∧ (s.filterRecord r).1.host.linkError = s.host.linkError
    ∧ (s.filterRecord r).1.host.checkErrors = s.host.checkErrors
    ∧ (s.filterRecord r).1.host.resetTaken = s.host.resetTaken
    ∧ (s.filterRecord r).1.host.assembly = s.host.assembly
    ∧ (s.filterRecord r).1.pins.supply = s.pins.supply ∧ (s.filterRecord r).1.pending = s.pending := by
  simp only [State.filterRecord]; repeat' split
  all_goals simp

end Sys2Proof.Machine
end

