-- ==== Sys2Proof/Laws/Host.lean ====
section
/-! SUPPORT. What the Host Link's shared operations do: taking a command, queueing a reply, offering an event. -/

namespace Sys2Proof.Machine

/-- Nothing is held back while the LN742 runs. -/
theorem whileRunning_of_running {f : State → State} {s : State} (h : s.pins.supply = .running) :
    whileRunning f s = f s := by
  simp [whileRunning, h]

/-- Nothing happens while RSTN is low or there is no power. -/
theorem whileRunning_of_not_running {f : State → State} {s : State} (h : s.pins.supply ≠ .running) :
    whileRunning f s = s := by
  simp [whileRunning, h]

/-- A command that stands at the head and may be taken is taken by the row that is for its kind. -/
theorem takeCommand_of_offers {s : State} {f : HostFrame} {rest : List HostFrame} {mine : Byte → Bool}
    {handle : State → HostFrame → State} (h : s.offers f rest) (hk : mine f.kind = true) :
    s.takeCommand mine handle = handle (s.setHost (s.host.taken rest)) f := by
  obtain ⟨-, h2, h3, h4⟩ := h
  simp [State.takeCommand, State.mayTake, h2, h3, h4, hk, HostLink.taken]

/-- The row of a command's kind takes it. -/
theorem takeKind_of_offers {s : State} {f : HostFrame} {rest : List HostFrame} {kind : Byte}
    {handle : State → HostFrame → State} (h : s.offers f rest) (hk : f.kind = kind) :
    takeKind kind handle s = handle (s.setHost (s.host.taken rest)) f := by
  rw [takeKind, whileRunning_of_running h.1, takeCommand_of_offers h (by simp [hk])]

/-- What the taking of a command can do: it hands the head of the queue to the handler, or leaves the state. -/
theorem takeCommand_cases (s : State) (mine : Byte → Bool) (handle : State → HostFrame → State) :
    (∃ f rest, s.mayTake = true ∧ s.host.intake = f :: rest ∧ mine f.kind = true
        ∧ s.takeCommand mine handle = handle (s.setHost (s.host.taken rest)) f)
      ∨ s.takeCommand mine handle = s := by
  by_cases h : s.mayTake = true
  · cases hq : s.host.intake with
    | nil => exact .inr (by simp [State.takeCommand, h, hq])
    | cons f rest =>
      by_cases hk : mine f.kind = true
      · exact .inl ⟨f, rest, h, rfl, hk, by simp [State.takeCommand, h, hq, hk, HostLink.taken]⟩
      · exact .inr (by simp [State.takeCommand, h, hq, hk])
  · exact .inr (by simp [State.takeCommand, h])

/-- A reply is the answer of the Host Link. -/
theorem reply_eq_answer (s : State) (f : HostFrame) (code : ReplyCode) (result : List Byte) :
    s.reply f code result = s.setHost (s.host.answer f code result) := rfl

@[simp] theorem HostLink.taken_transmit (h : HostLink) (rest : List HostFrame) : (h.taken rest).transmit = h.transmit := rfl
@[simp] theorem HostLink.taken_intake (h : HostLink) (rest : List HostFrame) : (h.taken rest).intake = rest := rfl
@[simp] theorem HostLink.taken_active (h : HostLink) (rest : List HostFrame) : (h.taken rest).active = h.active := rfl
@[simp] theorem HostLink.taken_pendingParams (h : HostLink) (rest : List HostFrame) :
    (h.taken rest).pendingParams = h.pendingParams := rfl
@[simp] theorem HostLink.taken_locked (h : HostLink) (rest : List HostFrame) : (h.taken rest).locked = h.locked := rfl
@[simp] theorem HostLink.taken_assembly (h : HostLink) (rest : List HostFrame) : (h.taken rest).assembly = h.assembly := rfl
@[simp] theorem HostLink.taken_sequence (h : HostLink) (rest : List HostFrame) : (h.taken rest).sequence = h.sequence := rfl

/-- Two updates of one field: the later stands. -/
@[simp] theorem State.setHost_setHost (s : State) (a b : HostLink) : (s.setHost a).setHost b = s.setHost b := rfl

/-- A refused command is taken and answered. -/
theorem reply_taken_eq_refusedWith (s : State) (f : HostFrame) (rest : List HostFrame) (code : ReplyCode) :
    (s.setHost (s.host.taken rest)).reply f code = s.refusedWith f rest code := rfl

end Sys2Proof.Machine
end

