-- ==== Sys2Proof/Laws/RankingFrame.lean ====
section
/-! SUPPORT. What the operations of the Ranking Unit leave as it was. -/

namespace Sys2Proof.Machine

@[simp] theorem State.credit_frame (s : State) (i c : Nat) :
    (s.credit i c).intake = s.intake ∧ (s.credit i c).table.entries.length = s.table.entries.length
    ∧ (s.credit i c).beacon = s.beacon ∧ (s.credit i c).ranking = s.ranking ∧ (s.credit i c).scan = s.scan
    ∧ (s.credit i c).roam = s.roam ∧ (s.credit i c).access = s.access ∧ (s.credit i c).groups = s.groups
    ∧ (s.credit i c).call = s.call ∧ (s.credit i c).recallArea = s.recallArea ∧ (s.credit i c).host = s.host
    ∧ (s.credit i c).pins = s.pins ∧ (s.credit i c).frontEnd = s.frontEnd ∧ (s.credit i c).free = s.free
    ∧ (s.credit i c).pending = s.pending := by
  simp [State.credit]

@[simp] theorem State.heardNotice_frame (s : State) (r : Frame) :
    (s.heardNotice r).intake = s.intake ∧ (s.heardNotice r).table.entries.length = s.table.entries.length
    ∧ (s.heardNotice r).beacon = s.beacon ∧ (s.heardNotice r).ranking = s.ranking
    ∧ (s.heardNotice r).scan = s.scan ∧ (s.heardNotice r).roam = s.roam
    ∧ (s.heardNotice r).access = s.access ∧ (s.heardNotice r).groups = s.groups
    ∧ (s.heardNotice r).call = s.call ∧ (s.heardNotice r).recallArea = s.recallArea
    ∧ (s.heardNotice r).host = s.host ∧ (s.heardNotice r).pins = s.pins
    ∧ (s.heardNotice r).frontEnd = s.frontEnd ∧ (s.heardNotice r).free = s.free
    ∧ (s.heardNotice r).pending = s.pending := by
  unfold State.heardNotice; split <;> simp

@[simp] theorem State.creditSamples_frame (s : State) (r : Frame) (role : Role) :
    (s.creditSamples r role).intake = s.intake
    ∧ (s.creditSamples r role).table.entries.length = s.table.entries.length
    ∧ (s.creditSamples r role).beacon = s.beacon ∧ (s.creditSamples r role).ranking = s.ranking
    ∧ (s.creditSamples r role).scan = s.scan ∧ (s.creditSamples r role).roam = s.roam
    ∧ (s.creditSamples r role).access = s.access ∧ (s.creditSamples r role).groups = s.groups
    ∧ (s.creditSamples r role).call = s.call ∧ (s.creditSamples r role).recallArea = s.recallArea
    ∧ (s.creditSamples r role).host = s.host ∧ (s.creditSamples r role).pins = s.pins
    ∧ (s.creditSamples r role).frontEnd = s.frontEnd ∧ (s.creditSamples r role).free = s.free
    ∧ (s.creditSamples r role).pending = s.pending := by
  simp only [State.creditSamples]; repeat' split
  all_goals simp

@[simp] theorem State.nameWatch_frame (s : State) (i : Nat) :
    (s.nameWatch i).intake = s.intake ∧ (s.nameWatch i).table = s.table
    ∧ (s.nameWatch i).scan.huntChannels = s.scan.huntChannels ∧ (s.nameWatch i).roam = s.roam
    ∧ (s.nameWatch i).access = s.access ∧ (s.nameWatch i).groups = s.groups ∧ (s.nameWatch i).call = s.call
    ∧ (s.nameWatch i).recallArea = s.recallArea ∧ (s.nameWatch i).host = s.host
    ∧ (s.nameWatch i).pins = s.pins ∧ (s.nameWatch i).frontEnd = s.frontEnd ∧ (s.nameWatch i).free = s.free
    ∧ (s.nameWatch i).pending = s.pending := by
  simp [State.nameWatch]

@[simp] theorem State.considerWatch_frame (s : State) (i : Nat) :
    (s.considerWatch i).intake = s.intake ∧ (s.considerWatch i).table = s.table
    ∧ (s.considerWatch i).scan.huntChannels = s.scan.huntChannels ∧ (s.considerWatch i).roam = s.roam
    ∧ (s.considerWatch i).access = s.access ∧ (s.considerWatch i).groups = s.groups
    ∧ (s.considerWatch i).call = s.call ∧ (s.considerWatch i).recallArea = s.recallArea
    ∧ (s.considerWatch i).host = s.host ∧ (s.considerWatch i).pins = s.pins
    ∧ (s.considerWatch i).frontEnd = s.frontEnd ∧ (s.considerWatch i).free = s.free
    ∧ (s.considerWatch i).pending = s.pending := by
  simp only [State.considerWatch]; repeat' split
  all_goals simp

@[simp] theorem State.dwellUpdate_frame (s : State) (i serving : Nat) :
    (s.dwellUpdate i serving).1.intake = s.intake
    ∧ (s.dwellUpdate i serving).1.table.entries.length = s.table.entries.length
    ∧ (s.dwellUpdate i serving).1.scan.huntChannels = s.scan.huntChannels
    ∧ (s.dwellUpdate i serving).1.roam = s.roam ∧ (s.dwellUpdate i serving).1.access = s.access
    ∧ (s.dwellUpdate i serving).1.groups = s.groups ∧ (s.dwellUpdate i serving).1.call = s.call
    ∧ (s.dwellUpdate i serving).1.recallArea = s.recallArea ∧ (s.dwellUpdate i serving).1.host = s.host
    ∧ (s.dwellUpdate i serving).1.pins = s.pins ∧ (s.dwellUpdate i serving).1.frontEnd = s.frontEnd
    ∧ (s.dwellUpdate i serving).1.free = s.free ∧ (s.dwellUpdate i serving).1.pending = s.pending := by
  unfold State.dwellUpdate; repeat' split <;> simp

@[simp] theorem State.reportWeak_frame (s : State) (serving : Nat) :
    (s.reportWeak serving).intake = s.intake ∧ (s.reportWeak serving).table = s.table
    ∧ (s.reportWeak serving).beacon = s.beacon ∧ (s.reportWeak serving).scan = s.scan
    ∧ (s.reportWeak serving).roam = s.roam ∧ (s.reportWeak serving).access = s.access
    ∧ (s.reportWeak serving).groups = s.groups ∧ (s.reportWeak serving).call = s.call
    ∧ (s.reportWeak serving).recallArea = s.recallArea
    ∧ (s.reportWeak serving).host.received = s.host.received
    ∧ (s.reportWeak serving).host.intake = s.host.intake
    ∧ (s.reportWeak serving).host.locked = s.host.locked
    ∧ (s.reportWeak serving).host.active = s.host.active
    ∧ (s.reportWeak serving).host.pendingParams = s.host.pendingParams
    ∧ (s.reportWeak serving).host.linkError = s.host.linkError
    ∧ (s.reportWeak serving).host.checkErrors = s.host.checkErrors
    ∧ (s.reportWeak serving).host.resetTaken = s.host.resetTaken
    ∧ (s.reportWeak serving).host.assembly = s.host.assembly ∧ (s.reportWeak serving).pins = s.pins
    ∧ (s.reportWeak serving).frontEnd = s.frontEnd ∧ (s.reportWeak serving).free = s.free
    ∧ (s.reportWeak serving).pending = s.pending := by
  unfold State.reportWeak; split <;> simp

@[simp] theorem State.weakUpdate_frame (s : State) (serving : Nat) :
    (s.weakUpdate serving).1.intake = s.intake ∧ (s.weakUpdate serving).1.table = s.table
    ∧ (s.weakUpdate serving).1.beacon = s.beacon ∧ (s.weakUpdate serving).1.scan = s.scan
    ∧ (s.weakUpdate serving).1.roam = s.roam ∧ (s.weakUpdate serving).1.access = s.access
    ∧ (s.weakUpdate serving).1.groups = s.groups ∧ (s.weakUpdate serving).1.call = s.call
    ∧ (s.weakUpdate serving).1.recallArea = s.recallArea
    ∧ (s.weakUpdate serving).1.host.received = s.host.received
    ∧ (s.weakUpdate serving).1.host.intake = s.host.intake
    ∧ (s.weakUpdate serving).1.host.locked = s.host.locked
    ∧ (s.weakUpdate serving).1.host.active = s.host.active
    ∧ (s.weakUpdate serving).1.host.pendingParams = s.host.pendingParams
    ∧ (s.weakUpdate serving).1.host.linkError = s.host.linkError
    ∧ (s.weakUpdate serving).1.host.checkErrors = s.host.checkErrors
    ∧ (s.weakUpdate serving).1.host.resetTaken = s.host.resetTaken
    ∧ (s.weakUpdate serving).1.host.assembly = s.host.assembly ∧ (s.weakUpdate serving).1.pins = s.pins
    ∧ (s.weakUpdate serving).1.frontEnd = s.frontEnd ∧ (s.weakUpdate serving).1.free = s.free
    ∧ (s.weakUpdate serving).1.pending = s.pending := by
  unfold State.weakUpdate; repeat' split <;> simp

@[simp] theorem State.sendReport_frame (s : State) (serving : Nat) :
    (s.sendReport serving).intake = s.intake ∧ (s.sendReport serving).table = s.table
    ∧ (s.sendReport serving).beacon = s.beacon ∧ (s.sendReport serving).scan = s.scan
    ∧ (s.sendReport serving).roam = s.roam ∧ (s.sendReport serving).access = s.access
    ∧ (s.sendReport serving).groups = s.groups ∧ (s.sendReport serving).call = s.call
    ∧ (s.sendReport serving).recallArea = s.recallArea
    ∧ (s.sendReport serving).host.received = s.host.received
    ∧ (s.sendReport serving).host.intake = s.host.intake
    ∧ (s.sendReport serving).host.locked = s.host.locked
    ∧ (s.sendReport serving).host.active = s.host.active
    ∧ (s.sendReport serving).host.pendingParams = s.host.pendingParams
    ∧ (s.sendReport serving).host.linkError = s.host.linkError
    ∧ (s.sendReport serving).host.checkErrors = s.host.checkErrors
    ∧ (s.sendReport serving).host.resetTaken = s.host.resetTaken
    ∧ (s.sendReport serving).host.assembly = s.host.assembly ∧ (s.sendReport serving).pins = s.pins
    ∧ (s.sendReport serving).frontEnd = s.frontEnd ∧ (s.sendReport serving).free = s.free
    ∧ (s.sendReport serving).pending = s.pending := by
  simp [State.sendReport]

@[simp] theorem State.reportTick_frame (s : State) :
    (s.reportTick).intake = s.intake ∧ (s.reportTick).table = s.table ∧ (s.reportTick).beacon = s.beacon
    ∧ (s.reportTick).scan = s.scan ∧ (s.reportTick).roam = s.roam ∧ (s.reportTick).access = s.access
    ∧ (s.reportTick).groups = s.groups ∧ (s.reportTick).call = s.call
    ∧ (s.reportTick).recallArea = s.recallArea ∧ (s.reportTick).host.received = s.host.received
    ∧ (s.reportTick).host.intake = s.host.intake ∧ (s.reportTick).host.locked = s.host.locked
    ∧ (s.reportTick).host.active = s.host.active ∧ (s.reportTick).host.pendingParams = s.host.pendingParams
    ∧ (s.reportTick).host.linkError = s.host.linkError
    ∧ (s.reportTick).host.checkErrors = s.host.checkErrors
    ∧ (s.reportTick).host.resetTaken = s.host.resetTaken ∧ (s.reportTick).host.assembly = s.host.assembly
    ∧ (s.reportTick).pins = s.pins ∧ (s.reportTick).frontEnd = s.frontEnd ∧ (s.reportTick).free = s.free
    ∧ (s.reportTick).pending = s.pending := by
  simp only [State.reportTick]; repeat' split
  all_goals simp

@[simp] theorem State.handleSamples_frame (s : State) (r : Frame) (role : Role) :
    (s.handleSamples r role).1.intake = s.intake
    ∧ (s.handleSamples r role).1.table.entries.length = s.table.entries.length
    ∧ (s.handleSamples r role).1.scan.huntChannels = s.scan.huntChannels
    ∧ (s.handleSamples r role).1.roam = s.roam ∧ (s.handleSamples r role).1.access = s.access
    ∧ (s.handleSamples r role).1.groups = s.groups ∧ (s.handleSamples r role).1.call = s.call
    ∧ (s.handleSamples r role).1.recallArea = s.recallArea
    ∧ (s.handleSamples r role).1.host.received = s.host.received
    ∧ (s.handleSamples r role).1.host.intake = s.host.intake
    ∧ (s.handleSamples r role).1.host.locked = s.host.locked
    ∧ (s.handleSamples r role).1.host.active = s.host.active
    ∧ (s.handleSamples r role).1.host.pendingParams = s.host.pendingParams
    ∧ (s.handleSamples r role).1.host.linkError = s.host.linkError
    ∧ (s.handleSamples r role).1.host.checkErrors = s.host.checkErrors
    ∧ (s.handleSamples r role).1.host.resetTaken = s.host.resetTaken
    ∧ (s.handleSamples r role).1.host.assembly = s.host.assembly ∧ (s.handleSamples r role).1.pins = s.pins
    ∧ (s.handleSamples r role).1.frontEnd = s.frontEnd ∧ (s.handleSamples r role).1.free = s.free
    ∧ (s.handleSamples r role).1.pending = s.pending := by
  unfold State.handleSamples; repeat' split <;> simp

@[simp] theorem State.rankRecord_frame (s : State) (r : Frame) (role : Role) (multiframe : Bool) :
    (s.rankRecord r role multiframe).1.intake = s.intake
    ∧ (s.rankRecord r role multiframe).1.table.entries.length = s.table.entries.length
    ∧ (s.rankRecord r role multiframe).1.scan.huntChannels = s.scan.huntChannels
    ∧ (s.rankRecord r role multiframe).1.roam = s.roam
    ∧ (s.rankRecord r role multiframe).1.access = s.access
    ∧ (s.rankRecord r role multiframe).1.groups = s.groups
    ∧ (s.rankRecord r role multiframe).1.call = s.call
    ∧ (s.rankRecord r role multiframe).1.recallArea = s.recallArea
    ∧ (s.rankRecord r role multiframe).1.host.received = s.host.received
    ∧ (s.rankRecord r role multiframe).1.host.intake = s.host.intake
    ∧ (s.rankRecord r role multiframe).1.host.locked = s.host.locked
    ∧ (s.rankRecord r role multiframe).1.host.active = s.host.active
    ∧ (s.rankRecord r role multiframe).1.host.pendingParams = s.host.pendingParams
    ∧ (s.rankRecord r role multiframe).1.host.linkError = s.host.linkError
    ∧ (s.rankRecord r role multiframe).1.host.checkErrors = s.host.checkErrors
    ∧ (s.rankRecord r role multiframe).1.host.resetTaken = s.host.resetTaken
    ∧ (s.rankRecord r role multiframe).1.host.assembly = s.host.assembly
    ∧ (s.rankRecord r role multiframe).1.pins = s.pins
    ∧ (s.rankRecord r role multiframe).1.frontEnd = s.frontEnd
    ∧ (s.rankRecord r role multiframe).1.free = s.free
    ∧ (s.rankRecord r role multiframe).1.pending = s.pending := by
  unfold State.rankRecord; repeat' split <;> simp

end Sys2Proof.Machine
end

