-- ==== Sys2Proof/Laws/RegistrationFrame.lean ====
section
/-! SUPPORT. What the Access Unit's phases leave as it was. -/

namespace Sys2Proof.Machine

@[simp] theorem State.enterContending_frame (s : State) :
    (s.enterContending).intake = s.intake ∧ (s.enterContending).table = s.table
    ∧ (s.enterContending).beacon = s.beacon ∧ (s.enterContending).ranking = s.ranking
    ∧ (s.enterContending).scan = s.scan ∧ (s.enterContending).roam = s.roam
    ∧ (s.enterContending).groups.identity = s.groups.identity ∧ (s.enterContending).call = s.call
    ∧ (s.enterContending).recallArea = s.recallArea ∧ (s.enterContending).host = s.host
    ∧ (s.enterContending).pins = s.pins ∧ (s.enterContending).pending = s.pending := by
  simp [State.enterContending]

@[simp] theorem State.judgeFlags_frame (s : State) (closed emergencyOnly : Bool) (hold : Nat) :
    (s.judgeFlags closed emergencyOnly hold).intake.queue = s.intake.queue
    ∧ (s.judgeFlags closed emergencyOnly hold).intake.held = s.intake.held
    ∧ (s.judgeFlags closed emergencyOnly hold).intake.counter = s.intake.counter
    ∧ (s.judgeFlags closed emergencyOnly hold).intake.slips = s.intake.slips
    ∧ (s.judgeFlags closed emergencyOnly hold).intake.lostFrames = s.intake.lostFrames
    ∧ (s.judgeFlags closed emergencyOnly hold).intake.checkErrors = s.intake.checkErrors
    ∧ (s.judgeFlags closed emergencyOnly hold).intake.received = s.intake.received
    ∧ (s.judgeFlags closed emergencyOnly hold).intake.silenceRunning = s.intake.silenceRunning
    ∧ (s.judgeFlags closed emergencyOnly hold).table.entries.length = s.table.entries.length
    ∧ (s.judgeFlags closed emergencyOnly hold).scan.huntChannels = s.scan.huntChannels
    ∧ (s.judgeFlags closed emergencyOnly hold).roam.hold = s.roam.hold
    ∧ (s.judgeFlags closed emergencyOnly hold).groups.identity = s.groups.identity
    ∧ (s.judgeFlags closed emergencyOnly hold).call = s.call
    ∧ (s.judgeFlags closed emergencyOnly hold).recallArea.list = s.recallArea.list
    ∧ (s.judgeFlags closed emergencyOnly hold).host.received = s.host.received
    ∧ (s.judgeFlags closed emergencyOnly hold).host.intake = s.host.intake
    ∧ (s.judgeFlags closed emergencyOnly hold).host.locked = s.host.locked
    ∧ (s.judgeFlags closed emergencyOnly hold).host.active = s.host.active
    ∧ (s.judgeFlags closed emergencyOnly hold).host.pendingParams = s.host.pendingParams
    ∧ (s.judgeFlags closed emergencyOnly hold).host.linkError = s.host.linkError
    ∧ (s.judgeFlags closed emergencyOnly hold).host.checkErrors = s.host.checkErrors
    ∧ (s.judgeFlags closed emergencyOnly hold).host.resetTaken = s.host.resetTaken
    ∧ (s.judgeFlags closed emergencyOnly hold).host.assembly = s.host.assembly
    ∧ (s.judgeFlags closed emergencyOnly hold).pins.supply = s.pins.supply
    ∧ (s.judgeFlags closed emergencyOnly hold).pending = s.pending := by
  simp only [State.judgeFlags]; repeat' split
  all_goals simp

@[simp] theorem State.judgeBeacon_frame (s : State) (b : Summary) :
    (s.judgeBeacon b).intake.queue = s.intake.queue ∧ (s.judgeBeacon b).intake.held = s.intake.held
    ∧ (s.judgeBeacon b).intake.counter = s.intake.counter ∧ (s.judgeBeacon b).intake.slips = s.intake.slips
    ∧ (s.judgeBeacon b).intake.lostFrames = s.intake.lostFrames
    ∧ (s.judgeBeacon b).intake.checkErrors = s.intake.checkErrors
    ∧ (s.judgeBeacon b).intake.received = s.intake.received
    ∧ (s.judgeBeacon b).intake.silenceRunning = s.intake.silenceRunning
    ∧ (s.judgeBeacon b).table.entries.length = s.table.entries.length
    ∧ (s.judgeBeacon b).scan.huntChannels = s.scan.huntChannels ∧ (s.judgeBeacon b).roam.hold = s.roam.hold
    ∧ (s.judgeBeacon b).groups.identity = s.groups.identity ∧ (s.judgeBeacon b).call = s.call
    ∧ (s.judgeBeacon b).recallArea.list = s.recallArea.list
    ∧ (s.judgeBeacon b).host.received = s.host.received ∧ (s.judgeBeacon b).host.intake = s.host.intake
    ∧ (s.judgeBeacon b).host.locked = s.host.locked ∧ (s.judgeBeacon b).host.active = s.host.active
    ∧ (s.judgeBeacon b).host.pendingParams = s.host.pendingParams
    ∧ (s.judgeBeacon b).host.linkError = s.host.linkError
    ∧ (s.judgeBeacon b).host.checkErrors = s.host.checkErrors
    ∧ (s.judgeBeacon b).host.resetTaken = s.host.resetTaken
    ∧ (s.judgeBeacon b).host.assembly = s.host.assembly ∧ (s.judgeBeacon b).pins.supply = s.pins.supply
    ∧ (s.judgeBeacon b).pending = s.pending := by
  simp [State.judgeBeacon]

@[simp] theorem State.judgeDigest_frame (s : State) :
    (s.judgeDigest).intake.queue = s.intake.queue ∧ (s.judgeDigest).intake.held = s.intake.held
    ∧ (s.judgeDigest).intake.counter = s.intake.counter ∧ (s.judgeDigest).intake.slips = s.intake.slips
    ∧ (s.judgeDigest).intake.lostFrames = s.intake.lostFrames
    ∧ (s.judgeDigest).intake.checkErrors = s.intake.checkErrors
    ∧ (s.judgeDigest).intake.received = s.intake.received
    ∧ (s.judgeDigest).intake.silenceRunning = s.intake.silenceRunning
    ∧ (s.judgeDigest).table.entries.length = s.table.entries.length
    ∧ (s.judgeDigest).scan.huntChannels = s.scan.huntChannels ∧ (s.judgeDigest).roam.hold = s.roam.hold
    ∧ (s.judgeDigest).groups.identity = s.groups.identity ∧ (s.judgeDigest).call = s.call
    ∧ (s.judgeDigest).recallArea.list = s.recallArea.list ∧ (s.judgeDigest).host.received = s.host.received
    ∧ (s.judgeDigest).host.intake = s.host.intake ∧ (s.judgeDigest).host.locked = s.host.locked
    ∧ (s.judgeDigest).host.active = s.host.active
    ∧ (s.judgeDigest).host.pendingParams = s.host.pendingParams
    ∧ (s.judgeDigest).host.linkError = s.host.linkError
    ∧ (s.judgeDigest).host.checkErrors = s.host.checkErrors
    ∧ (s.judgeDigest).host.resetTaken = s.host.resetTaken ∧ (s.judgeDigest).host.assembly = s.host.assembly
    ∧ (s.judgeDigest).pins.supply = s.pins.supply ∧ (s.judgeDigest).pending = s.pending := by
  unfold State.judgeDigest; split <;> simp

@[simp] theorem State.judgeTarget_frame (s : State) :
    (s.judgeTarget).intake.queue = s.intake.queue ∧ (s.judgeTarget).intake.held = s.intake.held
    ∧ (s.judgeTarget).intake.counter = s.intake.counter ∧ (s.judgeTarget).intake.slips = s.intake.slips
    ∧ (s.judgeTarget).intake.lostFrames = s.intake.lostFrames
    ∧ (s.judgeTarget).intake.checkErrors = s.intake.checkErrors
    ∧ (s.judgeTarget).intake.received = s.intake.received
    ∧ (s.judgeTarget).intake.silenceRunning = s.intake.silenceRunning
    ∧ (s.judgeTarget).table.entries.length = s.table.entries.length
    ∧ (s.judgeTarget).scan.huntChannels = s.scan.huntChannels ∧ (s.judgeTarget).roam.hold = s.roam.hold
    ∧ (s.judgeTarget).groups.identity = s.groups.identity ∧ (s.judgeTarget).call = s.call
    ∧ (s.judgeTarget).recallArea.list = s.recallArea.list ∧ (s.judgeTarget).host.received = s.host.received
    ∧ (s.judgeTarget).host.intake = s.host.intake ∧ (s.judgeTarget).host.locked = s.host.locked
    ∧ (s.judgeTarget).host.active = s.host.active
    ∧ (s.judgeTarget).host.pendingParams = s.host.pendingParams
    ∧ (s.judgeTarget).host.linkError = s.host.linkError
    ∧ (s.judgeTarget).host.checkErrors = s.host.checkErrors
    ∧ (s.judgeTarget).host.resetTaken = s.host.resetTaken ∧ (s.judgeTarget).host.assembly = s.host.assembly
    ∧ (s.judgeTarget).pins.supply = s.pins.supply ∧ (s.judgeTarget).pending = s.pending := by
  simp only [State.judgeTarget]; repeat' split
  all_goals simp

@[simp] theorem State.countWait_frame (s : State) :
    (s.countWait).intake = s.intake ∧ (s.countWait).table = s.table ∧ (s.countWait).beacon = s.beacon
    ∧ (s.countWait).ranking = s.ranking ∧ (s.countWait).scan = s.scan ∧ (s.countWait).roam = s.roam
    ∧ (s.countWait).groups = s.groups ∧ (s.countWait).call = s.call
    ∧ (s.countWait).recallArea = s.recallArea ∧ (s.countWait).host = s.host ∧ (s.countWait).pins = s.pins
    ∧ (s.countWait).frontEnd = s.frontEnd ∧ (s.countWait).free = s.free ∧ (s.countWait).pending = s.pending := by
  simp [State.countWait]

@[simp] theorem State.followRedirect_frame (s : State) (i : Nat) :
    (s.followRedirect i).intake = s.intake ∧ (s.followRedirect i).table = s.table
    ∧ (s.followRedirect i).ranking = s.ranking ∧ (s.followRedirect i).scan = s.scan
    ∧ (s.followRedirect i).roam = s.roam ∧ (s.followRedirect i).groups = s.groups
    ∧ (s.followRedirect i).call = s.call ∧ (s.followRedirect i).recallArea = s.recallArea
    ∧ (s.followRedirect i).host = s.host ∧ (s.followRedirect i).pins = s.pins
    ∧ (s.followRedirect i).free = s.free ∧ (s.followRedirect i).pending = s.pending := by
  simp [State.followRedirect]

@[simp] theorem State.takeRedirect_frame (s : State) (code channel colour : Nat) :
    (s.takeRedirect code channel colour).intake.queue = s.intake.queue
    ∧ (s.takeRedirect code channel colour).intake.held = s.intake.held
    ∧ (s.takeRedirect code channel colour).intake.counter = s.intake.counter
    ∧ (s.takeRedirect code channel colour).intake.slips = s.intake.slips
    ∧ (s.takeRedirect code channel colour).intake.lostFrames = s.intake.lostFrames
    ∧ (s.takeRedirect code channel colour).intake.checkErrors = s.intake.checkErrors
    ∧ (s.takeRedirect code channel colour).intake.received = s.intake.received
    ∧ (s.takeRedirect code channel colour).intake.silenceRunning = s.intake.silenceRunning
    ∧ (s.takeRedirect code channel colour).table.entries.length = s.table.entries.length
    ∧ (s.takeRedirect code channel colour).scan.huntChannels = s.scan.huntChannels
    ∧ (s.takeRedirect code channel colour).roam.hold = s.roam.hold
    ∧ (s.takeRedirect code channel colour).groups.identity = s.groups.identity
    ∧ (s.takeRedirect code channel colour).call = s.call
    ∧ (s.takeRedirect code channel colour).recallArea.list = s.recallArea.list
    ∧ (s.takeRedirect code channel colour).host.received = s.host.received
    ∧ (s.takeRedirect code channel colour).host.intake = s.host.intake
    ∧ (s.takeRedirect code channel colour).host.locked = s.host.locked
    ∧ (s.takeRedirect code channel colour).host.active = s.host.active
    ∧ (s.takeRedirect code channel colour).host.pendingParams = s.host.pendingParams
    ∧ (s.takeRedirect code channel colour).host.linkError = s.host.linkError
    ∧ (s.takeRedirect code channel colour).host.checkErrors = s.host.checkErrors
    ∧ (s.takeRedirect code channel colour).host.resetTaken = s.host.resetTaken
    ∧ (s.takeRedirect code channel colour).host.assembly = s.host.assembly
    ∧ (s.takeRedirect code channel colour).pins.supply = s.pins.supply
    ∧ (s.takeRedirect code channel colour).pending = s.pending := by
  have h := State.admitFound_frame s code { channel := channel, colour := colour }
  unfold State.takeRedirect
  split
  · simp
  · generalize s.admitFound code { channel := channel, colour := colour } = r at h ⊢
    obtain ⟨s1, a⟩ := r
    simp only at h
    cases a with
    | admitted i => dsimp only; split <;> simp [h]
    | conflict => simp [h]
    | full => simp [h]

@[simp] theorem State.takeGrant_frame (s : State) (g : Grant) :
    (s.takeGrant g).intake.queue = s.intake.queue ∧ (s.takeGrant g).intake.held = s.intake.held
    ∧ (s.takeGrant g).intake.counter = s.intake.counter ∧ (s.takeGrant g).intake.slips = s.intake.slips
    ∧ (s.takeGrant g).intake.lostFrames = s.intake.lostFrames
    ∧ (s.takeGrant g).intake.checkErrors = s.intake.checkErrors
    ∧ (s.takeGrant g).intake.received = s.intake.received
    ∧ (s.takeGrant g).intake.silenceRunning = s.intake.silenceRunning
    ∧ (s.takeGrant g).table.entries.length = s.table.entries.length
    ∧ (s.takeGrant g).scan.huntChannels = s.scan.huntChannels ∧ (s.takeGrant g).roam.hold = s.roam.hold
    ∧ (s.takeGrant g).groups.identity = s.groups.identity ∧ (s.takeGrant g).call = s.call
    ∧ (s.takeGrant g).recallArea.list = s.recallArea.list ∧ (s.takeGrant g).host.received = s.host.received
    ∧ (s.takeGrant g).host.intake = s.host.intake ∧ (s.takeGrant g).host.locked = s.host.locked
    ∧ (s.takeGrant g).host.active = s.host.active
    ∧ (s.takeGrant g).host.pendingParams = s.host.pendingParams
    ∧ (s.takeGrant g).host.linkError = s.host.linkError
    ∧ (s.takeGrant g).host.checkErrors = s.host.checkErrors
    ∧ (s.takeGrant g).host.resetTaken = s.host.resetTaken ∧ (s.takeGrant g).host.assembly = s.host.assembly
    ∧ (s.takeGrant g).pins.supply = s.pins.supply ∧ (s.takeGrant g).pending = s.pending := by
  unfold State.takeGrant; split <;> simp

@[simp] theorem State.grantTimeout_frame (s : State) :
    (s.grantTimeout).intake.queue = s.intake.queue ∧ (s.grantTimeout).intake.held = s.intake.held
    ∧ (s.grantTimeout).intake.counter = s.intake.counter ∧ (s.grantTimeout).intake.slips = s.intake.slips
    ∧ (s.grantTimeout).intake.lostFrames = s.intake.lostFrames
    ∧ (s.grantTimeout).intake.checkErrors = s.intake.checkErrors
    ∧ (s.grantTimeout).intake.received = s.intake.received
    ∧ (s.grantTimeout).intake.silenceRunning = s.intake.silenceRunning
    ∧ (s.grantTimeout).table.entries.length = s.table.entries.length
    ∧ (s.grantTimeout).scan.huntChannels = s.scan.huntChannels ∧ (s.grantTimeout).roam.hold = s.roam.hold
    ∧ (s.grantTimeout).groups.identity = s.groups.identity ∧ (s.grantTimeout).call = s.call
    ∧ (s.grantTimeout).recallArea.list = s.recallArea.list
    ∧ (s.grantTimeout).host.received = s.host.received ∧ (s.grantTimeout).host.intake = s.host.intake
    ∧ (s.grantTimeout).host.locked = s.host.locked ∧ (s.grantTimeout).host.active = s.host.active
    ∧ (s.grantTimeout).host.pendingParams = s.host.pendingParams
    ∧ (s.grantTimeout).host.linkError = s.host.linkError
    ∧ (s.grantTimeout).host.checkErrors = s.host.checkErrors
    ∧ (s.grantTimeout).host.resetTaken = s.host.resetTaken
    ∧ (s.grantTimeout).host.assembly = s.host.assembly ∧ (s.grantTimeout).pins.supply = s.pins.supply
    ∧ (s.grantTimeout).pending = s.pending := by
  unfold State.grantTimeout; split <;> simp

@[simp] theorem State.awaitGrant_frame (s : State) (input : AccessInput) :
    (s.awaitGrant input).intake.queue = s.intake.queue ∧ (s.awaitGrant input).intake.held = s.intake.held
    ∧ (s.awaitGrant input).intake.counter = s.intake.counter
    ∧ (s.awaitGrant input).intake.slips = s.intake.slips
    ∧ (s.awaitGrant input).intake.lostFrames = s.intake.lostFrames
    ∧ (s.awaitGrant input).intake.checkErrors = s.intake.checkErrors
    ∧ (s.awaitGrant input).intake.received = s.intake.received
    ∧ (s.awaitGrant input).intake.silenceRunning = s.intake.silenceRunning
    ∧ (s.awaitGrant input).table.entries.length = s.table.entries.length
    ∧ (s.awaitGrant input).scan.huntChannels = s.scan.huntChannels
    ∧ (s.awaitGrant input).roam.hold = s.roam.hold
    ∧ (s.awaitGrant input).groups.identity = s.groups.identity ∧ (s.awaitGrant input).call = s.call
    ∧ (s.awaitGrant input).recallArea.list = s.recallArea.list
    ∧ (s.awaitGrant input).host.received = s.host.received
    ∧ (s.awaitGrant input).host.intake = s.host.intake ∧ (s.awaitGrant input).host.locked = s.host.locked
    ∧ (s.awaitGrant input).host.active = s.host.active
    ∧ (s.awaitGrant input).host.pendingParams = s.host.pendingParams
    ∧ (s.awaitGrant input).host.linkError = s.host.linkError
    ∧ (s.awaitGrant input).host.checkErrors = s.host.checkErrors
    ∧ (s.awaitGrant input).host.resetTaken = s.host.resetTaken
    ∧ (s.awaitGrant input).host.assembly = s.host.assembly
    ∧ (s.awaitGrant input).pins.supply = s.pins.supply ∧ (s.awaitGrant input).pending = s.pending := by
  simp only [State.awaitGrant]; repeat' split
  all_goals simp

@[simp] theorem State.echoWon_frame (s : State) :
    (s.echoWon).intake = s.intake ∧ (s.echoWon).table = s.table ∧ (s.echoWon).beacon = s.beacon
    ∧ (s.echoWon).ranking = s.ranking ∧ (s.echoWon).scan = s.scan ∧ (s.echoWon).roam = s.roam
    ∧ (s.echoWon).groups = s.groups ∧ (s.echoWon).call = s.call ∧ (s.echoWon).recallArea = s.recallArea
    ∧ (s.echoWon).host = s.host ∧ (s.echoWon).pins = s.pins ∧ (s.echoWon).frontEnd = s.frontEnd
    ∧ (s.echoWon).free = s.free ∧ (s.echoWon).pending = s.pending := by
  simp [State.echoWon]

@[simp] theorem State.echoLost_frame (s : State) (b : Burst) :
    (s.echoLost b).intake.queue = s.intake.queue ∧ (s.echoLost b).intake.held = s.intake.held
    ∧ (s.echoLost b).intake.counter = s.intake.counter ∧ (s.echoLost b).intake.slips = s.intake.slips
    ∧ (s.echoLost b).intake.lostFrames = s.intake.lostFrames
    ∧ (s.echoLost b).intake.checkErrors = s.intake.checkErrors
    ∧ (s.echoLost b).intake.received = s.intake.received
    ∧ (s.echoLost b).intake.silenceRunning = s.intake.silenceRunning
    ∧ (s.echoLost b).table.entries.length = s.table.entries.length
    ∧ (s.echoLost b).scan.huntChannels = s.scan.huntChannels ∧ (s.echoLost b).roam.hold = s.roam.hold
    ∧ (s.echoLost b).groups.identity = s.groups.identity ∧ (s.echoLost b).call = s.call
    ∧ (s.echoLost b).recallArea.list = s.recallArea.list ∧ (s.echoLost b).host.received = s.host.received
    ∧ (s.echoLost b).host.intake = s.host.intake ∧ (s.echoLost b).host.locked = s.host.locked
    ∧ (s.echoLost b).host.active = s.host.active ∧ (s.echoLost b).host.pendingParams = s.host.pendingParams
    ∧ (s.echoLost b).host.linkError = s.host.linkError
    ∧ (s.echoLost b).host.checkErrors = s.host.checkErrors
    ∧ (s.echoLost b).host.resetTaken = s.host.resetTaken ∧ (s.echoLost b).host.assembly = s.host.assembly
    ∧ (s.echoLost b).pins.supply = s.pins.supply ∧ (s.echoLost b).pending = s.pending := by
  simp only [State.echoLost]; repeat' split
  all_goals simp

@[simp] theorem State.contend_frame (s : State) (input : AccessInput) :
    (s.contend input).intake.queue = s.intake.queue ∧ (s.contend input).intake.held = s.intake.held
    ∧ (s.contend input).intake.counter = s.intake.counter ∧ (s.contend input).intake.slips = s.intake.slips
    ∧ (s.contend input).intake.lostFrames = s.intake.lostFrames
    ∧ (s.contend input).intake.checkErrors = s.intake.checkErrors
    ∧ (s.contend input).intake.received = s.intake.received
    ∧ (s.contend input).intake.silenceRunning = s.intake.silenceRunning
    ∧ (s.contend input).table.entries.length = s.table.entries.length
    ∧ (s.contend input).scan.huntChannels = s.scan.huntChannels ∧ (s.contend input).roam.hold = s.roam.hold
    ∧ (s.contend input).groups.identity = s.groups.identity ∧ (s.contend input).call = s.call
    ∧ (s.contend input).recallArea.list = s.recallArea.list
    ∧ (s.contend input).host.received = s.host.received ∧ (s.contend input).host.intake = s.host.intake
    ∧ (s.contend input).host.locked = s.host.locked ∧ (s.contend input).host.active = s.host.active
    ∧ (s.contend input).host.pendingParams = s.host.pendingParams
    ∧ (s.contend input).host.linkError = s.host.linkError
    ∧ (s.contend input).host.checkErrors = s.host.checkErrors
    ∧ (s.contend input).host.resetTaken = s.host.resetTaken
    ∧ (s.contend input).host.assembly = s.host.assembly ∧ (s.contend input).pins.supply = s.pins.supply
    ∧ (s.contend input).pending = s.pending := by
  simp only [State.contend]; repeat' split
  all_goals simp

@[simp] theorem State.registrationPhase_frame (s : State) (input : AccessInput) :
    (s.registrationPhase input).intake.queue = s.intake.queue
    ∧ (s.registrationPhase input).intake.held = s.intake.held
    ∧ (s.registrationPhase input).intake.counter = s.intake.counter
    ∧ (s.registrationPhase input).intake.slips = s.intake.slips
    ∧ (s.registrationPhase input).intake.lostFrames = s.intake.lostFrames
    ∧ (s.registrationPhase input).intake.checkErrors = s.intake.checkErrors
    ∧ (s.registrationPhase input).intake.received = s.intake.received
    ∧ (s.registrationPhase input).intake.silenceRunning = s.intake.silenceRunning
    ∧ (s.registrationPhase input).table.entries.length = s.table.entries.length
    ∧ (s.registrationPhase input).scan.huntChannels = s.scan.huntChannels
    ∧ (s.registrationPhase input).roam.hold = s.roam.hold
    ∧ (s.registrationPhase input).groups.identity = s.groups.identity
    ∧ (s.registrationPhase input).call = s.call
    ∧ (s.registrationPhase input).recallArea.list = s.recallArea.list
    ∧ (s.registrationPhase input).host.received = s.host.received
    ∧ (s.registrationPhase input).host.intake = s.host.intake
    ∧ (s.registrationPhase input).host.locked = s.host.locked
    ∧ (s.registrationPhase input).host.active = s.host.active
    ∧ (s.registrationPhase input).host.pendingParams = s.host.pendingParams
    ∧ (s.registrationPhase input).host.linkError = s.host.linkError
    ∧ (s.registrationPhase input).host.checkErrors = s.host.checkErrors
    ∧ (s.registrationPhase input).host.resetTaken = s.host.resetTaken
    ∧ (s.registrationPhase input).host.assembly = s.host.assembly
    ∧ (s.registrationPhase input).pins.supply = s.pins.supply
    ∧ (s.registrationPhase input).pending = s.pending := by
  simp only [State.registrationPhase]; repeat' split
  all_goals simp

@[simp] theorem State.countMultiframe_frame (s : State) (multiframe : Bool) :
    (s.countMultiframe multiframe).intake = s.intake ∧ (s.countMultiframe multiframe).table = s.table
    ∧ (s.countMultiframe multiframe).beacon = s.beacon ∧ (s.countMultiframe multiframe).ranking = s.ranking
    ∧ (s.countMultiframe multiframe).scan = s.scan ∧ (s.countMultiframe multiframe).roam = s.roam
    ∧ (s.countMultiframe multiframe).groups = s.groups ∧ (s.countMultiframe multiframe).call = s.call
    ∧ (s.countMultiframe multiframe).recallArea = s.recallArea
    ∧ (s.countMultiframe multiframe).host = s.host ∧ (s.countMultiframe multiframe).pins = s.pins
    ∧ (s.countMultiframe multiframe).frontEnd = s.frontEnd ∧ (s.countMultiframe multiframe).free = s.free
    ∧ (s.countMultiframe multiframe).pending = s.pending := by
  unfold State.countMultiframe; split <;> simp

@[simp] theorem State.checkTooLong_frame (s : State) :
    (s.checkTooLong).intake.queue = s.intake.queue ∧ (s.checkTooLong).intake.held = s.intake.held
    ∧ (s.checkTooLong).intake.counter = s.intake.counter ∧ (s.checkTooLong).intake.slips = s.intake.slips
    ∧ (s.checkTooLong).intake.lostFrames = s.intake.lostFrames
    ∧ (s.checkTooLong).intake.checkErrors = s.intake.checkErrors
    ∧ (s.checkTooLong).intake.received = s.intake.received
    ∧ (s.checkTooLong).intake.silenceRunning = s.intake.silenceRunning
    ∧ (s.checkTooLong).table.entries.length = s.table.entries.length
    ∧ (s.checkTooLong).scan.huntChannels = s.scan.huntChannels ∧ (s.checkTooLong).roam.hold = s.roam.hold
    ∧ (s.checkTooLong).groups.identity = s.groups.identity ∧ (s.checkTooLong).call = s.call
    ∧ (s.checkTooLong).recallArea.list = s.recallArea.list
    ∧ (s.checkTooLong).host.received = s.host.received ∧ (s.checkTooLong).host.intake = s.host.intake
    ∧ (s.checkTooLong).host.locked = s.host.locked ∧ (s.checkTooLong).host.active = s.host.active
    ∧ (s.checkTooLong).host.pendingParams = s.host.pendingParams
    ∧ (s.checkTooLong).host.linkError = s.host.linkError
    ∧ (s.checkTooLong).host.checkErrors = s.host.checkErrors
    ∧ (s.checkTooLong).host.resetTaken = s.host.resetTaken
    ∧ (s.checkTooLong).host.assembly = s.host.assembly ∧ (s.checkTooLong).pins.supply = s.pins.supply
    ∧ (s.checkTooLong).pending = s.pending := by
  unfold State.checkTooLong; split <;> simp

@[simp] theorem State.registrationRecord_frame (s : State) (r : Frame) (input : AccessInput) :
    (s.registrationRecord r input).intake.queue = s.intake.queue
    ∧ (s.registrationRecord r input).intake.held = s.intake.held
    ∧ (s.registrationRecord r input).intake.counter = s.intake.counter
    ∧ (s.registrationRecord r input).intake.slips = s.intake.slips
    ∧ (s.registrationRecord r input).intake.lostFrames = s.intake.lostFrames
    ∧ (s.registrationRecord r input).intake.checkErrors = s.intake.checkErrors
    ∧ (s.registrationRecord r input).intake.received = s.intake.received
    ∧ (s.registrationRecord r input).intake.silenceRunning = s.intake.silenceRunning
    ∧ (s.registrationRecord r input).table.entries.length = s.table.entries.length
    ∧ (s.registrationRecord r input).scan.huntChannels = s.scan.huntChannels
    ∧ (s.registrationRecord r input).roam.hold = s.roam.hold
    ∧ (s.registrationRecord r input).groups.identity = s.groups.identity
    ∧ (s.registrationRecord r input).call = s.call
    ∧ (s.registrationRecord r input).recallArea.list = s.recallArea.list
    ∧ (s.registrationRecord r input).host.received = s.host.received
    ∧ (s.registrationRecord r input).host.intake = s.host.intake
    ∧ (s.registrationRecord r input).host.locked = s.host.locked
    ∧ (s.registrationRecord r input).host.active = s.host.active
    ∧ (s.registrationRecord r input).host.pendingParams = s.host.pendingParams
    ∧ (s.registrationRecord r input).host.linkError = s.host.linkError
    ∧ (s.registrationRecord r input).host.checkErrors = s.host.checkErrors
    ∧ (s.registrationRecord r input).host.resetTaken = s.host.resetTaken
    ∧ (s.registrationRecord r input).host.assembly = s.host.assembly
    ∧ (s.registrationRecord r input).pins.supply = s.pins.supply
    ∧ (s.registrationRecord r input).pending = s.pending := by
  simp only [State.registrationRecord]; repeat' split
  all_goals simp

@[simp] theorem State.beginAckWait_frame (s : State) :
    (s.beginAckWait).intake = s.intake ∧ (s.beginAckWait).table = s.table
    ∧ (s.beginAckWait).beacon = s.beacon ∧ (s.beginAckWait).ranking = s.ranking
    ∧ (s.beginAckWait).scan = s.scan ∧ (s.beginAckWait).roam = s.roam ∧ (s.beginAckWait).groups = s.groups
    ∧ (s.beginAckWait).call = s.call ∧ (s.beginAckWait).recallArea = s.recallArea
    ∧ (s.beginAckWait).host = s.host ∧ (s.beginAckWait).pins = s.pins
    ∧ (s.beginAckWait).frontEnd = s.frontEnd ∧ (s.beginAckWait).free = s.free
    ∧ (s.beginAckWait).pending = s.pending := by
  simp [State.beginAckWait]

@[simp] theorem State.sendContinue_frame (s : State) :
    (s.sendContinue).intake = s.intake ∧ (s.sendContinue).table = s.table
    ∧ (s.sendContinue).beacon = s.beacon ∧ (s.sendContinue).ranking = s.ranking
    ∧ (s.sendContinue).scan = s.scan ∧ (s.sendContinue).roam = s.roam
    ∧ (s.sendContinue).groups.identity = s.groups.identity ∧ (s.sendContinue).call = s.call
    ∧ (s.sendContinue).recallArea = s.recallArea ∧ (s.sendContinue).host = s.host
    ∧ (s.sendContinue).pins = s.pins ∧ (s.sendContinue).free = s.free ∧ (s.sendContinue).pending = s.pending := by
  simp [State.sendContinue]

@[simp] theorem State.continueTimeout_frame (s : State) :
    (s.continueTimeout).intake = s.intake ∧ (s.continueTimeout).table = s.table
    ∧ (s.continueTimeout).beacon = s.beacon ∧ (s.continueTimeout).ranking = s.ranking
    ∧ (s.continueTimeout).scan.huntChannels = s.scan.huntChannels ∧ (s.continueTimeout).roam = s.roam
    ∧ (s.continueTimeout).groups.identity = s.groups.identity ∧ (s.continueTimeout).call = s.call
    ∧ (s.continueTimeout).recallArea = s.recallArea ∧ (s.continueTimeout).host = s.host
    ∧ (s.continueTimeout).pins = s.pins ∧ (s.continueTimeout).pending = s.pending := by
  simp [State.continueTimeout]

@[simp] theorem State.contendAgain_frame (s : State) :
    (s.contendAgain).intake = s.intake ∧ (s.contendAgain).table = s.table
    ∧ (s.contendAgain).beacon = s.beacon ∧ (s.contendAgain).ranking = s.ranking
    ∧ (s.contendAgain).scan = s.scan ∧ (s.contendAgain).roam = s.roam
    ∧ (s.contendAgain).groups.identity = s.groups.identity ∧ (s.contendAgain).call = s.call
    ∧ (s.contendAgain).recallArea = s.recallArea ∧ (s.contendAgain).host = s.host
    ∧ (s.contendAgain).pins = s.pins ∧ (s.contendAgain).pending = s.pending := by
  simp only [State.contendAgain]; split <;> simp

@[simp] theorem State.affiliateTimeout_frame (s : State) :
    (s.affiliateTimeout).intake = s.intake ∧ (s.affiliateTimeout).table = s.table
    ∧ (s.affiliateTimeout).beacon = s.beacon ∧ (s.affiliateTimeout).ranking = s.ranking
    ∧ (s.affiliateTimeout).scan = s.scan ∧ (s.affiliateTimeout).roam = s.roam
    ∧ (s.affiliateTimeout).groups.identity = s.groups.identity ∧ (s.affiliateTimeout).call = s.call
    ∧ (s.affiliateTimeout).recallArea = s.recallArea ∧ (s.affiliateTimeout).host = s.host
    ∧ (s.affiliateTimeout).pins = s.pins ∧ (s.affiliateTimeout).pending = s.pending := by
  simp only [State.affiliateTimeout]; repeat' split
  all_goals simp

@[simp] theorem State.continueRecord_frame (s : State) (input : AccessInput) :
    (s.continueRecord input).intake = s.intake ∧ (s.continueRecord input).table = s.table
    ∧ (s.continueRecord input).beacon = s.beacon ∧ (s.continueRecord input).ranking = s.ranking
    ∧ (s.continueRecord input).scan.huntChannels = s.scan.huntChannels
    ∧ (s.continueRecord input).roam = s.roam ∧ (s.continueRecord input).groups.identity = s.groups.identity
    ∧ (s.continueRecord input).call = s.call ∧ (s.continueRecord input).recallArea = s.recallArea
    ∧ (s.continueRecord input).host = s.host ∧ (s.continueRecord input).pins = s.pins
    ∧ (s.continueRecord input).pending = s.pending := by
  simp only [State.continueRecord]; repeat' split
  all_goals simp

@[simp] theorem State.affiliateLost_frame (s : State) (b : Burst) :
    (s.affiliateLost b).intake = s.intake ∧ (s.affiliateLost b).table = s.table
    ∧ (s.affiliateLost b).beacon = s.beacon ∧ (s.affiliateLost b).ranking = s.ranking
    ∧ (s.affiliateLost b).scan = s.scan ∧ (s.affiliateLost b).roam = s.roam
    ∧ (s.affiliateLost b).groups.identity = s.groups.identity ∧ (s.affiliateLost b).call = s.call
    ∧ (s.affiliateLost b).recallArea = s.recallArea ∧ (s.affiliateLost b).host = s.host
    ∧ (s.affiliateLost b).pins = s.pins ∧ (s.affiliateLost b).pending = s.pending := by
  simp only [State.affiliateLost]; repeat' split
  all_goals simp

@[simp] theorem State.affiliateRecord_frame (s : State) (input : AccessInput) :
    (s.affiliateRecord input).intake = s.intake ∧ (s.affiliateRecord input).table = s.table
    ∧ (s.affiliateRecord input).beacon = s.beacon ∧ (s.affiliateRecord input).ranking = s.ranking
    ∧ (s.affiliateRecord input).scan.huntChannels = s.scan.huntChannels
    ∧ (s.affiliateRecord input).roam = s.roam
    ∧ (s.affiliateRecord input).groups.identity = s.groups.identity
    ∧ (s.affiliateRecord input).call = s.call ∧ (s.affiliateRecord input).recallArea = s.recallArea
    ∧ (s.affiliateRecord input).host = s.host ∧ (s.affiliateRecord input).pins = s.pins
    ∧ (s.affiliateRecord input).pending = s.pending := by
  simp only [State.affiliateRecord]; repeat' split
  all_goals simp

@[simp] theorem State.multiframeExchange_frame (s : State) (engine0 : Engine) (multiframe : Bool) :
    (s.multiframeExchange engine0 multiframe).intake = s.intake
    ∧ (s.multiframeExchange engine0 multiframe).table = s.table
    ∧ (s.multiframeExchange engine0 multiframe).beacon = s.beacon
    ∧ (s.multiframeExchange engine0 multiframe).ranking = s.ranking
    ∧ (s.multiframeExchange engine0 multiframe).scan.huntChannels = s.scan.huntChannels
    ∧ (s.multiframeExchange engine0 multiframe).roam = s.roam
    ∧ (s.multiframeExchange engine0 multiframe).groups.identity = s.groups.identity
    ∧ (s.multiframeExchange engine0 multiframe).call = s.call
    ∧ (s.multiframeExchange engine0 multiframe).recallArea = s.recallArea
    ∧ (s.multiframeExchange engine0 multiframe).host = s.host
    ∧ (s.multiframeExchange engine0 multiframe).pins = s.pins
    ∧ (s.multiframeExchange engine0 multiframe).pending = s.pending := by
  unfold State.multiframeExchange; split <;> simp

@[simp] theorem State.accessRecord_frame (s : State) (r : Frame) (engine0 : Engine) (input : AccessInput) :
    (s.accessRecord r engine0 input).intake.queue = s.intake.queue
    ∧ (s.accessRecord r engine0 input).intake.held = s.intake.held
    ∧ (s.accessRecord r engine0 input).intake.counter = s.intake.counter
    ∧ (s.accessRecord r engine0 input).intake.slips = s.intake.slips
    ∧ (s.accessRecord r engine0 input).intake.lostFrames = s.intake.lostFrames
    ∧ (s.accessRecord r engine0 input).intake.checkErrors = s.intake.checkErrors
    ∧ (s.accessRecord r engine0 input).intake.received = s.intake.received
    ∧ (s.accessRecord r engine0 input).intake.silenceRunning = s.intake.silenceRunning
    ∧ (s.accessRecord r engine0 input).table.entries.length = s.table.entries.length
    ∧ (s.accessRecord r engine0 input).scan.huntChannels = s.scan.huntChannels
    ∧ (s.accessRecord r engine0 input).roam.hold = s.roam.hold
    ∧ (s.accessRecord r engine0 input).groups.identity = s.groups.identity
    ∧ (s.accessRecord r engine0 input).call = s.call
    ∧ (s.accessRecord r engine0 input).recallArea.list = s.recallArea.list
    ∧ (s.accessRecord r engine0 input).host.received = s.host.received
    ∧ (s.accessRecord r engine0 input).host.intake = s.host.intake
    ∧ (s.accessRecord r engine0 input).host.locked = s.host.locked
    ∧ (s.accessRecord r engine0 input).host.active = s.host.active
    ∧ (s.accessRecord r engine0 input).host.pendingParams = s.host.pendingParams
    ∧ (s.accessRecord r engine0 input).host.linkError = s.host.linkError
    ∧ (s.accessRecord r engine0 input).host.checkErrors = s.host.checkErrors
    ∧ (s.accessRecord r engine0 input).host.resetTaken = s.host.resetTaken
    ∧ (s.accessRecord r engine0 input).host.assembly = s.host.assembly
    ∧ (s.accessRecord r engine0 input).pins.supply = s.pins.supply
    ∧ (s.accessRecord r engine0 input).pending = s.pending := by
  simp only [State.accessRecord]; repeat' split
  all_goals simp

end Sys2Proof.Machine
end

