-- ==== Sys2Proof/Laws/IntakeFrame.lean ====
section
/-! SUPPORT. What the operations of the Frame Intake leave as it was. -/

namespace Sys2Proof.Machine

@[simp] theorem State.countCheckError_frame (s : State) :
    (s.countCheckError).intake.queue = s.intake.queue ∧ (s.countCheckError).intake.held = s.intake.held
    ∧ (s.countCheckError).intake.counter = s.intake.counter
    ∧ (s.countCheckError).intake.slips = s.intake.slips
    ∧ (s.countCheckError).intake.lostFrames = s.intake.lostFrames
    ∧ (s.countCheckError).intake.received = s.intake.received
    ∧ (s.countCheckError).intake.silenceRunning = s.intake.silenceRunning
    ∧ (s.countCheckError).table = s.table ∧ (s.countCheckError).beacon = s.beacon
    ∧ (s.countCheckError).ranking = s.ranking ∧ (s.countCheckError).scan = s.scan
    ∧ (s.countCheckError).roam = s.roam ∧ (s.countCheckError).access = s.access
    ∧ (s.countCheckError).groups = s.groups ∧ (s.countCheckError).call = s.call
    ∧ (s.countCheckError).recallArea = s.recallArea ∧ (s.countCheckError).host = s.host
    ∧ (s.countCheckError).pins = s.pins ∧ (s.countCheckError).frontEnd = s.frontEnd
    ∧ (s.countCheckError).free = s.free ∧ (s.countCheckError).pending = s.pending := by
  simp [State.countCheckError]

@[simp] theorem State.placeFrame_frame (s : State) (f : Frame) :
    (s.placeFrame f).intake.counter = s.intake.counter ∧ (s.placeFrame f).intake.slips = s.intake.slips
    ∧ (s.placeFrame f).intake.checkErrors = s.intake.checkErrors
    ∧ (s.placeFrame f).intake.received = s.intake.received ∧ (s.placeFrame f).table = s.table
    ∧ (s.placeFrame f).beacon = s.beacon ∧ (s.placeFrame f).ranking = s.ranking
    ∧ (s.placeFrame f).scan = s.scan ∧ (s.placeFrame f).roam = s.roam ∧ (s.placeFrame f).access = s.access
    ∧ (s.placeFrame f).groups = s.groups ∧ (s.placeFrame f).call = s.call
    ∧ (s.placeFrame f).recallArea = s.recallArea ∧ (s.placeFrame f).host = s.host
    ∧ (s.placeFrame f).pins = s.pins ∧ (s.placeFrame f).frontEnd = s.frontEnd
    ∧ (s.placeFrame f).free = s.free ∧ (s.placeFrame f).pending = s.pending := by
  simp only [State.placeFrame]; repeat' split
  all_goals simp

@[simp] theorem State.popFrame_frame (s : State) (rest : List Frame) :
    (s.popFrame rest).intake.counter = s.intake.counter ∧ (s.popFrame rest).intake.slips = s.intake.slips
    ∧ (s.popFrame rest).intake.lostFrames = s.intake.lostFrames
    ∧ (s.popFrame rest).intake.checkErrors = s.intake.checkErrors
    ∧ (s.popFrame rest).intake.received = s.intake.received
    ∧ (s.popFrame rest).intake.silenceRunning = s.intake.silenceRunning ∧ (s.popFrame rest).table = s.table
    ∧ (s.popFrame rest).beacon = s.beacon ∧ (s.popFrame rest).ranking = s.ranking
    ∧ (s.popFrame rest).scan = s.scan ∧ (s.popFrame rest).roam = s.roam
    ∧ (s.popFrame rest).access = s.access ∧ (s.popFrame rest).groups = s.groups
    ∧ (s.popFrame rest).call = s.call ∧ (s.popFrame rest).recallArea = s.recallArea
    ∧ (s.popFrame rest).host = s.host ∧ (s.popFrame rest).pins = s.pins
    ∧ (s.popFrame rest).frontEnd = s.frontEnd ∧ (s.popFrame rest).free = s.free
    ∧ (s.popFrame rest).pending = s.pending := by
  simp [State.popFrame]

@[simp] theorem State.advanceCounter_frame (s : State) (r : Frame) :
    (s.advanceCounter r).intake.queue = s.intake.queue ∧ (s.advanceCounter r).intake.held = s.intake.held
    ∧ (s.advanceCounter r).intake.lostFrames = s.intake.lostFrames
    ∧ (s.advanceCounter r).intake.checkErrors = s.intake.checkErrors
    ∧ (s.advanceCounter r).intake.received = s.intake.received
    ∧ (s.advanceCounter r).intake.silenceRunning = s.intake.silenceRunning
    ∧ (s.advanceCounter r).table = s.table ∧ (s.advanceCounter r).beacon = s.beacon
    ∧ (s.advanceCounter r).ranking = s.ranking ∧ (s.advanceCounter r).scan = s.scan
    ∧ (s.advanceCounter r).roam = s.roam ∧ (s.advanceCounter r).access = s.access
    ∧ (s.advanceCounter r).groups = s.groups ∧ (s.advanceCounter r).call = s.call
    ∧ (s.advanceCounter r).recallArea = s.recallArea ∧ (s.advanceCounter r).host = s.host
    ∧ (s.advanceCounter r).pins = s.pins ∧ (s.advanceCounter r).frontEnd = s.frontEnd
    ∧ (s.advanceCounter r).free = s.free ∧ (s.advanceCounter r).pending = s.pending := by
  unfold State.advanceCounter; repeat' split <;> simp

@[simp] theorem State.activate_frame (s : State) :
    (s.activate).intake = s.intake ∧ (s.activate).table.entries.length = s.table.entries.length
    ∧ (s.activate).beacon = s.beacon ∧ (s.activate).scan = s.scan ∧ (s.activate).roam = s.roam
    ∧ (s.activate).access = s.access ∧ (s.activate).groups = s.groups ∧ (s.activate).call = s.call
    ∧ (s.activate).recallArea = s.recallArea ∧ (s.activate).host.received = s.host.received
    ∧ (s.activate).host.intake = s.host.intake ∧ (s.activate).host.locked = s.host.locked
    ∧ (s.activate).host.linkError = s.host.linkError ∧ (s.activate).host.checkErrors = s.host.checkErrors
    ∧ (s.activate).host.resetTaken = s.host.resetTaken ∧ (s.activate).host.assembly = s.host.assembly
    ∧ (s.activate).pins = s.pins ∧ (s.activate).free = s.free ∧ (s.activate).pending = s.pending := by
  simp only [State.activate]; repeat' split
  all_goals simp

@[simp] theorem State.lossUpdate_frame (s : State) (r : Frame) :
    (s.lossUpdate r).1.intake.queue = s.intake.queue ∧ (s.lossUpdate r).1.intake.held = s.intake.held
    ∧ (s.lossUpdate r).1.intake.counter = s.intake.counter
    ∧ (s.lossUpdate r).1.intake.slips = s.intake.slips
    ∧ (s.lossUpdate r).1.intake.lostFrames = s.intake.lostFrames
    ∧ (s.lossUpdate r).1.intake.checkErrors = s.intake.checkErrors
    ∧ (s.lossUpdate r).1.intake.received = s.intake.received
    ∧ (s.lossUpdate r).1.intake.silenceRunning = s.intake.silenceRunning
    ∧ (s.lossUpdate r).1.table = s.table ∧ (s.lossUpdate r).1.beacon = s.beacon
    ∧ (s.lossUpdate r).1.ranking = s.ranking ∧ (s.lossUpdate r).1.scan = s.scan
    ∧ (s.lossUpdate r).1.roam = s.roam ∧ (s.lossUpdate r).1.access = s.access
    ∧ (s.lossUpdate r).1.groups = s.groups ∧ (s.lossUpdate r).1.call = s.call
    ∧ (s.lossUpdate r).1.recallArea = s.recallArea ∧ (s.lossUpdate r).1.host = s.host
    ∧ (s.lossUpdate r).1.pins = s.pins ∧ (s.lossUpdate r).1.frontEnd = s.frontEnd
    ∧ (s.lossUpdate r).1.free = s.free ∧ (s.lossUpdate r).1.pending = s.pending := by
  simp only [State.lossUpdate]; repeat' split
  all_goals simp

@[simp] theorem State.multiframeWork_frame (s : State) :
    (s.multiframeWork).intake = s.intake ∧ (s.multiframeWork).table.entries.length = s.table.entries.length
    ∧ (s.multiframeWork).scan.huntChannels = s.scan.huntChannels ∧ (s.multiframeWork).roam = s.roam
    ∧ (s.multiframeWork).access = s.access ∧ (s.multiframeWork).groups = s.groups
    ∧ (s.multiframeWork).call = s.call ∧ (s.multiframeWork).recallArea = s.recallArea
    ∧ (s.multiframeWork).host = s.host ∧ (s.multiframeWork).pins = s.pins
    ∧ (s.multiframeWork).frontEnd = s.frontEnd ∧ (s.multiframeWork).free = s.free
    ∧ (s.multiframeWork).pending = s.pending := by
  simp only [State.multiframeWork]; repeat' split
  all_goals simp

@[simp] theorem State.rankWithLoss_frame (s : State) (r : Frame) (role : Role) (multiframe : Bool) (order : Nat) :
    (s.rankWithLoss r role multiframe order).intake.queue = s.intake.queue
    ∧ (s.rankWithLoss r role multiframe order).intake.held = s.intake.held
    ∧ (s.rankWithLoss r role multiframe order).intake.counter = s.intake.counter
    ∧ (s.rankWithLoss r role multiframe order).intake.slips = s.intake.slips
    ∧ (s.rankWithLoss r role multiframe order).intake.lostFrames = s.intake.lostFrames
    ∧ (s.rankWithLoss r role multiframe order).intake.checkErrors = s.intake.checkErrors
    ∧ (s.rankWithLoss r role multiframe order).intake.received = s.intake.received
    ∧ (s.rankWithLoss r role multiframe order).intake.silenceRunning = s.intake.silenceRunning
    ∧ (s.rankWithLoss r role multiframe order).table.entries.length = s.table.entries.length
    ∧ (s.rankWithLoss r role multiframe order).scan.huntChannels = s.scan.huntChannels
    ∧ (s.rankWithLoss r role multiframe order).roam.hold = s.roam.hold
    ∧ (s.rankWithLoss r role multiframe order).groups.identity = s.groups.identity
    ∧ (s.rankWithLoss r role multiframe order).call = s.call
    ∧ (s.rankWithLoss r role multiframe order).recallArea.list = s.recallArea.list
    ∧ (s.rankWithLoss r role multiframe order).host.received = s.host.received
    ∧ (s.rankWithLoss r role multiframe order).host.intake = s.host.intake
    ∧ (s.rankWithLoss r role multiframe order).host.locked = s.host.locked
    ∧ (s.rankWithLoss r role multiframe order).host.active = s.host.active
    ∧ (s.rankWithLoss r role multiframe order).host.pendingParams = s.host.pendingParams
    ∧ (s.rankWithLoss r role multiframe order).host.linkError = s.host.linkError
    ∧ (s.rankWithLoss r role multiframe order).host.checkErrors = s.host.checkErrors
    ∧ (s.rankWithLoss r role multiframe order).host.resetTaken = s.host.resetTaken
    ∧ (s.rankWithLoss r role multiframe order).host.assembly = s.host.assembly
    ∧ (s.rankWithLoss r role multiframe order).pins.supply = s.pins.supply
    ∧ (s.rankWithLoss r role multiframe order).pending = s.pending := by
  unfold State.rankWithLoss; repeat' split <;> simp

@[simp] theorem State.filterWithIdentity_frame (s : State) (r : Frame) (lost first : Bool) (late : List Trigger)
    (place : Nat) :
    (s.filterWithIdentity r lost first late place).1.intake.queue = s.intake.queue
    ∧ (s.filterWithIdentity r lost first late place).1.intake.held = s.intake.held
    ∧ (s.filterWithIdentity r lost first late place).1.intake.counter = s.intake.counter
    ∧ (s.filterWithIdentity r lost first late place).1.intake.slips = s.intake.slips
    ∧ (s.filterWithIdentity r lost first late place).1.intake.lostFrames = s.intake.lostFrames
    ∧ (s.filterWithIdentity r lost first late place).1.intake.checkErrors = s.intake.checkErrors
    ∧ (s.filterWithIdentity r lost first late place).1.intake.received = s.intake.received
    ∧ (s.filterWithIdentity r lost first late place).1.intake.silenceRunning = s.intake.silenceRunning
    ∧ (s.filterWithIdentity r lost first late place).1.table.entries.length = s.table.entries.length
    ∧ (s.filterWithIdentity r lost first late place).1.scan.huntChannels = s.scan.huntChannels
    ∧ (s.filterWithIdentity r lost first late place).1.roam.hold = s.roam.hold
    ∧ (s.filterWithIdentity r lost first late place).1.groups.identity = s.groups.identity
    ∧ (s.filterWithIdentity r lost first late place).1.call = s.call
    ∧ (s.filterWithIdentity r lost first late place).1.recallArea.list = s.recallArea.list
    ∧ (s.filterWithIdentity r lost first late place).1.host.received = s.host.received
    ∧ (s.filterWithIdentity r lost first late place).1.host.intake = s.host.intake
    ∧ (s.filterWithIdentity r lost first late place).1.host.locked = s.host.locked
    ∧ (s.filterWithIdentity r lost first late place).1.host.active = s.host.active
    ∧ (s.filterWithIdentity r lost first late place).1.host.pendingParams = s.host.pendingParams
    ∧ (s.filterWithIdentity r lost first late place).1.host.linkError = s.host.linkError
    ∧ (s.filterWithIdentity r lost first late place).1.host.checkErrors = s.host.checkErrors
    ∧ (s.filterWithIdentity r lost first late place).1.host.resetTaken = s.host.resetTaken
    ∧ (s.filterWithIdentity r lost first late place).1.host.assembly = s.host.assembly
    ∧ (s.filterWithIdentity r lost first late place).1.pins.supply = s.pins.supply
    ∧ (s.filterWithIdentity r lost first late place).1.pending = s.pending := by
  cases lost <;> cases first <;> simp [State.filterWithIdentity]

@[simp] theorem State.huntWork_frame (s : State) (ran multiframe : Bool) :
    (s.huntWork ran multiframe).intake = s.intake ∧ (s.huntWork ran multiframe).table = s.table
    ∧ (s.huntWork ran multiframe).ranking = s.ranking
    ∧ (s.huntWork ran multiframe).scan.huntChannels = s.scan.huntChannels
    ∧ (s.huntWork ran multiframe).roam.hold = s.roam.hold ∧ (s.huntWork ran multiframe).access = s.access
    ∧ (s.huntWork ran multiframe).groups = s.groups ∧ (s.huntWork ran multiframe).call = s.call
    ∧ (s.huntWork ran multiframe).recallArea = s.recallArea
    ∧ (s.huntWork ran multiframe).host.received = s.host.received
    ∧ (s.huntWork ran multiframe).host.intake = s.host.intake
    ∧ (s.huntWork ran multiframe).host.locked = s.host.locked
    ∧ (s.huntWork ran multiframe).host.active = s.host.active
    ∧ (s.huntWork ran multiframe).host.pendingParams = s.host.pendingParams
    ∧ (s.huntWork ran multiframe).host.linkError = s.host.linkError
    ∧ (s.huntWork ran multiframe).host.checkErrors = s.host.checkErrors
    ∧ (s.huntWork ran multiframe).host.resetTaken = s.host.resetTaken
    ∧ (s.huntWork ran multiframe).host.assembly = s.host.assembly
    ∧ (s.huntWork ran multiframe).pins.supply = s.pins.supply ∧ (s.huntWork ran multiframe).free = s.free
    ∧ (s.huntWork ran multiframe).pending = s.pending := by
  unfold State.huntWork; split <;> simp

@[simp] theorem State.blocksHandle_frame (s : State) (base : State) (r : Frame) (role : Role) (multiframe lossRaised : Bool) :
    (s.blocksHandle base r role multiframe lossRaised).intake.queue = s.intake.queue
    ∧ (s.blocksHandle base r role multiframe lossRaised).intake.held = s.intake.held
    ∧ (s.blocksHandle base r role multiframe lossRaised).intake.counter = s.intake.counter
    ∧ (s.blocksHandle base r role multiframe lossRaised).intake.slips = s.intake.slips
    ∧ (s.blocksHandle base r role multiframe lossRaised).intake.lostFrames = s.intake.lostFrames
    ∧ (s.blocksHandle base r role multiframe lossRaised).intake.checkErrors = s.intake.checkErrors
    ∧ (s.blocksHandle base r role multiframe lossRaised).intake.received = s.intake.received
    ∧ (s.blocksHandle base r role multiframe lossRaised).intake.silenceRunning = s.intake.silenceRunning
    ∧ (s.blocksHandle base r role multiframe lossRaised).table.entries.length = s.table.entries.length
    ∧ (s.blocksHandle base r role multiframe lossRaised).scan.huntChannels = s.scan.huntChannels
    ∧ (s.blocksHandle base r role multiframe lossRaised).roam.hold = s.roam.hold
    ∧ (s.blocksHandle base r role multiframe lossRaised).groups.identity = s.groups.identity
    ∧ (s.blocksHandle base r role multiframe lossRaised).call = s.call
    ∧ (s.blocksHandle base r role multiframe lossRaised).recallArea.list = s.recallArea.list
    ∧ (s.blocksHandle base r role multiframe lossRaised).host.received = s.host.received
    ∧ (s.blocksHandle base r role multiframe lossRaised).host.intake = s.host.intake
    ∧ (s.blocksHandle base r role multiframe lossRaised).host.locked = s.host.locked
    ∧ (s.blocksHandle base r role multiframe lossRaised).host.active = s.host.active
    ∧ (s.blocksHandle base r role multiframe lossRaised).host.pendingParams = s.host.pendingParams
    ∧ (s.blocksHandle base r role multiframe lossRaised).host.linkError = s.host.linkError
    ∧ (s.blocksHandle base r role multiframe lossRaised).host.checkErrors = s.host.checkErrors
    ∧ (s.blocksHandle base r role multiframe lossRaised).host.resetTaken = s.host.resetTaken
    ∧ (s.blocksHandle base r role multiframe lossRaised).host.assembly = s.host.assembly
    ∧ (s.blocksHandle base r role multiframe lossRaised).pins.supply = s.pins.supply
    ∧ (s.blocksHandle base r role multiframe lossRaised).pending = s.pending := by
  unfold State.blocksHandle State.blocksInOrder
  dsimp only
  cases lossRaised <;> cases Config.triggersLate s.free <;> simp

/-! ## What the open orders can be -/

/-- R60, R95: where a SERVING LOST of the loss counter is acted on: before the Ranking Unit, between its updates and its triggers, or
after its triggers. -/
theorem State.rankWithLoss_cases (s : State) (r : Frame) (role : Role) (multiframe : Bool) (order : Nat) :
    let before := (s.takeLost .loss).rankRecord r role multiframe
    let ranked := s.rankRecord r role multiframe
    s.rankWithLoss r role multiframe order = before.1.takeTriggers before.2
      ∨ s.rankWithLoss r role multiframe order = (ranked.1.takeLost .loss).takeTriggers ranked.2
      ∨ s.rankWithLoss r role multiframe order = (ranked.1.takeTriggers ranked.2).takeLost .loss := by
  dsimp only [State.rankWithLoss]
  split
  · exact .inl rfl
  · split
    · exact .inr (.inl rfl)
    · exact .inr (.inr rfl)

/-- R95, R129: where the late triggers of a record stand beside an IDENTITY loss and the filter's handling: one of three places, with
the loss before or after the filter. -/
theorem State.filterWithIdentity_cases (s : State) (r : Frame) (first : Bool) (late : List Trigger) (place : Nat) :
    ∃ x ∈ [(late, [], []), ([], late, []), ([], [], late)],
      let lost := (((s.takeTriggers x.1).takeLost .identity).takeTriggers x.2.1).filterRecord r
      let filtered := (s.takeTriggers x.1).filterRecord r
      s.filterWithIdentity r true first late place = (lost.1.takeTriggers x.2.2, lost.2)
        ∨ s.filterWithIdentity r true first late place =
            (((filtered.1.takeTriggers x.2.1).takeLost .identity).takeTriggers x.2.2, filtered.2) := by
  have h : place % 3 = 0 ∨ place % 3 = 1 ∨ place % 3 = 2 := by omega
  rcases h with h | h | h
  · exact ⟨(late, [], []), by simp, by cases first <;> simp [State.filterWithIdentity, h]⟩
  · exact ⟨([], late, []), by simp, by cases first <;> simp [State.filterWithIdentity, h]⟩
  · exact ⟨([], [], late), by simp, by cases first <;> simp [State.filterWithIdentity, h]⟩

end Sys2Proof.Machine
end

