-- ==== Sys2Proof/Laws/PerInstr.lean ====
section
/-! SUPPORT. Statements for all commands, one lemma for each constructor: the family OperandShape says what makes a command well
formed by the operands it carries. -/

namespace Sys2Proof.Laws.OperandShape

/-- The bytes a line row brings. -/
def lineBytes : Instr → Option (List Byte)
  | .frameRecordComplete bytes => some bytes
  | .burstDone bytes => some bytes
  | .hostFrameComplete bytes => some bytes
  | .hostFrameLengthDiscard bytes => some bytes
  | .frontEndLengthDiscard bytes => some bytes
  | _ => none

/-- The entry a limit row names. -/
def entryIndex : Instr → Option Nat
  | .heardAgeLimit index => some index
  | .barEnd index => some index
  | .digestAgeLimit index => some index
  | _ => none

/-- A command is well formed exactly when the bytes it brings, if any, are not empty, and the entry it names, if any, is one of the
twelve. -/
def Statement (i : Instr) : Prop :=
  i.wellFormed = true ↔ (∀ bytes, lineBytes i = some bytes → bytes ≠ []) ∧ ∀ index, entryIndex i = some index → index < 12

/-- A command without operands. -/
theorem statement_of_plain {i : Instr} (h : i.wellFormed = true) (hb : lineBytes i = none) (hi : entryIndex i = none) :
    Statement i :=
  iff_of_true h ⟨by simp [hb], by simp [hi]⟩

/-- A command that brings bytes. -/
theorem statement_of_bytes {i : Instr} {bytes : List Byte} (h : i.wellFormed = bytesWellFormed bytes)
    (hb : lineBytes i = some bytes) (hi : entryIndex i = none) : Statement i := by
  cases bytes <;> simp [Statement, h, hb, hi, bytesWellFormed]

/-- A command that names an entry. -/
theorem statement_of_index {i : Instr} {index : Nat} (h : i.wellFormed = indexWellFormed index)
    (hb : lineBytes i = none) (hi : entryIndex i = some index) : Statement i := by
  simp [Statement, h, hb, hi, indexWellFormed]

theorem frameRecordComplete (bytes : List Byte) : Statement (.frameRecordComplete bytes) := statement_of_bytes rfl rfl rfl
theorem burstDone (bytes : List Byte) : Statement (.burstDone bytes) := statement_of_bytes rfl rfl rfl
theorem recordTaken : Statement .recordTaken := statement_of_plain rfl rfl rfl
theorem heardAgeLimit (index : Nat) : Statement (.heardAgeLimit index) := statement_of_index rfl rfl rfl
theorem barEnd (index : Nat) : Statement (.barEnd index) := statement_of_index rfl rfl rfl
theorem departureDecay : Statement .departureDecay := statement_of_plain rfl rfl rfl
theorem digestAgeLimit (index : Nat) : Statement (.digestAgeLimit index) := statement_of_index rfl rfl rfl
theorem servingReport : Statement .servingReport := statement_of_plain rfl rfl rfl
theorem servingLossLimit : Statement .servingLossLimit := statement_of_plain rfl rfl rfl
theorem huntListenReadLimit : Statement .huntListenReadLimit := statement_of_plain rfl rfl rfl
theorem huntLimit : Statement .huntLimit := statement_of_plain rfl rfl rfl
theorem readingUnreadable : Statement .readingUnreadable := statement_of_plain rfl rfl rfl
theorem grantWaitTimeout : Statement .grantWaitTimeout := statement_of_plain rfl rfl rfl
theorem tooLong : Statement .tooLong := statement_of_plain rfl rfl rfl
theorem affilAckWaitTimeout : Statement .affilAckWaitTimeout := statement_of_plain rfl rfl rfl
theorem silenceTimeout : Statement .silenceTimeout := statement_of_plain rfl rfl rfl
theorem hostFrameComplete (bytes : List Byte) : Statement (.hostFrameComplete bytes) := statement_of_bytes rfl rfl rfl
theorem interByteGapTimeout : Statement .interByteGapTimeout := statement_of_plain rfl rfl rfl
theorem unknownKindCommand : Statement .unknownKindCommand := statement_of_plain rfl rfl rfl
theorem provision : Statement .provision := statement_of_plain rfl rfl rfl
theorem setParameters : Statement .setParameters := statement_of_plain rfl rfl rfl
theorem loadSite : Statement .loadSite := statement_of_plain rfl rfl rfl
theorem dropSite : Statement .dropSite := statement_of_plain rfl rfl rfl
theorem setHuntChannels : Statement .setHuntChannels := statement_of_plain rfl rfl rfl
theorem setGroups : Statement .setGroups := statement_of_plain rfl rfl rfl
theorem start : Statement .start := statement_of_plain rfl rfl rfl
theorem stop : Statement .stop := statement_of_plain rfl rfl rfl
theorem callState : Statement .callState := statement_of_plain rfl rfl rfl
theorem roamHold : Statement .roamHold := statement_of_plain rfl rfl rfl
theorem roamTo : Statement .roamTo := statement_of_plain rfl rfl rfl
theorem roamAbort : Statement .roamAbort := statement_of_plain rfl rfl rfl
theorem querySite : Statement .querySite := statement_of_plain rfl rfl rfl
theorem queryStatus : Statement .queryStatus := statement_of_plain rfl rfl rfl
theorem recallClear : Statement .recallClear := statement_of_plain rfl rfl rfl
theorem reset : Statement .reset := statement_of_plain rfl rfl rfl
theorem recordSent : Statement .recordSent := statement_of_plain rfl rfl rfl
theorem softReset : Statement .softReset := statement_of_plain rfl rfl rfl
theorem rstnLow : Statement .rstnLow := statement_of_plain rfl rfl rfl
theorem powerOn : Statement .powerOn := statement_of_plain rfl rfl rfl
theorem recallWriteComplete : Statement .recallWriteComplete := statement_of_plain rfl rfl rfl
theorem recallEraseComplete : Statement .recallEraseComplete := statement_of_plain rfl rfl rfl
theorem powerLoss : Statement .powerLoss := statement_of_plain rfl rfl rfl
theorem hostFrameLengthDiscard (bytes : List Byte) : Statement (.hostFrameLengthDiscard bytes) := statement_of_bytes rfl rfl rfl
theorem frontEndLengthDiscard (bytes : List Byte) : Statement (.frontEndLengthDiscard bytes) := statement_of_bytes rfl rfl rfl

end Sys2Proof.Laws.OperandShape
end

