-- ==== Sys2Proof/Laws/SiteTable.lean ====
section
/-! SUPPORT. The Site Table's operations in the terms of the statements. -/

namespace Sys2Proof.Machine

theorem Visit.withoutSite_eq (v : Visit) (e : Entry) :
    v.withoutSite e = if e.status ≠ .free ∧ e.code = v.code then { v with objectGone := true } else v := by
  cases v
  by_cases h : e.status = .free <;> simp [Visit.withoutSite, Entry.occupied, h]
  split <;> simp_all

/-- R15, R16: what replacing an entry does: the visit for its site loses its object, and the entry takes the content. -/
theorem State.replaceEntry_eq (s : State) (i : Nat) (e : Entry) :
    s.replaceEntry i e = (s.withoutObject i).setTable (s.withEntry i e) := by
  simp only [State.replaceEntry, State.loseObject, State.withoutObject, Visit.withoutSite_eq]
  rfl

/-- R60, R76: the entry a visit's measure record is meant for. -/
theorem State.meantFor_measure_none {s : State} {r : Frame} {v : Visit} (h : v.objectGone = true) :
    s.meantFor r (.measure v) = none := by
  simp [State.meantFor, h]

end Sys2Proof.Machine
end

