-- ==== Sys2Proof/Tests/Slice0.lean ====
section
/-! SUPPORT. The model's own tests: ill-formed commands, worked examples of the spec (each names its section), one step of each
command, and a witness for the hypotheses of each statement. -/

namespace Sys2Proof.Tests

open Sys2Proof.Machine

/-! ## Small states -/

/-- An entry of a status with a site code, channel and colour. -/
def site (status : Status) (code channel colour : Nat) : Entry :=
  { Entry.free with status := status, code := code, channel := channel, colour := colour, origin := .found }

/-- A table that begins with the given entries. -/
def tableOf (l : List Entry) : SiteTable := { State.reset.table with entries := l ++ List.replicate (12 - l.length) Entry.free }

/-- CAMPED on site 201 (entry 0), with site 117 measured (entry 1) and site 140 listed (entry 2); identity 0x04A7C2. -/
def camped : State :=
  { State.reset with
    table := tableOf [site .serving 201 310 12, { site .heard 117 322 5 with level := 1138, samples := 11 }, site .listed 140 355 3]
    roam := { State.reset.roam with engine := .camped }
    access := { AccessUnit.reset with generator := some 0x1234#16 }
    groups := { identity := some 0x04A7C2#24, groups := [] }
    host := { State.reset.host with transmit := [], locked := true } }

/-- HUNT, entered from CAMPED: no entry serves. -/
def hunting : State :=
  { camped with
    table := tableOf [site .heard 201 310 12, site .listed 140 355 3]
    roam := { camped.roam with engine := .hunt }
    pins := { camped.pins with txinh := true } }

/-- A registration with site 117 from CAMPED, in a phase. -/
def registering (phase : AccessState) : State :=
  { camped with
    roam :=
      { camped.roam with engine := .registering, previous := some 201, reason := some .dwell, enteredFrom := .camped }
    access :=
      { camped.access with
        state := phase, target := 117, previous := 201, attemptLimit := 6, grantWait := 32, readLimit := 32
        registrationLimit := 12, params := some { slots := 4, window := 7 } }
    pins := { camped.pins with txinh := true } }

/-- A command waits at the head of the intake queue. -/
def offering (s : State) (kind : Byte) (body : List Byte) : State :=
  { s with host := { s.host with intake := [{ kind := kind, tag := 7, body := body }], transmit := [] } }

/-- The state after a command, itself when it does not answer a next state. -/
def after (i : Instr) (s : State) : State :=
  match exec i s with
  | .next t => t
  | _ => s

/-- The body of the record last queued. -/
def lastBody (s : State) : List Byte := (s.host.transmit.getLast?.map HostFrame.body).getD []

/-- A synced record with frame check FAIL on channel 322, colour 5, at a position. -/
def failed (position level : Nat) : Frame :=
  { position := position, channel := 322, sync := some 5, level := level, settling := false, check := .fail
    fragment := none, block := none }

/-- An unsynced record. -/
def unsynced (position : Nat) : Frame := { failed position 0 with channel := 310, sync := none, check := .unchecked }

/-! ## Ill-formed commands -/

theorem test_wellFormed_refuses_no_bytes : Instr.wellFormed (.frameRecordComplete []) = false := by decide
theorem test_wellFormed_refuses_no_burst_bytes : Instr.wellFormed (.burstDone []) = false := by decide
theorem test_wellFormed_refuses_no_host_bytes : Instr.wellFormed (.hostFrameComplete []) = false := by decide
theorem test_wellFormed_refuses_no_discard_bytes :
    Instr.wellFormed (.hostFrameLengthDiscard []) = false ∧ Instr.wellFormed (.frontEndLengthDiscard []) = false := by decide
theorem test_wellFormed_refuses_entry_12 :
    Instr.wellFormed (.heardAgeLimit 12) = false ∧ Instr.wellFormed (.barEnd 12) = false
      ∧ Instr.wellFormed (.digestAgeLimit 12) = false := by decide
theorem test_wellFormed_takes_entry_11 : Instr.wellFormed (.barEnd 11) = true := by decide
theorem test_no_table_word : decodeTableWord 8 0 = none ∧ State.reset.withFetchWord 8 0 = State.reset := by decide

/-! ## Codes and formats -/

/-- The published check values of these two generators over the nine characters 1 to 9. -/
theorem test_checks :
    crc8 [0x31, 0x32, 0x33, 0x34, 0x35, 0x36, 0x37, 0x38, 0x39] = 0xF4
      ∧ crc16 [0x31, 0x32, 0x33, 0x34, 0x35, 0x36, 0x37, 0x38, 0x39] = 0x29B1#16 := by decide +kernel

/-- 12.1: position 5, SYNCED, channel 322, check FAIL, colour 5, level 77. -/
theorem test_frame_body : examineFrame [0x15, 0x01, 0x42, 0x85, 77] = some (failed 5 77) := by decide

/-- R25: a frame check value of 3 fails the examination. -/
theorem test_frame_body_check_3 : examineFrame [0x15, 0x01, 0x42, 0xC5, 77] = none := by decide

/-- 12.1, R119: a REDIRECT grant to site 140 on channel 355, colour 3, and one that names site 0. -/
theorem test_grant :
    readGrant [3, 0x00, 0x8C, 3, 0x01, 0x63] = .redirect 140 355 3 ∧ readGrant [3, 0, 0, 3, 0x01, 0x63] = .other := by decide

/-- R128, R166: an ECHO with slot 7, and one with a slot above 7, which is passed over. -/
theorem test_echo_slot :
    readMessage { kind := 0, destination := 1#24, code := 1, payload := [7, 0, 0, 0, 0, 0] } = some (.echo 7)
      ∧ readMessage { kind := 0, destination := 1#24, code := 1, payload := [8, 0, 0, 0, 0, 0] } = none := by decide

/-- 12.4.1: channels 322 and 500 packed into three bytes. -/
theorem test_hunt_channels : readChannels [2, 0x50, 0x9F, 0x40] = some [322, 500] := by decide

/-- 12.2: a neighbour item of site 455, colour 9, channel 341, load class 1, isolated. -/
theorem test_neighbour :
    readNeighbour [0, 0, 0, 1, 0, 0, 0x1C, 0x72, 0x55, 0x53] 0
      = { code := 455, colour := 9, channel := 341, load := 1, isolated := true } := by decide

/-! ## Worked examples -/

/-- Section 7.8. -/
theorem test_backoff_draws :
    generatorStep 0x1234#16 = 0x091A#16 ∧ generatorStep 0x091A#16 = 0x848D#16 ∧ generatorStep 0x848D#16 = 0xC246#16 := by
  decide

/-- Section 7.8: the first draw with a window of 7 gives 7. -/
theorem test_first_draw : (registering .tuning).draw.access.backoff = 7 := by decide

/-- Section 4.10: samples 80, 84 and 20 with shift 2. -/
theorem test_filter : filtered 2 9 1000 80 = 1070 ∧ filtered 2 10 1070 84 = 1138 ∧ filtered 2 11 1138 20 = 934 := by decide

/-- Section 4.11: the truncation band. -/
theorem test_truncation_band : filtered 2 9 996 62 = 995 ∧ filtered 2 9 995 62 = 995 ∧ filtered 2 9 995 63 = 998 := by decide

/-- Section 4.10: 1000 + 16 (4 - 3 * 2) = 968, and without the load term in an emergency 1000 + 64. -/
theorem test_score :
    let e : Entry :=
      { site .heard 117 322 5 with
        level := 1000, samples := 9, preference := 4
        digest := some { load := 3, isolated := false, own := none, age := 0 } }
    camped.score e = 968 ∧ { camped with call := { call := .idle, emergency := true } }.score e = 1064 := by decide

/-- The table of Section 1.11, with levels that give the scores shown. -/
def table111 : SiteTable :=
  tableOf
    [{ site .serving 201 310 12 with origin := .pinned, level := 868, samples := 9 },
     { site .heard 117 322 5 with origin := .neighbour, level := 1106, samples := 9 },
     { site .listed 118 330 7 with origin := .neighbour }, { site .heard 140 355 3 with level := 640, samples := 9 },
     { site .listed 152 367 1 with origin := .pinned },
     { site .heard 163 372 8 with origin := .neighbour, level := 412, samples := 9 },
     { site .listed 171 388 2 with origin := .recalled },
     { site .heard 176 391 4 with origin := .neighbour, level := 905, samples := 9 },
     { site .listed 180 402 6 with origin := .neighbour },
     { site .heard 185 410 11 with origin := .pinned, level := 355, samples := 9 },
     { site .listed 190 415 10 with origin := .neighbour }, site .listed 195 420 0]

/-- Section 1.11, with entry 1 as the watch candidate. -/
def full : State := { camped with table := table111, ranking := { camped.ranking with watch := some 1 } }

/-- The neighbour list of Section 1.11. -/
def list111 : List Neighbour :=
  [{ code := 118, colour := 7, channel := 330, load := 2, isolated := false },
   { code := 455, colour := 9, channel := 341, load := 1, isolated := false },
   { code := 460, colour := 5, channel := 322, load := 0, isolated := false },
   { code := 470, colour := 2, channel := 433, load := 4, isolated := true },
   { code := 117, colour := 5, channel := 322, load := 3, isolated := false }]

/-- Section 1.11: what the import leaves at entries 10, 11 and 1, and in the counters. -/
theorem test_import :
    let t := full.importItems [] list111
    (t.entry 10).code = 470 ∧ (t.entry 11).code = 455 ∧ (t.entry 1).code = 117
      ∧ (t.entry 1).digest = some { load := 3, isolated := false, own := none, age := 0 }
      ∧ t.table.conflicts = 1 ∧ t.table.skips = 0 ∧ t.ranking.watch = some 1 := by decide

/-- Section 1.11, last paragraph: with no evictable LISTED entry the HEARD entry of lowest score goes. -/
theorem test_victim_heard : full.victim [2, 6, 8, 10, 11] = some 5 := by decide

/-- Section 10.6: the recall page. -/
def page106 : List Host.Cell :=
  let put (m : List Host.Cell) (x : Nat × List Byte) : List Host.Cell := writeSlot m x.1 x.2
  [(0, slotBytes { code := 201, channel := 310, colour := 12 }), (1, slotBytes { code := 117, channel := 322, colour := 5 }),
   (2, slotBytes { code := 201, channel := 310, colour := 12 }), (3, slotBytes { code := 140, channel := 355, colour := 3 }),
   (4, [1, 2, 3, 4, 5, 6]), (5, slotBytes { code := 176, channel := 391, colour := 4 }),
   (6, slotBytes { code := 117, channel := 322, colour := 5 }), (7, [0, 0, 0, 0, 0, 1])].foldl put []

/-- Section 10.6. -/
theorem test_recall_list :
    (recallListOf page106).map Site.code = [117, 176, 140, 201] ∧ usedPrefix page106 = 8 ∧ pageUnsound page106 = false := by
  decide +kernel

/-- Section 5.10: the hunt list. -/
theorem test_hunt_list :
    let t : State :=
      { camped with
        table :=
          tableOf
            [{ site .heard 201 310 12 with level := 300, samples := 40 },
             { site .heard 117 322 5 with level := 600, samples := 12 }, Entry.free,
             { site .heard 140 355 3 with level := 620, samples := 9 }, Entry.free,
             { site .heard 163 372 8 with level := 900, samples := 7, barred := 12 }, Entry.free,
             { site .heard 176 391 4 with level := 610, samples := 3 }, Entry.free, site .listed 185 410 11,
             site .listed 470 433 2]
        recallArea :=
          { camped.recallArea with
            list :=
              [{ code := 201, channel := 310, colour := 12 }, { code := 117, channel := 322, colour := 5 },
               { code := 176, channel := 391, colour := 4 }] }
        scan := { camped.scan with huntChannels := [322, 500, 512] } }
    t.huntSources = [310, 322, 391, 355, 410, 433, 500, 512] := by decide

/-- Section 8.8: 0x120040, 0x120041, 0x7F001C and 0x7F0020 against the five groups. -/
theorem test_group_match :
    let t : State :=
      { camped with
        groups :=
          { camped.groups with
            groups :=
              [{ id := 0x120040#24, mask := 0x000000#24, delivery := .unsent },
               { id := 0x120000#24, mask := 0x0000FF#24, delivery := .unsent },
               { id := 0x3A0000#24, mask := 0x00FFFF#24, delivery := .unsent },
               { id := 0x7F0010#24, mask := 0x00000F#24, delivery := .unsent },
               { id := 0x120041#24, mask := 0x000000#24, delivery := .unsent }] } }
    t.matchingGroup 0x120040#24 = some 0 ∧ t.matchingGroup 0x120041#24 = some 1 ∧ t.matchingGroup 0x7F001C#24 = some 3
      ∧ t.matchingGroup 0x7F0020#24 = none := by decide

/-- Section 7.9, record F9: AFFIL ACK with count 4 confirms groups 1 to 4 and returns 5 and 6. -/
theorem test_acknowledge :
    let g : Group := { id := 1#24, mask := 0#24, delivery := .sent }
    (acknowledge 4 (List.replicate 6 g)).map Group.delivery
      = [.confirmed, .confirmed, .confirmed, .confirmed, .unsent, .unsent] := by decide

/-- Section 5.5: the round robin after pointer 3 with candidates 1, 3, 7 and 9. -/
theorem test_round_robin :
    let t : State :=
      { camped with
        table :=
          tableOf
            [site .serving 201 310 12, site .heard 117 322 5, Entry.free, site .heard 140 355 3, Entry.free,
             { site .heard 163 372 8 with barred := 1 }, Entry.free, site .heard 176 391 4, Entry.free,
             site .listed 185 410 11]
        scan := { camped.scan with pointer := 3 } }
    t.roundRobin none = some 7 ∧ { t with scan := { t.scan with pointer := 9 } }.roundRobin (some 9) = some 1 := by decide

/-- Section 10.5: the second and third requests wait, the later one in the place of the earlier. -/
theorem test_append_waits :
    let a : RecallArea :=
      { camped.recallArea with fill := 31, writer := .writing { code := 140, channel := 355, colour := 3 } }
    (a.append { code := 201, channel := 310, colour := 12 }).append { code := 176, channel := 391, colour := 4 }
      = { a with pendingWrite := some { code := 176, channel := 391, colour := 4 } } := by decide

/-! ## One step of the commands -/

/-- Section 2.7: record 9 completes with four queued and is held, record 10 is lost. -/
theorem test_frame_record_held_and_lost :
    let s : State := { camped with intake := { camped.intake with queue := [unsynced 5, unsynced 6, unsynced 7, unsynced 8] } }
    let t := after (.frameRecordComplete (frontEndFrame 1 [0x15, 0x01, 0x42, 0x85, 77])) s
    let u := after (.frameRecordComplete (frontEndFrame 1 [0x15, 0x01, 0x42, 0x85, 77])) t
    t.intake.held = some (failed 5 77) ∧ t.intake.lostFrames = 0 ∧ u.intake.lostFrames = 1 := by decide +kernel

/-- R24: a damaged record is counted and leaves the queue. -/
theorem test_frame_record_bad_check :
    let t := after (.frameRecordComplete [0xB5, 6, 1, 0x15, 0x01, 0x42, 0x85, 77, 0]) camped
    t.intake.checkErrors = 1 ∧ t.intake.queue = [] := by decide +kernel

/-- R117: a MISSED burst of position 5 gives its attempt back, and draw 2 of Section 7.9 gives 5. -/
theorem test_burst_missed :
    let s := registering .contending
    let s1 : State :=
      { s with
        access :=
          { s.access with
            generator := some 0x091A#16, attempts := 1, outstanding := some { position := 5, carried := [] } } }
    let t := after (.burstDone (frontEndFrame 2 [5, 2])) s1
    t.access.attempts = 0 ∧ t.access.missedSlots = 1 ∧ t.access.outstanding = none ∧ t.access.backoff = 5 := by decide +kernel

/-- R24: a length no modem record has discards the record at once. -/
theorem test_front_end_length :
    (after (.frontEndLengthDiscard [0xB5, 4]) camped).intake.checkErrors = 1 := by decide

/-- R18: entry 1 falls to LISTED at a heard age of 40. -/
theorem test_heard_age :
    let s := camped.setEntry 1 { camped.entry 1 with heardAge := 39 }
    let t := after (.heardAgeLimit 1) s
    (t.entry 1).status = .listed ∧ (t.entry 1).level = 0 ∧ (t.entry 1).heardAge = 40 := by decide

/-- R21. -/
theorem test_bar_end :
    ((after (.barEnd 1) (camped.setEntry 1 { camped.entry 1 with barred := 1 })).entry 1).barred = 0 := by decide

/-- R22: with decay interval 4 the fourth multiframe start lowers the penalties. -/
theorem test_departure_decay :
    let s := camped.setEntry 1 { camped.entry 1 with penalty := 16 }
    let t := after .departureDecay { s with table := { s.table with decay := 3 } }
    (t.entry 1).penalty = 15 ∧ t.table.decay = 0 := by decide

/-- R55: a digest of age 59 becomes absent at the limit of 60. -/
theorem test_digest_age :
    let s := camped.setEntry 1 { camped.entry 1 with digest := some { load := 1, isolated := false, own := none, age := 59 } }
    ((after (.digestAgeLimit 1) s).entry 1).digest = none := by decide

/-- The parameters with one value changed. -/
def withPar (s : State) (p : Param) (v : Nat) : State :=
  { s with host := { s.host with active := s.host.active.set p.place v } }

/-- R73: a SERVING REPORT with index 0, site 201. -/
theorem test_serving_report :
    lastBody (after .servingReport (withPar camped .reportInterval 1)) = [0, 0, 201, 0, 0, 0, 0, 0, 0] := by decide

/-- R96: with no eligible entry but the lost one the loss leads to HUNT. -/
theorem test_serving_loss_hunt :
    let s : State :=
      { camped with table := tableOf [site .serving 201 310 12], intake := { camped.intake with loss := 15 } }
    let t := after .servingLossLimit s
    t.roam.engine = .hunt ∧ t.pins.txinh = true ∧ (t.entry 0).status = .heard
      ∧ lastBody t = [2, 1, 4, 1] := by decide

/-- R96: with entry 1 eligible the loss leads to REGISTERING with reason LOSS. -/
theorem test_serving_loss_registers :
    let t := after .servingLossLimit { camped with intake := { camped.intake with loss := 15 } }
    t.roam.engine = .registering ∧ t.roam.reason = some .loss ∧ t.access.target = 117 ∧ t.roam.previous = none := by decide

/-- A hunt-listen of site 140's channel and colour. -/
def listening (s : State) (count : Nat) : State :=
  { s with scan := { s.scan with listen := some { channel := 355, colour := 3, limit := 32, count := count, level := 50 } } }

/-- R85: the 32nd frame ends the hunt-listen. -/
theorem test_listen_limit : (after .huntListenReadLimit (listening hunting 31)).scan.listen = none := by decide

/-- Section 6.11: the 63rd multiframe start leads from HUNT to DIRECT. -/
theorem test_hunt_limit :
    let t := after .huntLimit { hunting with roam := { hunting.roam with huntTimer := 62 } }
    t.roam.engine = .direct ∧ t.roam.huntTimer = 63 ∧ t.roam.expired = true ∧ t.pins.txinh = false
      ∧ lastBody t = [1, 4, 7, 0] := by decide

/-- R113: 32 records without a beacon fail UNREADABLE; the target is barred for 30. -/
theorem test_unreadable :
    let s := registering .reading
    let t := after .readingUnreadable { s with access := { s.access with wait := 31 } }
    t.roam.engine = .camped ∧ (t.entry 1).barred = 30 ∧ lastBody t = [1, 0, 117, 0, 0, 30] := by decide

/-- Section 6.10: NO ACCESS after the last attempt; ROAM FAILED names index 1, site 117, NO ACCESS, DWELL, bar 30. -/
theorem test_no_access :
    let s := registering .awaitingGrant
    let t := after .grantWaitTimeout { s with access := { s.access with wait := 31, attempts := 6 } }
    t.roam.engine = .camped ∧ t.pins.txinh = false ∧ lastBody t = [1, 0, 117, 4, 0, 30] := by decide

/-- R119: with attempts left the unit contends again. -/
theorem test_grant_timeout_draws :
    let s := registering .awaitingGrant
    let t := after .grantWaitTimeout { s with access := { s.access with wait := 31, attempts := 5 } }
    t.access.state = .contending ∧ t.access.backoff = 7 := by decide

/-- R121: cause TOO LONG is 9 (12.4.3). -/
theorem test_too_long :
    let s := registering .contending
    lastBody (after .tooLong { s with access := { s.access with multiframes := 11 } }) = [1, 0, 117, 9, 0, 30] := by decide

/-- CAMPED with an affiliation exchange that waits for AFFIL ACK with one group SENT. -/
def affiliating : State :=
  { camped with
    access :=
      { camped.access with
        state := .affiliating, awaitingAck := true, wait := 31, grantWait := 32, attemptLimit := 6, attempts := 6
        params := some { slots := 4, window := 7 } }
    groups := { camped.groups with groups := [{ id := 1#24, mask := 0#24, delivery := .sent }] } }

/-- R125: with no attempts left the exchange fails and its group is UNSENT again. -/
theorem test_affil_ack_wait :
    let t := after .affilAckWaitTimeout affiliating
    t.access.state = .idle ∧ t.groups.groups.map Group.delivery = [.unsent] := by decide

/-- R125: with every group CONFIRMED the exchange ends at its timeout, with no burst sent. -/
theorem test_affil_ack_wait_confirmed :
    let t := after .affilAckWaitTimeout
      { affiliating with
        access := { affiliating.access with attempts := 0, sitePosition := some 0 }
        groups := { affiliating.groups with groups := [{ id := 1#24, mask := 0#24, delivery := .confirmed }] } }
    t.access.state = .idle ∧ t.frontEnd = [] := by decide

/-- R73: an activation of report interval 0 outside CAMPED clears the report counter. -/
theorem test_report_counter_held :
    let s : State := { hunting with ranking := { hunting.ranking with reportCount := 7 } }
    s.activate.ranking.reportCount = 0 := by decide

/-- R87: on entry to CAMPED with offset 2 the starts at 2 and 6 are spent when their decision records have been taken, start 10,
whose record a realignment passed over, is not, and neither is 3, which the plan does not hold. -/
theorem test_rebuild_plan :
    ({ camped with scan := { camped.scan with rotation := 2, decided := [2, 3, 6] } } : State).rebuildPlan.scan.spent
      = [2, 6] := by decide

/-- R35: in HUNT a silence is reported and changes no engine state; FRONT-END SILENT is kind 0x4B. -/
theorem test_silence :
    let t := after .silenceTimeout hunting
    t.roam.engine = .hunt ∧ t.host.transmit.map HostFrame.kind = [0x4B] ∧ t.intake.silenceRunning = false := by decide

/-- R155, R157: ROAM HOLD on, framed with its check, joins the intake queue. -/
theorem test_host_frame :
    (after (.hostFrameComplete [0xA7, 3, 0x0A, 9, 1, crc8 [3, 0x0A, 9, 1]]) camped).host.intake
      = [{ kind := 0x0A, tag := 9, body := [1] }] := by decide +kernel

/-- R155: a length of 43 is damage: the counter rises and LINK ERROR, kind 0x4C, is sent. -/
theorem test_host_length :
    let t := after (.hostFrameLengthDiscard [0xA7, 43]) camped
    t.host.checkErrors = 1 ∧ t.host.transmit.map HostFrame.kind = [0x4C] ∧ t.host.linkError = true := by decide

/-- R155: a frame cut short is dropped after 5 ms. -/
theorem test_gap :
    let t := after .interByteGapTimeout { camped with host := { camped.host with received := [0xA7, 3, 0x0A] } }
    t.host.received = [] ∧ t.host.checkErrors = 1 := by decide

/-- R158: kind 0x11 is UNKNOWN KIND. -/
theorem test_unknown_kind : lastBody (after .unknownKindCommand (offering camped 0x11 [])) = [0x11, 3] := by decide

/-- R160: identity 0x120000 seeds the generator with 0xACE1. -/
theorem test_provision :
    let t := after .provision (offering State.reset 0x01 [0x12, 0, 0])
    t.groups.identity = some 0x120000#24 ∧ t.access.generator = some 0xACE1#16 ∧ lastBody t = [1, 0] := by decide

theorem test_provision_locked : lastBody (after .provision (offering camped 0x01 [0x12, 0, 1])) = [1, 7] := by decide

/-- Section 11.8: dwell limit 2 and hysteresis 80 give pending 2 and 63, ADJUSTED. -/
theorem test_set_parameters :
    let t := after .setParameters (offering camped 0x02 [8, 0, 2, 7, 0, 80])
    t.host.pendingParams[7]? = some (some 2) ∧ t.host.pendingParams[6]? = some (some 63) ∧ lastBody t = [2, 1] := by decide

/-- Section 11.8: the dwell limit named twice: the later value stands. -/
theorem test_set_parameters_twice :
    let t := after .setParameters (offering camped 0x02 [7, 0, 20, 8, 0, 1, 8, 0, 2])
    t.host.pendingParams[7]? = some (some 2) ∧ t.host.pendingParams[6]? = some (some 20) ∧ lastBody t = [2, 0] := by decide

/-- Section 1.12, command 4: P is clamped to +31 and the reply ADJUSTED with the index. -/
theorem test_load_site :
    let t := after .loadSite (offering camped 0x03 [0x01, 0xF4, 0x01, 0x88, 4, 40, 0])
    (t.entry 3).code = 500 ∧ (t.entry 3).preference = 31 ∧ lastBody t = [3, 1, 3] := by decide

/-- Section 1.12, command 2: the target's channel would change. -/
theorem test_load_site_target :
    lastBody (after .loadSite (offering (registering .reading) 0x03 [0, 117, 0x01, 0x88, 5, 0, 0])) = [3, 9] := by decide

theorem test_drop_site :
    let t := after .dropSite (offering camped 0x04 [0, 140])
    t.entry 2 = Entry.free ∧ lastBody t = [4, 0, 2] := by decide

/-- CAMPED with a visit to site 140 that waits for its measure record. -/
def measuring : State :=
  { camped with
    scan :=
      { camped.scan with
        visit :=
          some { code := 140, channel := 355, colour := 3, objectGone := false, start := 5, stage := .measure } } }

/-- R60: the visit's object is not heard and gets a sample of 0. -/
theorem test_visit_not_heard :
    ((measuring.creditSamples { unsynced 6 with channel := 355 } measuring.recordRole).entry 2).samples = 1 := by decide

/-- R15, R16: the site is dropped during its visit and loaded again: the measure record gives the new entry nothing. -/
theorem test_visit_object_dropped :
    let t := after .loadSite (offering (after .dropSite (offering measuring 0x04 [0, 140])) 0x03 [0, 140, 0x01, 0x63, 3, 0, 0])
    t.findCode 140 = some 2
      ∧ ((t.creditSamples { unsynced 6 with channel := 355 } t.recordRole).entry 2).samples = 0 := by decide

theorem test_drop_site_serving : lastBody (after .dropSite (offering camped 0x04 [0, 201])) = [4, 9] := by decide

theorem test_set_hunt_channels :
    (after .setHuntChannels (offering camped 0x05 [2, 0x50, 0x9F, 0x40])).scan.huntChannels = [322, 500] := by decide

/-- R167: part 1 without part 0 is FORMAT. -/
theorem test_set_groups_out_of_turn :
    lastBody (after .setGroups (offering camped 0x06 [0x81])) = [6, 2] := by decide

/-- R126: in CAMPED a new list begins an exchange. -/
theorem test_set_groups :
    let t := after .setGroups (offering camped 0x06 [0x80, 0, 0, 1, 0, 0, 0])
    t.groups.groups = [{ id := 1#24, mask := 0#24, delivery := .unsent }] ∧ t.access.state = .affiliating := by decide

/-- R91: the recalled site enters the table, and the first TUNE is of its channel. -/
theorem test_start :
    let s : State :=
      { State.reset with
        groups := { identity := some 5#24, groups := [] }
        recallArea := { State.reset.recallArea with list := [{ code := 117, channel := 322, colour := 5 }] } }
    let t := after .start (offering s 0x07 [])
    t.roam.engine = .hunt ∧ (t.entry 0).origin = .recalled ∧ t.frontEnd = [.tune 322] ∧ t.pins.txinh = true := by decide

theorem test_start_unprovisioned : lastBody (after .start (offering State.reset 0x07 [])) = [7, 6] := by decide

/-- Section 6.10, last paragraph: STOP during a registration: entry 0 HEARD, no ROAM FAILED. -/
theorem test_stop :
    let t := after .stop (offering (registering .reading) 0x08 [])
    t.roam.engine = .stopped ∧ (t.entry 0).status = .heard ∧ (t.entry 1).barred = 0
      ∧ t.host.transmit.map HostFrame.kind = [0x41, 0x80] := by decide

/-- Section 9.5: TRANSMITTING under an asserted TXINH is INHIBITED. -/
theorem test_call_state : lastBody (after .callState (offering (registering .reading) 0x09 [2, 0])) = [9, 0, 1] := by decide

theorem test_roam_hold : (after .roamHold (offering camped 0x0A [1])).roam.hold = true := by decide

theorem test_roam_to :
    let t := after .roamTo (offering camped 0x0B [0, 140])
    t.roam.engine = .registering ∧ t.roam.reason = some .forced ∧ t.frontEnd = [.tune 355] ∧ lastBody t = [11, 0, 2] := by decide

theorem test_roam_to_serving : lastBody (after .roamTo (offering camped 0x0B [0, 201])) = [11, 11] := by decide

theorem test_roam_abort_too_late :
    lastBody (after .roamAbort (offering (registering .awaitingGrant) 0x0C [])) = [12, 13] := by decide

theorem test_roam_abort :
    let t := after .roamAbort (offering (registering .reading) 0x0C [])
    t.roam.engine = .camped ∧ (t.entry 1).barred = 0 ∧ lastBody t = [12, 0] := by decide

/-- 12.4.2: entry 1: HEARD, site 117, channel 322, colour 5, FOUND, F 1138, n 11, no digest. -/
theorem test_query_site :
    lastBody (after .querySite (offering camped 0x0D [1]))
      = [13, 0, 1, 2, 0, 117, 1, 0x42, 5, 2, 0, 4, 0x72, 11, 0, 0, 0, 0, 0, 0, 0, 0, 0] := by decide

/-- 12.4.2: CAMPED, IDLE, serving index 0, no watch, provisioned, call state IDLE, the identity. -/
theorem test_query_status :
    (lastBody (after .queryStatus (offering camped 0x0E []))).take 11 = [14, 0, 2, 0, 0, 0xFF, 2, 0, 0x04, 0xA7, 0xC2] := by
  decide

theorem test_recall_clear : (after .recallClear (offering camped 0x0F [])).recallArea.writer = .erasing := by decide

/-- R164: after RESET the reply waits, and its sending resets. -/
theorem test_reset :
    let t := after .reset (offering camped 0x10 [])
    let u := after .recordSent t
    t.roam.engine = .camped ∧ lastBody t = [16, 0] ∧ u.roam.engine = .stopped ∧ lastBody u = [0, 0, 3, 0]
      ∧ after .softReset t = u := by decide

/-- R167: RESET discards a group assembly. -/
theorem test_reset_assembly :
    let s : State := { camped with host := { camped.host with assembly := some { pairs := [], next := 1 } } }
    (after .reset (offering s 0x10 [])).host.assembly = none := by decide

/-- R159: the record whose last byte is sent leaves the queue. -/
theorem test_record_sent : (after .recordSent State.reset).host.transmit = [] := by decide

/-- R141, R164: RSTN low releases TXINH; when it returns high the part is STOPPED with ENGINE STATE, cause POWER-ON. -/
theorem test_rstn_low :
    let t := after .rstnLow hunting
    t.pins.txinh = false ∧ lastBody (after .powerOn t) = [0, 0, 2, 0] ∧ (after .powerOn t).roam.engine = .stopped := by decide

theorem test_power_loss : (after .powerLoss hunting).pins = { txinh := false, supply := .off } := by decide

/-- Section 10.5, "erase completes": the pending write of 201 begins at fill count 0. -/
theorem test_erase_completes :
    let x : Site := { code := 201, channel := 310, colour := 12 }
    let s : State :=
      { camped with recallArea := { page := page106, fill := 32, writer := .erasing, pendingWrite := some x, clearRequested := false, list := [] } }
    (after .recallEraseComplete s).recallArea
      = { page := [], fill := 0, writer := .writing x, pendingWrite := none, clearRequested := false, list := [] } := by decide

/-! ## Witnesses: states and operands that meet each statement's hypotheses together -/

/-- A command waits in front of the queue. -/
def withPending (c : Instr) (s : State) : State := { s with pending := [c] }

theorem witness_StepRunsTheFrontCommand :
    (withPending .recordTaken camped).pending = .recordTaken :: [] ∧ State.reset.pending = [] := by decide

/-- For the four statements about a step: a state that meets each invariant and takes a step. -/
theorem witness_EveryStep :
    (withPending .powerLoss hunting).inhibitSound ∧ (withPending .powerLoss hunting).queuesBounded
      ∧ (withPending .powerLoss hunting).pageSound ∧ (withPending .powerLoss hunting).levelsSound
      ∧ (withPending .powerLoss hunting).sizesSound
      ∧ ∃ t, step (withPending .powerLoss hunting) = .next t ∧ t ≠ withPending .powerLoss hunting := by
  refine ⟨by unfold State.inhibitSound; decide, ?_, by unfold State.pageSound; decide +kernel, ?_, ?_, _, rfl, by decide⟩
  · unfold State.queuesBounded State.framesBounded State.commandsBounded State.transmitBounded; decide
  · unfold State.levelsSound; decide
  · unfold State.sizesSound State.tableSound; decide

/-- For each clause: a command other than the clause's own that goes on to a next state and is no reset; and RESET itself. -/
theorem witness_HostSettingsChangeOnlyByTheirCommands :
    (∃ t, exec .departureDecay camped = .next t) ∧ mayReset .departureDecay = false
      ∧ Instr.departureDecay ≠ .callState ∧ Instr.departureDecay ≠ .roamHold ∧ Instr.departureDecay ≠ .provision
      ∧ Instr.departureDecay ≠ .setHuntChannels ∧ Instr.departureDecay ≠ .setGroups
      ∧ Instr.departureDecay ≠ .recordTaken ∧ Instr.departureDecay ≠ .setParameters ∧ Instr.departureDecay ≠ .reset
      ∧ mayReset .reset = false :=
  ⟨⟨_, rfl⟩, by decide⟩

theorem witness_HostSettings_reset : ∃ t, exec .reset camped = .next t := ⟨_, rfl⟩

theorem witness_CountersOnlyRiseUntilAReset :
    camped.countersBounded ∧ (∃ t, exec (.frontEndLengthDiscard [0xB5, 4]) camped = .next t)
      ∧ mayReset (.frontEndLengthDiscard [0xB5, 4]) = false :=
  ⟨by unfold State.countersBounded; decide, ⟨_, rfl⟩, by decide⟩

/-- Three records queued, four queued, and a held record. -/
theorem witness_FrameRecordIsPlaced :
    examineFrame [0x15, 0x01, 0x42, 0x85, 77] = some (failed 5 77) ∧ camped.pins.supply = .running
      ∧ camped.intake.received = [] := by decide

/-- The lengths next to an allowed one, and the lead byte as a length. -/
theorem witness_FrontEndLengthDiscardIsCounted :
    camped.pins.supply = .running ∧ camped.intake.received = []
      ∧ ∀ length ∈ [(2#8 : Byte), 4#8, 21#8, 0xB5#8], length.toNat ∉ [3, 6, 10, 17, 20] := by decide

/-- A check that does not match, after a record of each length; the record's bytes hold no lead byte. -/
theorem witness_FrontEnd_bad_check :
    ∀ n ∈ [2, 5, 9, 16, 19],
      (List.replicate n (1#8 : Byte)).length + 1 ∈ [3, 6, 10, 17, 20]
        ∧ crc8 (BitVec.ofNat 8 (n + 1) :: 1#8 :: List.replicate n 1#8) ≠ 0#8
        ∧ 0xB5#8 ∉ 1#8 :: (List.replicate n 1#8 ++ [0#8]) := by decide +kernel

/-- One body for each way to fail the examination: kind 0 and 3, BURST DONE outcomes 0 and 3, channel 1024, check 3, synced with
check NONE, unsynced with check FAIL, a fragment and a block with check FAIL, check PASS with no fragment, and a body too long. -/
theorem witness_FrontEnd_examination :
    examine 0#8 [5, 1] = none ∧ examine 3#8 [5, 1] = none ∧ examine 2#8 [5, 0] = none ∧ examine 2#8 [5, 3] = none
      ∧ (∀ body ∈ [[(0x15 : Byte), 0x04, 0x00, 0x85, 77], [0x15, 0x01, 0x42, 0xC5, 77], [0x15, 0x01, 0x42, 0x05, 77],
            [0x05, 0x01, 0x42, 0x85, 77], [0x55, 0x01, 0x42, 0x85, 77, 0, 1, 2, 3],
            [0x95, 0x01, 0x42, 0x85, 77, 4, 0, 0, 1, 1, 2, 3, 4, 5, 6, 7].take 16, [0x15, 0x01, 0x42, 0x45, 77],
            [0x15, 0x01, 0x42, 0x85, 77, 0, 0, 0, 0]],
          examineFrame body = none)
      ∧ 1023 < 256 * (0x04 : Byte).toNat + (0x00 : Byte).toNat ∧ (0xC5 : Byte).toNat / 64 = 3 := by decide +kernel

/-- A burst outstanding at position 15, and one at another position. -/
def contending (position : Nat) : State :=
  let s := registering .contending
  { s with access := { s.access with attempts := 1, outstanding := some { position := position, carried := [] } } }

theorem witness_BurstDoneActsOnTheOutstandingBurst :
    (contending 15).pins.supply = .running ∧ (contending 15).intake.received = []
      ∧ (contending 15).access.outstanding = some { position := 15, carried := [] }
      ∧ (contending 15).access.generator = some 0x1234#16
      ∧ (contending 15).access.params = some { slots := 4, window := 7 }
      ∧ (contending 0).access.outstanding = some { position := 0, carried := [] } := by decide

/-- A beacon of a site, with its check: no neighbours, slot count 4, window 7. -/
def beaconOf (code : Nat) : List Byte :=
  let body := be16 (16 * code) ++ [0#8, 0#8, 0x67#8, 5#8] ++ List.replicate 40 0#8
  body ++ be16 (crc16 body).toNat

/-- A store of edition 2 that holds all of a beacon but its last fragment, and that fragment. -/
def lastFragment (beacon : List Byte) : Store × Fragment :=
  ({ edition := some 2, places := (List.range 16).map fun p => if p = 15 then none else some ((beacon.drop (3 * p)).take 3) },
    { edition := 2, byte0 := at8 beacon 45, byte1 := at8 beacon 46, byte2 := at8 beacon 47 })

/-- A queue with one record. -/
def queued (s : State) (r : Frame) (counter : Nat) : State :=
  { s with intake := { s.intake with queue := [r], counter := counter } }

/-- At counter 15 the record is a multiframe start, at 14 it is not. -/
theorem witness_RecordTaken :
    (queued camped (unsynced 0) 15).pins.supply = .running
      ∧ (queued camped (unsynced 0) 15).intake.queue = unsynced 0 :: []
      ∧ (if (queued camped (unsynced 0) 15).servingSync (unsynced 0) then (unsynced 0).position else (15 + 1) % 16) = 0
      ∧ (if (queued camped (unsynced 0) 14).servingSync (unsynced 0) then (unsynced 0).position else (14 + 1) % 16) ≠ 0 := by
  decide

theorem witness_RecordTaken_next :
    ∃ t, exec .recordTaken (queued camped (unsynced 0) 15) = .next t := ⟨_, rfl⟩

/-- A serving sync record, one of the serving channel without it, a settling one and one of another channel, one short of the loss
limit and below it. -/
theorem witness_RecordTaken_loss :
    let s : State := { camped with intake := { camped.intake with loss := 15 } }
    s.roam.engine = .camped ∧ s.serving = some 0 ∧ s.servingSync { unsynced 3 with sync := some 12 } = true
      ∧ s.servingSync (unsynced 3) = false ∧ (unsynced 3).settling = false ∧ (unsynced 3).channel = (s.entry 0).channel
      ∧ (failed 3 0).channel ≠ (s.entry 0).channel ∧ s.par .lossLimit ≤ s.intake.loss + 1
      ∧ ¬s.par .lossLimit ≤ camped.intake.loss + 1 ∧ hunting.roam.engine ≠ .camped := by decide

/-- STOPPED, with the sites of `camped` known and none serving. -/
def stopped : State :=
  { State.reset with table := tableOf [{ site .heard 117 322 5 with level := 1138, samples := 11 }] }

/-- What RECORD TAKEN does with the head of the queue, in an order that the rules leave open. -/
def takenIn (s : State) (r : Frame) (late first : Bool) (place order : Nat) : State :=
  let s1 := (s.popFrame []).advanceCounter r
  let s2 := if s1.atMultiframe then s1.activate else s1
  let loss := s2.lossUpdate r
  let s3 := if s1.atMultiframe then loss.1.multiframeWork else loss.1
  s3.nameRecord.blocksInOrder s r s.recordRole s1.atMultiframe loss.2 late first place order

/-- A record without a fragment that raises no loss leaves open only whether the triggers wait for the filter. -/
theorem takenIn_plain {s : State} {r : Frame} (hf : r.fragment = none)
    (hl : (let s1 := (s.popFrame []).advanceCounter r
      (if s1.atMultiframe then s1.activate else s1).lossUpdate r).2 = false) (late first : Bool) (place order : Nat) :
    takenIn s r late first place order = takenIn s r late false 0 0 := by
  have hb : ∀ t : State, t.beaconRecord r = (t, BeaconReport.nothing) := fun t => by simp only [State.beaconRecord, hf]
  simp only at hl
  simp only [takenIn, State.blocksInOrder, hl, hb, BeaconReport.nothing, State.filterWithIdentity, if_true]
  rfl

/-- What holds with the triggers acted on before and after the filter holds after RECORD TAKEN of such a record. -/
theorem after_recordTaken (P : State → Prop) (s : State) (r : Frame) (hs : s.pins.supply = .running)
    (hq : s.intake.queue = [r]) (hf : r.fragment = none)
    (hl : (let s1 := (s.popFrame []).advanceCounter r
      (if s1.atMultiframe then s1.activate else s1).lossUpdate r).2 = false)
    (h : ∀ late, P (takenIn s r late false 0 0)) : P (after .recordTaken s) := by
  have e : after .recordTaken s = s.handleRecord r [] := by
    show whileRunning State.takeRecord s = _
    simp only [whileRunning, hs, if_true, State.takeRecord, hq]
  rw [e]
  exact (congrArg P (takenIn_plain hf hl _ _ _ _)).mpr (h _)

/-- R132, R133, R66, R67, R93: in CAMPED a serving record with a PAGE to the radio becomes a PAGE event, and a measure record that
brings its object to the dwell limit starts a registration with reason DWELL, in each open order. -/
theorem test_record_taken_in_camped :
    let page : Frame :=
      { unsynced 4 with
        sync := some 12, check := .pass
        block := some { kind := 0, destination := 0x04A7C2#24, code := 4, payload := [1, 2, 3, 4, 0, 0] } }
    let visited : State :=
      { camped with
        table :=
          tableOf
            [{ site .serving 201 310 12 with level := 700, samples := 9 },
             { site .heard 117 322 5 with level := 1138, samples := 11, dwell := 3 }]
        scan :=
          { camped.scan with
            visit := some { code := 117, channel := 322, colour := 5, objectGone := false, start := 3, stage := .measure } } }
    let t := after .recordTaken (queued visited (failed 4 80) 3)
    lastBody (after .recordTaken (queued camped page 3)) = [0, 201, 1, 2, 3, 4]
      ∧ t.roam.engine = .registering ∧ t.roam.reason = some .dwell ∧ t.access.target = 117 := by
  exact
    ⟨after_recordTaken (fun t => lastBody t = _) _ _ rfl rfl rfl (by decide +kernel) (by decide +kernel),
      after_recordTaken (fun t => t.roam.engine = _ ∧ t.roam.reason = _ ∧ t.access.target = _) _ _ rfl rfl rfl
        (by decide +kernel) (by decide +kernel)⟩

/-- R84, R85, R119, R102: a measure record of a hunt visit that finds a site begins the hunt-listen, and an ACCEPT to the radio in a
sync record of the target ends the registration in CAMPED on it. -/
theorem test_record_taken_outside_camped :
    let s : State := { hunting with scan := { hunting.scan with hunt := some { channel := 322, stage := .measure } } }
    let grant : Frame :=
      { failed 4 80 with
        check := .pass
        block := some { kind := 0, destination := 0x04A7C2#24, code := 2, payload := [1, 0, 0, 0, 0, 0] } }
    let t := after .recordTaken (queued (registering .awaitingGrant) grant 3)
    (after .recordTaken (queued s { failed 4 80 with check := .pass } 3)).scan.listen
        = some { channel := 322, colour := 5, limit := 32, count := 0, level := 80 }
      ∧ t.roam.engine = .camped ∧ t.serving = some 1 ∧ t.access.state = .idle := by
  exact
    ⟨after_recordTaken (fun t => t.scan.listen = _) _ _ rfl rfl rfl (by decide +kernel) (by decide +kernel),
      after_recordTaken (fun t => t.roam.engine = _ ∧ t.serving = _ ∧ t.access.state = _) _ _ rfl rfl rfl
        (by decide +kernel) (by decide +kernel)⟩

theorem witness_SettlingRecordIsSetAside :
    let r : Frame := { unsynced 3 with settling := true }
    (queued stopped r 14).pins.supply = .running ∧ (queued stopped r 14).roam.engine = .stopped
      ∧ (queued stopped r 14).scan.visit = none ∧ (queued stopped r 14).scan.hunt = none
      ∧ (queued stopped r 14).intake.queue = r :: [] ∧ r.settling = true ∧ (14 + 1) % 16 ≠ 0 := by decide

/-- The multiframe start of RECORD TAKEN in STOPPED. -/
theorem witness_RecordTaken_multiframe :
    let r : Frame := { unsynced 3 with settling := true }
    let s := queued stopped r 15
    s.pins.supply = .running ∧ s.intake.queue = r :: [] ∧ s.roam.engine = .stopped ∧ r.settling = true
      ∧ (15 + 1) % 16 = 0 ∧ s.scan.hunt = none ∧ s.tableSound := by
  unfold State.tableSound
  decide

/-- A settling record in the other states: CAMPED, REGISTERING one short of its wait, HUNT and DIRECT at each record of a visit. -/
theorem witness_SettlingRecord_states :
    let r : Frame := { unsynced 3 with settling := true }
    let visit (s : State) (stage : Stage) : State :=
      { s with scan := { s.scan with hunt := some { channel := 355, stage := stage }, huntList := [310, 355], cursor := 1 } }
    (queued camped r 3).roam.engine = .camped ∧ (queued camped r 3).scan.visit = none
      ∧ (queued camped r 3).scan.hunt = none ∧ (queued camped r 3).access.state = .idle
      ∧ (∀ phase ∈ [AccessState.reading, .awaitingGrant],
          let s := queued (registering phase) r 3
          s.roam.engine = .registering ∧ s.scan.hunt = none ∧ s.access.state = phase
            ∧ s.access.wait + 1 < s.access.readLimit ∧ s.access.wait + 1 < s.access.grantWait
            ∧ s.access.multiframes < s.access.registrationLimit)
      ∧ ∀ engine ∈ [Engine.hunt, .direct], ∀ stage ∈ [Stage.settle, .measure],
          let s := queued (visit { hunting with roam := { hunting.roam with engine := engine } } stage) r 3
          s.roam.engine = engine ∧ s.scan.listen = none ∧ s.scan.hunt = some { channel := 355, stage := stage }
            ∧ s.scan.huntList.length ≤ s.scan.cursor + 1 := by decide

theorem witness_HeardRecordMovesItsEntry :
    let s := queued stopped (failed 3 80) 14
    s.pins.supply = .running ∧ s.roam.engine = .stopped ∧ s.serving = none ∧ s.scan.visit = none ∧ s.scan.hunt = none
      ∧ s.access.state = .idle ∧ s.intake.queue = failed 3 80 :: [] ∧ (failed 3 80).settling = false
      ∧ (failed 3 80).check = .fail ∧ (failed 3 80).sync = some 5
      ∧ s.findPair { channel := (failed 3 80).channel, colour := 5 } = some 0 ∧ (s.intake.counter + 1) % 16 ≠ 0 := by decide

/-- A record in each place of the Ranking Unit's handling: settling, the settle record of a visit, plain on the serving channel with
and without its sync, and the measure record of a visit with an object, with none and with one on another channel. -/
theorem witness_HeardRecord_ranked :
    let visit : Visit := { code := 117, channel := 322, colour := 5, objectGone := false, start := 3, stage := .measure }
    let s : State := { camped with scan := { camped.scan with visit := some visit } }
    s.scan.visit = some visit ∧ s.recordRole = .measure visit ∧ camped.scan.visit = none ∧ camped.scan.hunt = none
      ∧ (registering .tuning).access.state = .tuning ∧ s.roam.engine = .camped ∧ s.serving = some 0
      ∧ (unsynced 3).settling = false ∧ (unsynced 3).channel = (s.entry 0).channel
      ∧ (unsynced 3).sync ≠ some (s.entry 0).colour ∧ visit.objectGone = false ∧ s.findCode visit.code = some 1
      ∧ (s.entry 1).channel = (failed 3 9).channel ∧ (s.entry 1).status ≠ .serving
      ∧ (s.entry 1).channel ≠ (unsynced 3).channel ∧ s.findCode 999 = none ∧ hunting.roam.engine ≠ .camped := by decide

/-- A record that loses the serving site, and a serving beacon of another site, which raises an IDENTITY loss. -/
theorem witness_HeardRecord_losses :
    let s : State := { camped with intake := { camped.intake with loss := 15, queue := [unsynced 3] } }
    let b := lastFragment (beaconOf 140)
    let r : Frame := { unsynced 15 with sync := some 12, check := .pass, fragment := some b.2 }
    let t : State := { camped with beacon := { camped.beacon with servingStore := b.1 } }
    s.pins.supply = .running ∧ s.intake.queue = unsynced 3 :: [] ∧ (s.lossUpdate (unsynced 3)).2 = true
      ∧ (camped.lossUpdate (unsynced 3)).2 = false ∧ (t.beaconRecord r).2.identityLost = true
      ∧ (t.beaconRecord { r with fragment := none }).2.identityLost = false := by decide +kernel

/-- The ends of both ranges. -/
theorem witness_FilterMovesTowardTheSample : (4080 : Nat) ≤ 4080 ∧ (255 : Nat) ≤ 255 ∧ (11 : Nat) ≠ 0 := by decide

/-- Site 117 outscores the serving site: with no watch, with a lower watch, and with a count that has begun; site 140 does not. -/
theorem witness_FilterMoves_dwell :
    let s : State :=
      { camped with
        ranking := { camped.ranking with watch := some 2 }
        table :=
          tableOf
            [site .serving 201 310 12, { site .heard 117 322 5 with level := 1138, samples := 11, dwell := 1 },
             { site .heard 140 355 3 with level := 700, samples := 9, dwell := 1 }] }
    camped.eligible (camped.entry 1) = true
      ∧ camped.score (camped.entry 0) + 16 * (camped.par .hysteresis : Int) ≤ camped.score (camped.entry 1)
      ∧ (camped.entry 1).dwell = 0 ∧ camped.ranking.watch = none ∧ camped.eligible (camped.entry 2) = false
      ∧ s.score (s.entry 2) < s.score (s.entry 1) ∧ (s.entry 1).dwell ≠ 0 ∧ s.eligible (s.entry 1) = true
      ∧ s.score (s.entry 0) + 16 * (s.par .hysteresis : Int) ≤ s.score (s.entry 1) := by decide

/-- The weak threshold of 36 met, and missed by one; the weak count one short of its limit and two short. -/
theorem witness_FilterMoves_weak :
    let s : State := camped.setEntry 0 { camped.entry 0 with level := 576 }
    16 * s.par .weakThreshold ≤ (s.entry 0).level ∧ ¬16 * camped.par .weakThreshold ≤ (camped.entry 0).level
      ∧ 6 + 1 < camped.par .weakCountLimit ∧ ¬7 + 1 < camped.par .weakCountLimit := by decide

theorem witness_BestEligibleIsTheHighest :
    camped.bestEligible none = some 1 ∧ camped.eligible (camped.entry 1) = true ∧ camped.bestEligible (some 1) = none
      ∧ camped.urgentTarget 0 = some 1 ∧ camped.urgentTarget 1 = none := by
  decide

/-- The lowest score and the highest, and an emergency-only site in an emergency. -/
theorem witness_BestEligible_score :
    let digest : Digest := { load := 7, isolated := true, own := none, age := 0 }
    let s := withPar (withPar camped .loadStep 7) .isolatedPenalty 63
    let low : Entry := { site .heard 117 322 5 with preference := -32, penalty := 63, digest := some digest }
    let high : Entry := { site .heard 117 322 5 with level := 4080, samples := 1, preference := 31 }
    s.score low = -3312 ∧ s.score high = 4576 ∧ s.par .loadStep ≤ 7 ∧ s.par .isolatedPenalty ≤ 63 ∧ digest.load ≤ 7 := by
  decide

theorem witness_EvictionSparesTheProtected :
    full.victim [] = some 11 ∧ full.victim [2, 6, 8, 10, 11] = some 5 ∧ full.victim (List.range 12) = none := by decide

/-- R83: the recall list's channels, the measured entries by level with equal ones by index, the unmeasured ones by index, the hunt
channel list; a barred entry and repeats are left out. -/
theorem test_hunt_list_order :
    let s : State :=
      { State.reset with
        table :=
          tableOf
            [{ site .heard 101 401 1 with level := 500, samples := 3 }, site .listed 102 402 1,
             { site .heard 103 403 1 with level := 900, samples := 2 }, { site .heard 104 404 1 with level := 500, samples := 1 },
             { site .heard 105 405 1 with level := 990, samples := 9, barred := 1 }, site .listed 106 409 1]
        recallArea :=
          { State.reset.recallArea with
            list := [{ code := 7, channel := 409, colour := 1 }, { code := 8, channel := 408, colour := 1 }] }
        scan := { State.reset.scan with huntChannels := [410, 403, 407] } }
    s.huntSources = [409, 408, 403, 401, 404, 402, 410, 407] := by decide +kernel

theorem witness_HuntListIsShortAndWithoutRepeats :
    full.recallArea.list.length ≤ 4 ∧ full.scan.huntChannels.length ≤ 24 := by decide

/-- Found-site admissions: of a protected entry with its pair and with another, of an entry free to change, of a new site with a clash,
with a place and with none. -/
theorem witness_HuntList_admission :
    camped.tableSound ∧ camped.findCode 201 = some 0 ∧ (camped.entry 0).status = .serving
      ∧ ¬camped.clashes (some 0) { channel := 310, colour := 12 }
      ∧ ¬((camped.entry 0).channel = 310 ∧ (camped.entry 0).colour = 13)
      ∧ camped.findCode 140 = some 2 ∧ (camped.entry 2).status ≠ .serving ∧ camped.isTarget (camped.entry 2) = false
      ∧ ¬camped.clashes (some 2) { channel := 400, colour := 9 } ∧ camped.findCode 500 = none
      ∧ camped.clashes none { channel := 322, colour := 5 } ∧ ¬camped.clashes none { channel := 400, colour := 9 }
      ∧ camped.takesNew [] 3 ∧ full.takesNew [] 11 ∧ full.hasNoPlace (List.range 12) := by
  unfold State.tableSound State.clashes State.takesNew State.hasNoPlace
  decide

/-- Hunt acceptances: no entry serves; the beacon is fit, closed, emergency-only, and of a barred site; the level meets the threshold
of 40 and misses it by one. -/
theorem witness_HuntList_acceptance :
    let s := hunting.setEntry 1 { hunting.entry 1 with barred := 3 }
    hunting.tableSound ∧ (∀ j < 12, (hunting.entry j).status ≠ .serving)
      ∧ hunting.findPair { channel := 400, colour := 9 } = none
      ∧ ¬16 * 40 < 16 * hunting.par .entryThreshold ∧ 16 * 39 < 16 * hunting.par .entryThreshold
      ∧ hunting.call.emergency = false ∧ s.findCode 140 = some 1 ∧ (s.entry 1).barred ≠ 0
      ∧ (hunting.admitFound 500 { channel := 400, colour := 9 }).2 = .admitted 2
      ∧ (hunting.admitFound 500 { channel := 355, colour := 3 }).2 = .conflict := by
  unfold State.tableSound
  decide

/-- With offset 0 the record after which the counter reads 3 decides start 4, index 1; with offset 13 the one at counter 15 decides start
0, index 0, of the coming multiframe. -/
theorem witness_RoundRobin_plan :
    let at_ (counter rotation : Nat) (s : State) : State :=
      { s with intake := { s.intake with counter := counter }, scan := { s.scan with rotation := rotation } }
    (at_ 3 0 camped).startHere = some (4, 1) ∧ (at_ 15 13 camped).startHere = some (0, 0)
      ∧ (at_ 4 0 camped).startHere = none ∧ 4 ∉ camped.scan.spent ∧ 1 < camped.budget ∧ camped.scan.visit = none
      ∧ camped.excluded 4 = false ∧ camped.roundRobin none = some 1 ∧ camped.roundRobin (some 1) = some 2
      ∧ affiliating.excluded 15 = false ∧ affiliating.excluded 8 = true ∧ affiliating.excluded 0 = true := by decide

/-- A visit ended and one not, with a serving site. -/
theorem witness_RoundRobin_end :
    let visit (stage : Stage) : State :=
      { camped with
        scan :=
          { camped.scan with
            visit :=
              some { code := 117, channel := 322, colour := 5, objectGone := false, start := 4, stage := stage } } }
    (visit .ended).scan.visit
        = some { code := 117, channel := 322, colour := 5, objectGone := false, start := 4, stage := .ended }
      ∧ (visit .ended).serving = some 0 ∧ Stage.measure ≠ .ended := by decide

/-- The measure record of a visit whose object stands, and of one whose object is gone. -/
theorem witness_RoundRobin_meant :
    let v : Visit := { code := 140, channel := 355, colour := 3, objectGone := false, start := 5, stage := .measure }
    let r : Frame := { unsynced 6 with channel := 355 }
    measuring.meantFor r (.measure v) = some 2 ∧ measuring.meantFor r (.measure { v with objectGone := true }) = none
      ∧ measuring.meantFor { r with channel := 322 } (.measure v) = none := by decide

theorem witness_RoundRobinTakesTheNextCandidate :
    ({ camped with scan := { camped.scan with pointer := 11 } } : State).scan.pointer < 12
      ∧ ({ camped with scan := { camped.scan with pointer := 11 } } : State).roundRobin none = some 1
      ∧ State.reset.roundRobin none = none := by decide

theorem witness_FragmentFillsItsPosition : 15 < 16 ∧ Store.cleared.places.length = 16 := by decide

/-- A full store is accepted, refused for its check, and refused for site code 0; one short of a fragment is not full. -/
theorem witness_Fragment_completes :
    let fill (beacon : List Byte) : Store := (lastFragment beacon).1.place 15 (lastFragment beacon).2
    (fill (beaconOf 201)).complete = true ∧ (fill (beaconOf 201)).accepted = true ∧ (fill (beaconOf 201)).summary.code = 201
      ∧ (fill ((beaconOf 201).set 5 6#8)).accepted = false ∧ (fill (beaconOf 0)).accepted = false
      ∧ ((lastFragment (beaconOf 201)).1.place 0 (lastFragment (beaconOf 201)).2).complete = false
      ∧ camped.serving = some 0 ∧ (camped.entry 0).code = 201 := by decide +kernel

/-- The watch candidate and the registration target, each of the beacon's site and of another. -/
theorem witness_Fragment_watch :
    full.roam.engine = .camped ∧ full.ranking.watch = some 1 ∧ (full.entry 1).code = 117 ∧ (117 : Nat) ≠ 201
      ∧ (registering .reading).roam.engine = .registering
      ∧ (registering .reading).findCode (registering .reading).access.target = some 1 := by decide

/-- The store a fragment goes to: the Serving Store, the Watch Store of its owner, or none; and a hunt-listen in HUNT. -/
theorem witness_Fragment_store :
    let f : Fragment := { edition := 2, byte0 := 0, byte1 := 0, byte2 := 0 }
    let r : Frame := { failed 3 9 with check := .pass, fragment := some f }
    let s : State := { camped with beacon := { camped.beacon with owner := some { channel := 322, colour := 5 } } }
    r.settling = false ∧ r.check = .pass ∧ r.fragment = some f ∧ r.sync = some 5 ∧ s.serving = some 0
      ∧ ¬((s.entry 0).channel = r.channel ∧ (s.entry 0).colour = 5)
      ∧ s.beacon.owner = some { channel := r.channel, colour := 5 } ∧ camped.beacon.owner = none
      ∧ (s.entry 0).channel = (unsynced 3).channel ∧ (listening hunting 3).scan.listen ≠ none
      ∧ (listening hunting 3).roam.engine = .hunt := by decide

/-- Neighbour items of the serving site, of an entry with its pair and with another, with a clash, and new ones. -/
theorem witness_Fragment_import :
    full.tableSound ∧ full.findCode 201 = some 0 ∧ full.findCode 118 = some 2 ∧ (full.entry 2).status ≠ .serving
      ∧ full.isTarget (full.entry 2) = false ∧ full.clashes (some 2) { channel := 322, colour := 5 }
      ∧ ¬full.clashes (some 2) { channel := 330, colour := 8 } ∧ full.findCode 455 = none
      ∧ ¬full.clashes none { channel := 341, colour := 9 } ∧ full.takesNew [11] 10
      ∧ full.hasNoPlace (List.range 12) := by
  unfold State.tableSound State.clashes State.takesNew State.hasNoPlace
  decide

/-- A page of five sites: the oldest is left out. -/
def page5 : List Host.Cell :=
  [(0, 33), (1, 44), (2, 55), (3, 66), (4, 77)].foldl
    (fun m x => writeSlot m x.1 (slotBytes { code := x.2, channel := 300, colour := 1 })) []

/-- A code left out; a newest valid slot and none; an idle writer and a busy one. -/
theorem witness_RecallList_clauses :
    (recallListOf page5).map Site.code = [77, 66, 55, 44]
      ∧ slotSite page5 0 = some { code := 33, channel := 300, colour := 1 } ∧ usedPrefix page5 = 5
      ∧ newestValid page5 5 = some { code := 77, channel := 300, colour := 1 } ∧ newestValid [] 32 = none
      ∧ [6, 5, 3, 2].map (slotSite page106) = (recallListOf page106).map some ∧ (5 : Nat) < 6 ∧ 6 < usedPrefix page106
      ∧ camped.recallArea.writer = .idle ∧ Writer.erasing ≠ .idle := by decide +kernel

theorem witness_RecallListHoldsTheNewestSites :
    { code := 117, channel := 322, colour := 5 } ∈ recallListOf page106 ∧ (recallListOf []).length < 4 := by
  decide +kernel

theorem witness_BackoffDrawStaysInTheWindow :
    (registering .tuning).access.generator = some 0x1234#16 ∧ 0 < (registering .tuning).window := by decide

/-- CONTENDING with no burst outstanding, the site position unknown and before a slot, with a count of 2. -/
theorem witness_Backoff_countdown :
    let s := registering .contending
    let u : State := { s with access := { s.access with sitePosition := some 1, backoff := 2 } }
    s.access.state = .contending ∧ s.access.params = some { slots := 4, window := 7 } ∧ s.access.outstanding = none
      ∧ s.access.sitePosition = none ∧ u.access.sitePosition = some 1 ∧ u.access.backoff - 1 = 1
      ∧ (1 + 1) % 16 % 2 ≠ 1 ∧ (2 + 1) % 16 % 2 = 1 ∧ 7 < 2 * 4 ∧ ¬9 < 2 * 4 ∧ 0 < s.access.attemptLimit := by decide

/-- A burst at position 15 with its echo at 0, and the records before it; attempts left and none left. -/
theorem witness_Backoff_echo :
    (contending 15).access.state = .contending
      ∧ (contending 15).access.outstanding = some { position := 15, carried := [] }
      ∧ (0 : Nat) = (15 + 1) % 16 ∧ (14 + 1) % 16 = 15 ∧ (0 : Nat) ≠ 15 ∧ (0 + 1) % 16 ≠ 15 ∧ (15 - 1) / 2 = 7
      ∧ (contending 15).access.attempts < (contending 15).access.attemptLimit
      ∧ (contending 15).access.generator = some 0x1234#16 ∧ (contending 15).groups.identity = some 0x04A7C2#24 := by decide

/-- AWAITING GRANT two short of the grant wait and at it; redirects admitted, refused and repeated. -/
theorem witness_Backoff_grant :
    let s := registering .awaitingGrant
    s.access.state = .awaitingGrant ∧ s.access.wait + 1 < s.access.grantWait ∧ s.access.queuedUsed = false
      ∧ 30 + 1 < s.access.grantWait ∧ s.access.grantWait ≤ 31 + 1 ∧ s.access.redirectUsed = false
      ∧ s.access.outstanding = none ∧ s.access.attempts < s.access.attemptLimit ∧ s.access.attemptLimit ≤ 6
      ∧ s.access.generator = some 0x1234#16 ∧ (contending 15).access.state = .contending
      ∧ Grant.acts (.redirect 140 355 3) true = true ∧ Grant.acts .queued true = false
      ∧ (s.admitFound 140 { channel := 355, colour := 3 }).2 = .admitted 2
      ∧ (s.admitFound 201 { channel := 310, colour := 12 }).2 = .admitted 0 ∧ (s.entry 0).status = .serving
      ∧ (s.admitFound 500 { channel := 310, colour := 12 }).2 = .conflict := by decide

/-- A target beacon that is open, closed and for emergencies alone, and one of another site. -/
def target (closed emergencyOnly : Bool) : Summary :=
  { code := 117, edition := 2, isolated := false, closed := closed, emergencyOnly := emergencyOnly, load := 0, slots := 4
    window := 7, hold := 5 }

/-- An input with a beacon or none, and nothing else. -/
def heard (beacon : Option Summary) : AccessInput :=
  { echo := none, grant := none, ack := false, beacon := beacon, sync := false, multiframe := false }

/-- READING with a wait count. -/
def atWait (wait : Nat) : State :=
  { registering .reading with access := { (registering .reading).access with wait := wait } }

/-- TUNING with READING skipped and not: a last watch beacon that names the target, an OWN BEACON digest, and neither; READING at
its limit and below it. -/
theorem witness_Backoff_judgement :
    let s := registering .tuning
    let skipping : State := { s with access := { s.access with skipReading := true } }
    let named : State := { skipping with beacon := { s.beacon with lastWatch := some (target true false) } }
    let digest : Digest :=
      { load := 0, isolated := false, own := some { closed := false, emergencyOnly := true, slots := 4, window := 7 }, age := 0 }
    let digested := skipping.setEntry 1 { s.entry 1 with digest := some digest }
    s.access.state = .tuning ∧ s.access.skipReading = false ∧ skipping.access.skipReading = true
      ∧ named.beacon.lastWatch = some (target true false) ∧ (target true false).code = s.access.target
      ∧ skipping.beacon.lastWatch = none ∧ digested.findCode s.access.target = some 1
      ∧ (digested.entry 1).digest = some digest ∧ (skipping.entry 1).digest = none ∧ s.access.outstanding = none
      ∧ (registering .reading).access.state = .reading ∧ (atWait 31).access.readLimit ≤ (atWait 31).access.wait + 1
      ∧ ¬(atWait 30).access.readLimit ≤ (atWait 30).access.wait + 1 := by decide

/-- A record of a registration with a beacon of the target, of another site and with none, and one at the registration limit. -/
theorem witness_Backoff_record :
    let s := registering .reading
    let late : State := { s with access := { s.access with multiframes := 12 } }
    s.access.state.registering = true ∧ (target false false).code = s.access.target
      ∧ { target false false with code := 140 }.code ≠ s.access.target ∧ (heard none).beacon = none
      ∧ (late.registrationPhase (heard none)).access.state.registering = true
      ∧ late.access.registrationLimit ≤ late.access.multiframes := by decide

/-- A registration that began at the record itself, in CAMPED. -/
theorem witness_Backoff_access :
    (registering .reading).roam.engine = .registering ∧ Engine.camped ≠ .registering
      ∧ (target false false).code = (registering .reading).access.target := by decide

/-- AFFIL ACK to the radio and to another one, in a serving sync record of CAMPED. -/
theorem witness_AcknowledgementConfirmsTheFirstSent :
    let block : ControlBlock := { kind := 0, destination := 0x04A7C2#24, code := 3, payload := [17#8, 0#8, 0#8, 0#8, 0#8, 0#8] }
    let r : Frame := { unsynced 3 with sync := some 12, check := .pass, block := some block }
    r.block = some block ∧ block.payload = 17#8 :: [0#8, 0#8, 0#8, 0#8, 0#8] ∧ r.settling = false ∧ r.check = .pass
      ∧ affiliating.roam.engine = .camped ∧ affiliating.servingSync r = true
      ∧ affiliating.groups.identity = some block.destination ∧ affiliating.groups.identity ≠ some 1#24
      ∧ min (17#8 : Byte).toNat 16 = 16 := by decide

theorem witness_GroupMatchesOutsideItsMask :
    affiliating.matchingGroup 1#24 = some 0 ∧ affiliating.matchingGroup 2#24 = none := by decide

/-- A serving sync record with a PAGE to the radio, and one with a GROUP NOTICE to a group of no entry. -/
theorem witness_GroupMatches_filter :
    let page : ControlBlock := { kind := 0, destination := 0x04A7C2#24, code := 4, payload := [1, 2, 3, 4, 0, 0] }
    let notice : ControlBlock := { kind := 1, destination := 2#24, code := 5, payload := [1, 2, 3, 4, 0, 0] }
    let r : Frame := { unsynced 3 with sync := some 12, check := .pass, block := some page }
    camped.servingSync r = true ∧ r.settling = false ∧ readMessage page = some (.page [1, 2, 3, 4])
      ∧ camped.passes page = true ∧ readMessage notice = some (.groupNotice [1, 2, 3, 4]) ∧ camped.passes notice = false
      ∧ readMessage { page with code := 1 } = some (.echo 1) ∧ readMessage { page with code := 2 } = some (.grant (.accept 2))
      ∧ (registering .contending).targetSync { r with channel := 322, sync := some 5 } = true
      ∧ hunting.roam.engine ≠ .camped ∧ hunting.roam.engine ≠ .registering ∧ camped.servingSync (unsynced 3) = false := by
  decide

/-- MOVE to the serving site, to a barred one, to one that may be taken, with a clash, and in HUNT. -/
theorem witness_GroupMatches_move :
    let s := camped.setEntry 2 { camped.entry 2 with barred := 3 }
    (camped.admitFound 201 { channel := 310, colour := 12 }).2 = .admitted 0 ∧ (camped.entry 0).status = .serving
      ∧ (s.admitFound 140 { channel := 355, colour := 3 }).2 = .admitted 2 ∧ (s.entry 2).barred ≠ 0
      ∧ (camped.admitFound 117 { channel := 322, colour := 5 }).2 = .admitted 1 ∧ (camped.entry 1).barred = 0
      ∧ (camped.admitFound 500 { channel := 322, colour := 5 }).2 = .conflict ∧ hunting.roam.engine ≠ .camped := by decide

/-- A MOVE to the radio in a serving sync record, and in REGISTERING a PAGE, which is set aside. -/
theorem witness_GroupMatches_delivery :
    let move : ControlBlock := { kind := 0, destination := 0x04A7C2#24, code := 6, payload := [0, 117, 5, 1, 0x42, 0] }
    let r : Frame := { unsynced 3 with sync := some 12, check := .pass, block := some move }
    r.block = some move ∧ camped.servingSync r = true ∧ camped.passes move = true
      ∧ readMessage move = some (.move 117 322 5) ∧ (registering .contending).roam.engine = .registering
      ∧ (∀ slot < 8, readMessage move ≠ some (.echo slot)) := by decide

theorem witness_BarSetsTheTimer :
    camped.findCode 999 = none ∧ camped.findCode 201 = some 0 ∧ (camped.entry 0).status = .serving
      ∧ camped.findCode 117 = some 1 ∧ (camped.entry 1).status ≠ .serving := by decide

theorem witness_AcceptChangesTheServingSite :
    let s := registering .awaitingGrant
    s.roam.engine = .registering ∧ s.findCode s.access.target = some 1 ∧ (s.entry 1).status ≠ .serving ∧ 0 < 1
      ∧ s.serving = some 0 ∧ 2 ≠ 1 ∧ s.serving ≠ some 2 := by decide

/-- ACCEPT with count 0, with a group and with none; the generator is seeded. -/
theorem witness_Accept_count_0 :
    let s := registering .awaitingGrant
    let u : State := { s with groups := { s.groups with groups := [{ id := 1#24, mask := 0#24, delivery := .sent }] } }
    s.groups.groups = [] ∧ u.groups.groups ≠ [] ∧ u.access.generator = some 0x1234#16
      ∧ u.roam.engine = .registering ∧ u.findCode u.access.target = some 1 ∧ (u.entry 1).status ≠ .serving := by decide

/-- The hypothesis of every command: it waits at the head and may be taken. -/
theorem witness_offers (s : State) (kind : Byte) (body : List Byte) (hs : s.pins.supply = .running)
    (hr : s.host.resetTaken = false) :
    (offering s kind body).offers { kind := kind, tag := 7, body := body } [] :=
  ⟨hs, hr, (by decide : (0 : Nat) < 3), rfl⟩

theorem witness_UnknownKindIsAnswered :
    (offering camped 0x11 []).offers { kind := 0x11, tag := 7, body := [] } [] ∧ 16 < (0x11 : Byte).toNat
      ∧ (offering camped 0 []).offers { kind := 0, tag := 7, body := [] } [] ∧ (0 : Byte).toNat = 0 :=
  ⟨witness_offers _ _ _ rfl rfl, by decide, witness_offers _ _ _ rfl rfl, by decide⟩

theorem witness_WrongLengthIsAnsweredFormat :
    ∀ row ∈ commandRows, ∃ body, row.2.2 body = false
      ∧ (offering camped row.2.1 body).offers { kind := row.2.1, tag := 7, body := body } [] := by
  intro row hr
  refine ⟨List.replicate 43 0, ?_, witness_offers _ _ _ rfl rfl⟩
  revert row
  decide

theorem witness_CommandRowWaitsForItsFrame : ∀ row ∈ commandRows, ∀ f rest, State.reset.offers f rest → f.kind ≠ row.2.1 :=
  fun _ _ _ _ h => nomatch h.2.2.2

theorem witness_ProvisionIsJudged :
    (offering State.reset 0x01 [0, 0, 0]).offers { kind := 0x01#8, tag := 7, body := [0, 0, 0] } [] :=
  witness_offers _ _ _ rfl rfl

/-- Thirteen items; one with code 0, one with code 28. -/
theorem witness_SetParametersMergesItsItems :
    (offering camped 0x02 [8, 0, 2]).offers { kind := 0x02#8, tag := 7, body := [8, 0, 2] } []
      ∧ (offering camped 0x02 [8, 0, 2]).host.pendingParams.length = 27
      ∧ [8#8, 0#8, 2#8] = [((8 : Byte), (0 : Byte), (2 : Byte))].flatMap (fun x => [x.1, x.2.1, x.2.2])
      ∧ (List.replicate 13 (0 : Byte)).length ≤ 13 ∧ (0 : Byte).toNat = 0 ∧ 27 < (28 : Byte).toNat
      ∧ 1 ≤ (27 : Byte).toNat ∧ (27 : Byte).toNat ≤ 27 :=
  ⟨witness_offers _ _ _ rfl rfl, by decide⟩

/-- Site 4095 on channel 1023, colour 63, in a table with a free entry; and each field one beyond its range. -/
theorem witness_LoadSiteAdmitsANewSite :
    let s := offering camped 0x03 [0x0F, 0xFF, 0x03, 0xFF, 63, 0xE0, 1]
    s.offers { kind := 0x03#8, tag := 7, body := [0x0F, 0xFF, 0x03, 0xFF, 63, 0xE0, 1] } [] ∧ s.tableSound
      ∧ [(0x0F : Byte), 0xFF, 0x03, 0xFF, 63, 0xE0, 1] = be16 4095 ++ be16 1023 ++ [63#8, 0xE0#8, 1#8]
      ∧ (∀ j < 12, (s.entry j).status ≠ .free → (s.entry j).code ≠ 4095)
      ∧ ¬s.clashes none { channel := 1023, colour := 63 } ∧ s.takesNew [] 3
      ∧ 4095 < 256 * (0x10 : Byte).toNat + (0 : Byte).toNat ∧ 1023 < 256 * (4 : Byte).toNat + (0 : Byte).toNat
      ∧ 63 < (64 : Byte).toNat ∧ 1 < (2 : Byte).toNat := by
  refine ⟨witness_offers _ _ _ rfl rfl, rfl, ?_⟩
  unfold State.clashes State.takesNew
  decide

/-- A table with no free entry and none that may be evicted. -/
def allPinned : State :=
  { camped with table := { table111 with entries := table111.entries.map fun e => { e with origin := .pinned } } }

/-- No place; an eviction; and a pair that another entry holds. -/
theorem witness_LoadSite_full :
    allPinned.hasNoPlace [] ∧ (∀ j < 12, (allPinned.entry j).status ≠ .free → (allPinned.entry j).code ≠ 500)
      ∧ ¬allPinned.clashes none { channel := 392, colour := 4 } ∧ full.takesNew [] 11
      ∧ (∀ j < 12, (full.entry j).status ≠ .free → (full.entry j).code ≠ 500)
      ∧ full.clashes none { channel := 322, colour := 5 } := by
  unfold State.clashes State.takesNew State.hasNoPlace
  decide

theorem witness_LoadSiteUpdatesItsEntry :
    let s := offering camped 0x03 [0, 117, 0x01, 0x42, 5, 6, 1]
    s.offers { kind := 0x03#8, tag := 7, body := [0, 117, 0x01, 0x42, 5, 6, 1] } [] ∧ s.tableSound
      ∧ [(0 : Byte), 117, 0x01, 0x42, 5, 6, 1] = be16 117 ++ be16 322 ++ [5#8, 6#8, 1#8] ∧ s.findCode 117 = some 1
      ∧ ((s.entry 1).status ≠ .serving ∧ s.isTarget (s.entry 1) = false)
      ∧ ∀ j < 12, j ≠ 1 → (s.entry j).status ≠ .free → ¬((s.entry j).channel = 322 ∧ (s.entry j).colour = 5) :=
  ⟨witness_offers _ _ _ rfl rfl, rfl, by decide⟩

/-- The target's channel would change; the pair is another entry's. -/
theorem witness_LoadSite_in_use :
    ((registering .reading).isTarget ((registering .reading).entry 1) = true
        ∧ ¬(((registering .reading).entry 1).channel = 392 ∧ ((registering .reading).entry 1).colour = 5))
      ∧ (camped.entry 2).status ≠ .free ∧ (camped.entry 2).channel = 355 ∧ (camped.entry 2).colour = 3 := by decide

theorem witness_DropSiteRemovesTheEntry :
    (offering camped 0x04 [0, 140]).offers { kind := 0x04#8, tag := 7, body := [0, 140] } []
      ∧ camped.findCode 140 = some 2 ∧ (camped.entry 2).status = .listed ∧ camped.isTarget (camped.entry 2) = false
      ∧ camped.findCode 4095 = none ∧ camped.findCode 201 = some 0 ∧ full.ranking.watch = some 1
      ∧ full.findCode 117 = some 1 :=
  ⟨witness_offers _ _ _ rfl rfl, by decide⟩

theorem witness_SetHuntChannelsReplacesTheList :
    (offering camped 0x05 (31 :: List.replicate 39 0)).offers
        { kind := 0x05#8, tag := 7, body := 31#8 :: List.replicate 39 0 } []
      ∧ (31 : Byte).toNat ≤ 31 ∧ (List.replicate 39 (0 : Byte)).length = (10 * (31 : Byte).toNat + 7) / 8 :=
  ⟨witness_offers _ _ _ rfl rfl, by decide⟩

theorem witness_SetGroupsReplacesTheList :
    (offering camped 0x06 [0x80, 0, 0, 1, 0, 0, 0]).offers { kind := 0x06#8, tag := 7, body := [0x80, 0, 0, 1, 0, 0, 0] } []
      ∧ [(0x80 : Byte), 0, 0, 1, 0, 0, 0]
          = 0x80#8 :: [{ id := 1#24, mask := 0#24 : GroupPair }].flatMap (fun p => be24 p.id.toNat ++ be24 p.mask.toNat)
      ∧ camped.roam.engine = .camped ∧ camped.access.state.registering = false
      ∧ hunting.roam.engine ≠ .camped ∧ hunting.access.state.exchange = false :=
  ⟨witness_offers _ _ _ rfl rfl, by decide⟩

/-- Parts 0, 1 after 0, 7, and 2 out of turn. -/
theorem witness_GroupPartsAreGathered :
    (offering camped 0x06 [0]).offers { kind := 0x06#8, tag := 7, body := [0] } []
      ∧ (offering camped 0x06 [6]).offers { kind := 0x06#8, tag := 7, body := [6] } []
      ∧ (offering camped 0x06 [7]).offers { kind := 0x06#8, tag := 7, body := [7] } []
      ∧ ({ pairs := [], next := 6 } : Assembly).next = 6 ∧ ({ pairs := [], next := 6 } : Assembly).next ≠ 2 :=
  ⟨witness_offers _ _ _ rfl rfl, witness_offers _ _ _ rfl rfl, witness_offers _ _ _ rfl rfl, by decide⟩

/-- The final part 1, with 16 and with 17 pairs gathered; out of turn, and with no assembly. -/
theorem witness_GroupParts_final :
    (offering hunting 0x06 [0x81]).offers { kind := 0x06#8, tag := 7, body := [BitVec.ofNat 8 (128 + 1)] } []
      ∧ ({ pairs := List.replicate 16 { id := 1#24, mask := 0#24 }, next := 1 } : Assembly).next = 1
      ∧ (List.replicate 16 (1 : Nat)).length ≤ 16 ∧ ¬(List.replicate 17 (1 : Nat)).length ≤ 16
      ∧ hunting.roam.engine ≠ .camped ∧ hunting.access.state.exchange = false ∧ hunting.host.assembly = none :=
  ⟨witness_offers _ _ _ rfl rfl, by decide⟩

theorem witness_StartEntersTheHunt :
    (offering stopped 0x07 []).offers { kind := 0x07#8, tag := 7, body := [] } [] ∧ stopped.roam.engine = .stopped
      ∧ stopped.groups.identity = none ∧ camped.roam.engine ≠ .stopped
      ∧ ({ stopped with groups := camped.groups } : State).groups.identity ≠ none :=
  ⟨witness_offers _ _ _ rfl rfl, by decide⟩

/-- A recalled site that the table holds, one that clashes, one that is admitted and one for which there is no place. -/
theorem witness_Start_recall :
    full.tableSound ∧ full.findCode 118 = some 2 ∧ full.findCode 455 = none
      ∧ full.clashes none { channel := 322, colour := 5 } ∧ ¬full.clashes none { channel := 341, colour := 9 }
      ∧ full.takesNew [11] 10 ∧ full.hasNoPlace (List.range 12) := by
  unfold State.tableSound State.clashes State.takesNew State.hasNoPlace
  decide

theorem witness_StopEntersStopped :
    (offering camped 0x08 []).offers { kind := 0x08#8, tag := 7, body := [] } [] ∧ camped.roam.engine ≠ .stopped
      ∧ camped.serving = some 0 ∧ camped.serving ≠ some 1 ∧ stopped.roam.engine = .stopped :=
  ⟨witness_offers _ _ _ rfl rfl, by decide⟩

theorem witness_CallStateReplacesTheRecord :
    (offering camped 0x09 [2, 1]).offers { kind := 0x09#8, tag := 7, body := [2, 1] } []
      ∧ (2 : Byte) = Call.transmitting.toByte ∧ (1 : Byte).toNat ≤ 1 ∧ 2 < (3 : Byte).toNat ∧ 1 < (2 : Byte).toNat :=
  ⟨witness_offers _ _ _ rfl rfl, by decide⟩

theorem witness_RoamHoldIsSet : (offering camped 0x0A [1]).offers { kind := 0x0A#8, tag := 7, body := [1] } [] :=
  witness_offers _ _ _ rfl rfl

theorem witness_RoamToStartsARegistration :
    (offering camped 0x0B [0, 140]).offers { kind := 0x0B#8, tag := 7, body := [0, 140] } [] ∧ camped.roam.engine = .camped
      ∧ camped.findCode 140 = some 2 ∧ (camped.entry 2).status ≠ .serving ∧ (camped.entry 2).barred = 0
      ∧ camped.findCode 4095 = none ∧ hunting.roam.engine ≠ .camped :=
  ⟨witness_offers _ _ _ rfl rfl, by decide⟩

/-- Triggers permitted, and declined by the roam hold, by a transmission and, for DWELL, by a call. -/
theorem witness_RoamTo_triggers :
    let calling (c : Call) : State := { camped with call := { call := c, emergency := false } }
    camped.roam.engine = .camped ∧ camped.roam.hold = false ∧ camped.call.call = .idle
      ∧ camped.findCode 117 = some 1 ∧ (calling .receiving).par .roamInCall = 0
      ∧ (withPar (calling .receiving) .roamInCall 1).par .roamInCall = 1 ∧ (calling .transmitting).call.call ≠ .idle
      ∧ ({ camped with roam := { camped.roam with hold := true } } : State).roam.hold ≠ false
      ∧ hunting.roam.engine ≠ .camped := by decide

theorem witness_RoamAbortEndsTheRegistration :
    (offering (registering .reading) 0x0C []).offers { kind := 0x0C#8, tag := 7, body := [] } []
      ∧ (registering .reading).access.state = .reading ∧ camped.access.state.registering = false
      ∧ (contending 5).access.state = .contending ∧ (contending 5).access.outstanding ≠ none :=
  ⟨witness_offers _ _ _ rfl rfl, by decide⟩

theorem witness_QueriesChangeNothing :
    (offering camped 0x0D [11]).offers { kind := 0x0D#8, tag := 7, body := [11] } []
      ∧ (offering camped 0x0D [12]).offers { kind := 0x0D#8, tag := 7, body := [12] } []
      ∧ (offering camped 0x0E []).offers { kind := 0x0E#8, tag := 7, body := [] } [] :=
  ⟨witness_offers _ _ _ rfl rfl, witness_offers _ _ _ rfl rfl, witness_offers _ _ _ rfl rfl⟩

theorem witness_RecallClearAsksForAnErase :
    (offering camped 0x0F []).offers { kind := 0x0F#8, tag := 7, body := [] } [] ∧ camped.recallArea.writer = .idle :=
  ⟨witness_offers _ _ _ rfl rfl, by decide⟩

/-- An event at the head, with no RESET taken. -/
theorem witness_ResetWaitsForItsReply :
    (offering camped 0x10 []).offers { kind := 0x10#8, tag := 7, body := [] } []
      ∧ State.reset.host.transmit = { kind := 0x41#8, tag := 0#8, body := [0#8, 0#8, 2#8, 0#8] } :: []
      ∧ ¬(State.reset.host.resetTaken = true ∧ (0x41#8 : Byte) = 0x80#8 ∧ [0#8, 0#8, 2#8, 0#8] = [0x10#8, 0#8]) :=
  ⟨witness_offers _ _ _ rfl rfl, by decide⟩

theorem witness_ResetValuesAreTaken :
    (after .reset (offering camped 0x10 [])).pins.supply = .running
      ∧ (after .reset (offering camped 0x10 [])).host.resetTaken = true
      ∧ (after .reset (offering camped 0x10 [])).host.transmit = { kind := 0x80#8, tag := 7, body := [0x10#8, 0#8] } :: []
      ∧ (after .powerLoss camped).pins.supply ≠ .running ∧ (after .rstnLow camped).pins.supply ≠ .running := by decide

/-- A page with a blank slot below a used one, and pages with none. -/
theorem witness_ResetValues_recall :
    let unsound := writeSlot page5 2 (List.replicate 6 0xFF#8)
    slotUsed unsound 2 = false ∧ slotUsed unsound 3 = true ∧ pageUnsound page5 = false ∧ pageUnsound [] = false := by
  decide +kernel

/-- The recall writer at work on the page of Section 10.6. -/
def writing (w : Writer) (fill : Nat) : State :=
  { camped with recallArea := { page := page106, fill := fill, writer := w, pendingWrite := none, clearRequested := false, list := [] } }

/-- A write into the last slot, and an erase. -/
theorem witness_RecallWriter :
    (writing (.writing { code := 140, channel := 355, colour := 3 }) 31).pins.supply = .running
      ∧ (writing (.writing { code := 140, channel := 355, colour := 3 }) 31).pageSound
      ∧ (writing (.writing { code := 140, channel := 355, colour := 3 }) 31).recallArea.fill < 32
      ∧ (writing .erasing 32).recallArea.writer = .erasing ∧ (writing .erasing 32).recallArea.clearRequested = false
      ∧ (writing .erasing 32).pageSound :=
  ⟨rfl, by unfold State.pageSound; decide +kernel, by decide, rfl, rfl, by unfold State.pageSound; decide +kernel⟩

/-- A pending write at the completion of a write: the slot now holds its site, it is begun, and at a full page an erase is. -/
theorem witness_RecallWriter_pending :
    let x : Site := { code := 140, channel := 355, colour := 3 }
    let s (fill : Nat) (y : Site) : State :=
      let w := writing (.writing x) fill
      w.setRecallArea { w.recallArea with pendingWrite := some y }
    (s 30 x).recallArea.clearRequested = false ∧ (s 30 x).recallArea.pendingWrite = some x
      ∧ newestValid (writeSlot page106 30 (slotBytes x)) 31 = some x
      ∧ newestValid (writeSlot page106 30 (slotBytes x)) 31 ≠ some { x with code := 141 } ∧ 30 + 1 < 32 ∧ ¬31 + 1 < 32 := by
  decide +kernel

/-- A write in flight with a clear requested, to which a second RECALL CLEAR is offered. -/
theorem witness_RecallWriter_clear :
    let w := writing (.writing { code := 140, channel := 355, colour := 3 }) 31
    let s := offering (w.setRecallArea { w.recallArea with clearRequested := true }) 0x0F []
    s.offers { kind := 0x0F, tag := 7, body := [] } [] ∧ s.recallArea.clearRequested = true
      ∧ s.recallArea.writer = .writing { code := 140, channel := 355, colour := 3 } :=
  ⟨⟨rfl, rfl, by decide, rfl⟩, rfl, rfl⟩

theorem witness_HostFrameIsPlaced :
    camped.pins.supply = .running ∧ camped.host.received = [] ∧ (List.replicate 40 (0 : Byte)).length ≤ 40 := by decide

theorem witness_DamagedHostFrameIsReported :
    camped.pins.supply = .running ∧ camped.host.received = [] ∧ (1 : Byte).toNat < 2 ∧ 42 < (43 : Byte).toNat
      ∧ ({ camped with host := { camped.host with received := [0xA7#8] } } : State).host.received = [0xA7#8] := by decide

/-- A check that does not match, on frames of the least and the greatest body. -/
theorem witness_DamagedHostFrame_check :
    crc8 [2#8, 1#8, 1#8] ≠ 0#8 ∧ 0xA7#8 ∉ 1#8 :: 1#8 :: ([] ++ [0#8])
      ∧ crc8 (42#8 :: 1#8 :: 1#8 :: List.replicate 40 1#8) ≠ 0#8
      ∧ 0xA7#8 ∉ 1#8 :: 1#8 :: (List.replicate 40 1#8 ++ [0#8]) := by decide +kernel

theorem witness_TableLimitsAct :
    let s : State :=
      { camped with
        table :=
          { tableOf
              [site .serving 201 310 12, { site .heard 117 322 5 with heardAge := 39 },
               { site .listed 140 355 3 with
                 barred := 1, digest := some { load := 0, isolated := false, own := none, age := 59 } }] with
            decay := 3 } }
    s.pins.supply = .running ∧ (s.entry 1).status = .heard
      ∧ s.par .heardAgeLimit ≤ min ((s.entry 1).heardAge + 1) 255 ∧ (s.entry 2).barred = 1
      ∧ s.par .decayInterval ≤ s.table.decay + 1
      ∧ (s.entry 2).digest = some { load := 0, isolated := false, own := none, age := 59 }
      ∧ s.par .digestAgeLimit ≤ min (59 + 1) 255 := by decide

/-- A multiframe start in CAMPED with a watch candidate that falls, and a visit to a start at position 0. -/
theorem witness_TableLimits_multiframe :
    let s : State :=
      { camped with
        table := tableOf [site .serving 201 310 12, { site .heard 117 322 5 with heardAge := 254 }]
        ranking := { camped.ranking with watch := some 1 }
        scan :=
          { camped.scan with
            visit :=
              some { code := 117, channel := 322, colour := 5, objectGone := false, start := 0, stage := .settle } } }
    s.tableSound ∧ s.roam.engine = .camped ∧ s.ranking.watch = some 1 ∧ (s.entry 1).status = .heard
      ∧ s.par .heardAgeLimit ≤ min ((s.entry 1).heardAge + 1) 255 := by
  unfold State.tableSound
  decide

theorem witness_ServingReportIsSent :
    let s := withPar camped .reportInterval 1
    s.pins.supply = .running ∧ s.roam.engine = .camped ∧ s.serving = some 0 ∧ 0 < s.par .reportInterval
      ∧ s.par .reportInterval ≤ s.ranking.reportCount + 1 := by decide

/-- A report interval of 0, which is the default, and a report counter below the interval. -/
theorem witness_ServingReport_counts :
    camped.par .reportInterval = 0
      ∧ camped.ranking.reportCount + 1 < (withPar camped .reportInterval 2).par .reportInterval := by decide

theorem witness_LossOfTheServingSite :
    let s : State := { camped with intake := { camped.intake with loss := 15 } }
    s.pins.supply = .running ∧ s.roam.engine = .camped ∧ s.par .lossLimit ≤ s.intake.loss + 1
      ∧ s.intake.silenceRunning = true ∧ hunting.intake.silenceRunning = true ∧ hunting.roam.engine ≠ .camped := by decide

/-- A loss with an eligible entry, and one with none but the entry lost. -/
theorem witness_Loss_outcomes :
    camped.bestEligible camped.serving = some 1
      ∧ ({ camped with table := tableOf [site .serving 201 310 12] } : State).bestEligible (some 0) = none := by decide

/-- The hunt timer one short of the limit, in HUNT and in a registration entered from HUNT. -/
theorem witness_HuntLimitsAct :
    let s : State := { listening hunting 31 with roam := { hunting.roam with huntTimer := 62 } }
    let u := registering .reading
    let t : State := { u with roam := { u.roam with enteredFrom := .hunt, huntTimer := 62 } }
    s.pins.supply = .running ∧ s.scan.listen = some { channel := 355, colour := 3, limit := 32, count := 31, level := 50 }
      ∧ s.roam.engine = .hunt ∧ s.par .huntLimit ≤ min (s.roam.huntTimer + 1) 255
      ∧ t.pins.supply = .running ∧ t.roam.engine = .registering ∧ t.roam.enteredFrom = .hunt
      ∧ t.par .huntLimit ≤ min (t.roam.huntTimer + 1) 255 := by decide

/-- The cursor before the last item and at it, and in DIRECT. -/
theorem witness_HuntLimits_cursor :
    let s (engine : Engine) (cursor : Nat) : State :=
      { listening hunting 31 with
        roam := { hunting.roam with engine := engine }
        scan := { (listening hunting 31).scan with huntList := [310, 355], cursor := cursor } }
    (s .hunt 0).scan.cursor + 1 < (s .hunt 0).scan.huntList.length
      ∧ (s .direct 1).scan.huntList.length ≤ (s .direct 1).scan.cursor + 1 ∧ (s .direct 1).roam.engine = .direct := by decide

/-- A record in HUNT and DIRECT: at the end of a hunt visit, in a hunt-listen below its limit, at a multiframe start with an empty
hunt list and with a visit due; a measure record that finds a site and one that does not; the hunt timer below its limit. -/
theorem witness_HuntLimits_record :
    let visit : HuntVisit := { channel := 322, stage := .ended }
    let s : State := { hunting with scan := { hunting.scan with hunt := some visit, huntList := [310, 355] } }
    let due : State :=
      { hunting with
        roam := { hunting.roam with engine := .direct }, scan := { hunting.scan with pace := true, huntList := [310] } }
    s.roam.engine = .hunt ∧ s.scan.hunt = some visit ∧ s.scan.huntList ≠ []
      ∧ (failed 3 9).channel = visit.channel ∧ (failed 3 9).sync = some 5 ∧ (unsynced 3).sync = none
      ∧ (listening hunting 3).scan.listen = some { channel := 355, colour := 3, limit := 32, count := 3, level := 50 }
      ∧ (listening hunting 3).scan.hunt = none ∧ 3 + 1 < 32 ∧ hunting.scan.huntList = [] ∧ hunting.scan.hunt = none
      ∧ hunting.scan.listen = none ∧ due.roam.engine = .direct ∧ due.scan.pace = true ∧ due.call.call = .idle
      ∧ min (hunting.roam.huntTimer + 1) 255 < hunting.par .huntLimit := by decide

/-- A registration whose wait and multiframe count are one short of their limits, with some attempts made. -/
def atLimits (phase : AccessState) (attempts : Nat) : State :=
  let s := registering phase
  { s with access := { s.access with wait := 31, multiframes := 11, attempts := attempts } }

/-- Each row in a phase of its own: READING, AWAITING GRANT with no attempts left, CONTENDING. -/
theorem witness_RegistrationLimitsFail :
    (∀ s ∈ [atLimits .reading 0, atLimits .awaitingGrant 6, atLimits .contending 0],
        s.pins.supply = .running ∧ s.findCode s.access.target = some 1 ∧ (s.entry 1).status ≠ .serving)
      ∧ (atLimits .reading 0).access.state = .reading
      ∧ (atLimits .reading 0).access.readLimit ≤ (atLimits .reading 0).access.wait + 1
      ∧ (atLimits .awaitingGrant 6).access.state = .awaitingGrant
      ∧ (atLimits .awaitingGrant 6).access.grantWait ≤ (atLimits .awaitingGrant 6).access.wait + 1
      ∧ (atLimits .awaitingGrant 6).access.attemptLimit ≤ (atLimits .awaitingGrant 6).access.attempts
      ∧ (atLimits .contending 0).access.state.registering = true
      ∧ (atLimits .contending 0).access.registrationLimit ≤ (atLimits .contending 0).access.multiframes + 1 := by decide

/-- A MISMATCH and another cause: the target is not the SERVING entry. -/
theorem witness_RegistrationLimits_mismatch :
    FailureCause.rejected ≠ .mismatch ∧
    (registering .reading).findCode (registering .reading).access.target = some 1
      ∧ ((registering .reading).entry 1).status ≠ .serving := by decide

theorem witness_GrantTimeoutDrawsAgain :
    let s := atLimits .awaitingGrant 5
    let t : State := { s with access := { s.access with sitePosition := some 4 } }
    s.pins.supply = .running ∧ s.access.state = .awaitingGrant ∧ s.access.grantWait ≤ s.access.wait + 1
      ∧ s.access.attempts < s.access.attemptLimit ∧ s.access.sitePosition = none
      ∧ s.access.generator = some 0x1234#16 ∧ s.access.params = some { slots := 4, window := 7 }
      ∧ t.access.sitePosition = some 4 ∧ t.access.outstanding = none ∧ (4 + 1) % 16 % 2 = 1 ∧ (4 + 1) % 16 < 2 * 4 := by
  decide

/-- A draw of 1 before a slot: the AFFILIATE burst is sent with the next attempt. -/
theorem witness_AffilAckWait_burst :
    let s : State :=
      { affiliating with
        access :=
          { affiliating.access with
            attempts := 5, sitePosition := some 2, params := some { slots := 4, window := 1 } } }
    let t := after .affilAckWaitTimeout s
    s.access.attempts < s.access.attemptLimit ∧ s.access.outstanding = none ∧ t.access.backoff = 1
      ∧ t.access.outstanding = some { position := 3, carried := [0] } := by decide

/-- In an exchange with no attempts left and with one left, and in continuation. -/
theorem witness_AffilAckWaitRunsOut :
    let t : State := { affiliating with access := { affiliating.access with state := .continuing } }
    affiliating.pins.supply = .running ∧ affiliating.access.awaitingAck = true
      ∧ affiliating.access.grantWait ≤ affiliating.access.wait + 1 ∧ affiliating.access.state = .affiliating
      ∧ affiliating.access.attemptLimit ≤ affiliating.access.attempts
      ∧ t.pins.supply = .running ∧ t.access.awaitingAck = true ∧ t.access.grantWait ≤ t.access.wait + 1
      ∧ t.access.state = .continuing ∧ 5 < affiliating.access.attemptLimit ∧ affiliating.access.outstanding = none := by
  decide

/-- CONTINUING at site position 0 and elsewhere, with an occurrence left and none, with an entry UNSENT and none. -/
theorem witness_AffilAckWait_continuing :
    let s (delivery : Delivery) (position : Option Nat) (reserved : Nat) : State :=
      { affiliating with
        access :=
          { affiliating.access with
            state := .continuing, awaitingAck := false, sitePosition := position, reserved := reserved }
        groups := { affiliating.groups with groups := [{ id := 1#24, mask := 0#24, delivery := delivery }] } }
    (s .unsent (some 0) 2).access.state = .continuing ∧ (s .unsent (some 0) 2).access.awaitingAck = false
      ∧ (s .unsent (some 0) 2).access.reserved ≠ 0 ∧ (s .unsent (some 0) 0).access.reserved = 0
      ∧ (s .unsent (some 1) 2).access.sitePosition ≠ some 0 ∧ (s .sent (some 0) 2).access.sitePosition = some 0
      ∧ (∃ e ∈ (s .unsent (some 0) 2).groups.groups, e.delivery = .unsent)
      ∧ (¬∃ e ∈ (s .sent (some 0) 2).groups.groups, e.delivery = .unsent)
      ∧ (s .sent (some 0) 2).access.burstSent = false
      ∧ ((s .unsent (some 0) 2).continueRecord (heard none)).access.outstanding = some { position := 1, carried := [0] } := by
  decide

/-- AFFILIATING with a burst outstanding: before its slot, at its echo record and at another; attempts left and none left; and
with none outstanding, the countdown at a slot. -/
theorem witness_AffilAckWait_echo :
    let s (position attempts : Nat) : State :=
      { affiliating with
        access :=
          { affiliating.access with
            awaitingAck := false, sitePosition := some position, attempts := attempts
            outstanding := some { position := 3, carried := [0] } } }
    let u : State :=
      { affiliating with
        access := { affiliating.access with awaitingAck := false, sitePosition := some 2, attempts := 0, backoff := 1 }
        groups := { affiliating.groups with groups := [{ id := 1#24, mask := 0#24, delivery := .unsent }] } }
    (s 4 0).access.state = .affiliating ∧ (s 4 0).access.awaitingAck = false
      ∧ (s 4 0).access.outstanding = some { position := 3, carried := [0] } ∧ 4 = (3 + 1) % 16 ∧ (2 + 1) % 16 = 3
      ∧ 5 ≠ 3 ∧ (5 + 1) % 16 ≠ 3 ∧ 5 ≠ (3 + 1) % 16 ∧ (3 - 1) / 2 = 1 ∧ (s 4 0).access.attempts < (s 4 0).access.attemptLimit
      ∧ (s 4 6).access.attemptLimit ≤ (s 4 6).access.attempts ∧ (s 4 0).groups.identity = some 0x04A7C2#24
      ∧ u.access.outstanding = none ∧ u.burstDue 1 u.slots 0 6 = some 3
      ∧ (u.affiliateRecord (heard none)).access.outstanding = some { position := 3, carried := [0] } := by decide

/-- An exchange that begins at a multiframe start, and one that does not for want of an UNSENT entry. -/
theorem witness_AffilAckWait_multiframe :
    let s : State :=
      { camped with groups := { camped.groups with groups := [{ id := 1#24, mask := 0#24, delivery := .unsent }] } }
    (∃ e ∈ s.groups.groups, e.delivery = .unsent) ∧ (¬∃ e ∈ camped.groups.groups, e.delivery = .unsent)
      ∧ (s.multiframeExchange .camped true).access.state = .affiliating := by decide

/-- A record in CAMPED in continuation, in an exchange and idle, and in HUNT. -/
theorem witness_AffilAckWait_record :
    affiliating.roam.engine = .camped ∧ affiliating.access.state = .affiliating ∧ camped.access.state = .idle
      ∧ hunting.roam.engine ≠ .camped ∧ hunting.roam.engine ≠ .registering := by decide

end Sys2Proof.Tests
end

section
/-! SUPPORT. The Site Table in the terms of the statements: entries, matches, pair clashes, places, the watch and eviction. -/

namespace Sys2Proof.Machine

/-! ## Entries -/

/-- An entry is occupied when it is not FREE (R1). -/
theorem Entry.occupied_iff (e : Entry) : e.occupied = true ↔ e.status ≠ .free := by simp [Entry.occupied]

/-- Two pairs agree when their channels and colours do. -/
theorem Entry.pair_eq_iff (e : Entry) (p : Pair) : e.pair = p ↔ e.channel = p.channel ∧ e.colour = p.colour := by
  cases p
  simp [Entry.pair]

/-- The entry just set stands at its index. -/
theorem State.entry_setEntry_same {s : State} {i : Nat} (e : Entry) (hi : i < s.table.entries.length) :
    (s.setEntry i e).entry i = e := by
  simp [State.entry, State.setEntry, hi]

/-- Setting an entry leaves every other one. -/
theorem State.entry_setEntry_other (s : State) {i j : Nat} (e : Entry) (h : j ≠ i) :
    (s.setEntry i e).entry j = s.entry j := by
  simp [State.entry, State.setEntry, List.getElem?_set_ne h.symm]

/-- Setting one entry twice: the later content stands. -/
theorem State.setEntry_setEntry (s : State) (i : Nat) (a b : Entry) :
    (s.setEntry i a).setEntry i b = s.setEntry i b := by
  simp [State.setEntry, State.setTable]

/-- An index the table does not have reads as a FREE entry. -/
theorem State.entry_of_length_le {s : State} {i : Nat} (h : s.table.entries.length ≤ i) : s.entry i = Entry.free := by
  simp [State.entry, h]

/-- An entry that is not FREE stands in the table. -/
theorem State.lt_length_of_not_free {s : State} {i : Nat} (h : (s.entry i).status ≠ .free) : i < s.table.entries.length := by
  by_contra hi
  exact h (by rw [State.entry_of_length_le (by omega)]; rfl)

/-- The entry at an index of the table. -/
theorem State.entry_eq_getElem {s : State} {i : Nat} (h : i < s.table.entries.length) : s.entry i = s.table.entries[i] := by
  simp [State.entry, h]

/-- A search of the table that finds an index finds an entry with the property there, and none before it. -/
theorem State.entry_of_findIdx?_eq_some {s : State} {P : Entry → Bool} {i : Nat} (h : s.table.entries.findIdx? P = some i) :
    i < s.table.entries.length ∧ P (s.entry i) = true ∧ ∀ j < i, P (s.entry j) = false := by
  obtain ⟨hi, hP, hlt⟩ := List.findIdx?_eq_some_iff_getElem.1 h
  refine ⟨hi, by rw [State.entry_eq_getElem hi]; exact hP, fun j hj => ?_⟩
  rw [State.entry_eq_getElem (by omega)]
  simpa using hlt j hj

/-- A search of the table that finds nothing: no entry has the property. -/
theorem State.entry_of_findIdx?_eq_none {s : State} {P : Entry → Bool} (h : s.table.entries.findIdx? P = none) {j : Nat}
    (hj : j < s.table.entries.length) : P (s.entry j) = false := by
  rw [State.entry_eq_getElem hj]
  exact List.findIdx?_eq_none_iff.1 h _ (List.getElem_mem hj)

/-! ## Matches (R5, R17) -/

/-- R5: the code match is an occupied entry with the code. -/
theorem State.findCode_eq_some {s : State} {code i : Nat} (h : s.findCode code = some i) :
    i < s.table.entries.length ∧ (s.entry i).status ≠ .free ∧ (s.entry i).code = code := by
  obtain ⟨hi, hP, -⟩ := State.entry_of_findIdx?_eq_some h
  simpa [hi, Entry.occupied] using hP

/-- R5: without a code match no occupied entry holds the code. -/
theorem State.findCode_eq_none {s : State} {code : Nat} (ht : s.tableSound)
    (h : ∀ j < 12, (s.entry j).status ≠ .free → (s.entry j).code ≠ code) : s.findCode code = none := by
  cases hf : s.findCode code with
  | none => rfl
  | some i =>
    obtain ⟨hi, hocc, hcode⟩ := State.findCode_eq_some hf
    exact absurd hcode (h i (by rw [State.tableSound] at ht; omega) hocc)

/-- R5: the pair match is an occupied entry with the channel and colour. -/
theorem State.findPair_eq_some {s : State} {p : Pair} {i : Nat} (h : s.findPair p = some i) :
    i < s.table.entries.length ∧ (s.entry i).status ≠ .free ∧ (s.entry i).pair = p := by
  obtain ⟨hi, hP, -⟩ := State.entry_of_findIdx?_eq_some h
  simpa [hi, Entry.occupied] using hP

/-- R17: the serving index is that of a SERVING entry. -/
theorem State.serving_eq_some {s : State} {i : Nat} (h : s.serving = some i) :
    i < s.table.entries.length ∧ (s.entry i).status = .serving := by
  obtain ⟨hi, hP, -⟩ := State.entry_of_findIdx?_eq_some h
  exact ⟨hi, by simpa using hP⟩

/-- R17: without a serving index no entry is SERVING. -/
theorem State.status_ne_serving {s : State} (h : s.serving = none) (i : Nat) : (s.entry i).status ≠ .serving := by
  by_cases hi : i < s.table.entries.length
  · simpa using State.entry_of_findIdx?_eq_none h hi
  · rw [State.entry_of_length_le (by omega)]
    decide

/-! ## Pair clashes and places -/

/-- R5: the model's pair clash is that of the statements. -/
theorem State.pairClash_iff (s : State) (codeMatch : Option Nat) (p : Pair) :
    s.pairClash codeMatch p = true ↔ s.clashes codeMatch p := by
  simp only [State.pairClash, State.clashes, allIndexes, tableSize, List.any_eq_true, List.mem_range, Bool.and_eq_true,
    bne_iff_ne, beq_iff_eq, Entry.occupied_iff, Entry.pair_eq_iff]
  exact exists_congr fun j => and_congr_right fun _ => by tauto

/-- R5: without a clash in the terms of the statements the model finds none. -/
theorem State.pairClash_eq_false {s : State} {codeMatch : Option Nat} {p : Pair} (h : ¬s.clashes codeMatch p) :
    s.pairClash codeMatch p = false := by
  rwa [← State.pairClash_iff, Bool.not_eq_true] at h

/-- The index a list of indexes rising from 0 finds first. -/
theorem find?_range_eq_some {P : Nat → Bool} {n i : Nat} (hi : i < n) (hP : P i = true) (hlt : ∀ j < i, P j = false) :
    (List.range n).find? P = some i := by
  rw [List.find?_range_eq_some]
  exact ⟨hP, List.mem_range.2 hi, fun j hj => by simp [hlt j hj]⟩

/-- With every entry occupied the place for a new site is eviction's choice. -/
theorem State.placeFor_eq_victim {s : State} (kept : List Nat) (h : ∀ j < 12, (s.entry j).status ≠ .free) :
    s.placeFor kept = s.victim kept := by
  have hnone : (allIndexes.find? fun i => !(s.entry i).occupied) = none := by
    simpa [allIndexes, Entry.occupied] using h
  rw [State.placeFor, hnone]

/-- R8: the place a new site takes is the one the model chooses. -/
theorem State.placeFor_of_takesNew {s : State} {kept : List Nat} {i : Nat} (h : s.takesNew kept i) :
    s.placeFor kept = some i := by
  rcases h with ⟨hi, hfree, hlt⟩ | ⟨hocc, hv⟩
  · have hfind : (allIndexes.find? fun i => !(s.entry i).occupied) = some i :=
      find?_range_eq_some hi (by simp [Entry.occupied, hfree]) fun j hj => by simpa [Entry.occupied] using hlt j hj
    rw [State.placeFor, hfind]
  · rw [State.placeFor_eq_victim kept hocc, hv]

/-- R8: with no place the model finds none. -/
theorem State.placeFor_of_hasNoPlace {s : State} {kept : List Nat} (h : s.hasNoPlace kept) : s.placeFor kept = none := by
  rw [State.placeFor_eq_victim kept h.1, h.2]

/-! ## The watch (R70) and the Watch Store's owner (R44) -/

@[simp] theorem State.setOwner_owner (s : State) (o : Option Pair) : (s.setOwner o).beacon.owner = o := by
  unfold State.setOwner
  split <;> simp_all

/-- R44: an owner that goes takes the store and the last watch beacon with it. -/
theorem State.setOwner_none_of_owner {s : State} (h : s.beacon.owner ≠ none) :
    (s.setOwner none).beacon.watchStore = Store.cleared ∧ (s.setOwner none).beacon.lastWatch = none := by
  simp [State.setOwner, h]

@[simp] theorem State.clearWatch_ranking (s : State) : s.clearWatch.ranking = { s.ranking with watch := none } := by
  unfold State.clearWatch
  split <;> simp

/-- R70: the watch goes with its candidate. -/
theorem State.dwellCleared_ranking (s : State) (i : Nat) :
    (s.dwellCleared i).ranking =
      { s.ranking with watch := if s.ranking.watch = some i then none else s.ranking.watch } := by
  unfold State.dwellCleared
  split <;> simp

/-- R44, R70: in CAMPED the Watch Store's owner goes with the watch candidate. -/
theorem State.dwellCleared_beacon_of_watch {s : State} {i : Nat} (hw : s.ranking.watch = some i)
    (hc : s.roam.engine = .camped) :
    (s.dwellCleared i).beacon.owner = none
      ∧ (s.beacon.owner ≠ none →
          (s.dwellCleared i).beacon.watchStore = Store.cleared ∧ (s.dwellCleared i).beacon.lastWatch = none) := by
  have heq : s.dwellCleared i = (s.setRanking { s.ranking with watch := none }).setOwner none := by
    simp [State.dwellCleared, State.clearWatch, hw, hc]
  rw [heq]
  exact ⟨State.setOwner_owner _ _, fun ho => State.setOwner_none_of_owner (by simpa using ho)⟩

/-- R70: away from the watch candidate, and outside CAMPED, the Beacon Assembler stands. -/
theorem State.dwellCleared_beacon_of_ne {s : State} {i : Nat} (h : s.ranking.watch ≠ some i ∨ s.roam.engine ≠ .camped) :
    (s.dwellCleared i).beacon = s.beacon := by
  unfold State.dwellCleared State.clearWatch
  by_cases hw : s.ranking.watch = some i
  · have hc : s.roam.engine ≠ .camped := h.resolve_left (by simp [hw])
    simp [hw, hc]
  · simp [hw]

/-- R20, R68, R70: what a bar does to an entry that is not SERVING. -/
theorem State.bar_of_findCode {s : State} {code i : Nat} (requested : Nat) (h : s.findCode code = some i)
    (hs : (s.entry i).status ≠ .serving) :
    s.bar code requested =
      (s.setEntry i
        { s.entry i with barred := if requested = 0 then s.par .barTime else requested, dwell := 0 }).dwellCleared i := by
  simp [State.bar, h, hs]

/-! ## Eviction (R14) -/

/-- R14: which entries eviction may take. -/
theorem State.evictable_iff (s : State) (kept : List Nat) (j : Nat) :
    s.evictable kept j = true ↔
      ((s.entry j).status = .listed ∨ (s.entry j).status = .heard) ∧ (s.entry j).origin ≠ .pinned
        ∧ s.ranking.watch ≠ some j ∧ s.isTarget (s.entry j) = false ∧ j ∉ kept := by
  cases hst : (s.entry j).status <;> simp [State.evictable, Entry.occupied, hst, and_assoc]

/-- The lowest score of a list of indexes: there is one unless the list is empty. -/
theorem State.lowest_eq_none {s : State} {l : List Nat} (h : s.lowest l = none) : l = [] := by
  cases l with
  | nil => rfl
  | cons i rest =>
    rw [State.lowest] at h
    split at h
    · cases h
    · split at h <;> cases h

/-- R14: of a rising list of indexes, the one of lowest score is the last of the lowest. -/
theorem State.lowest_eq_some {s : State} {l : List Nat} {i : Nat} (hl : l.Pairwise (· < ·)) (h : s.lowest l = some i) :
    i ∈ l ∧ ∀ j ∈ l, s.score (s.entry i) ≤ s.score (s.entry j)
      ∧ (s.score (s.entry i) = s.score (s.entry j) → j ≤ i) := by
  induction l generalizing i with
  | nil => cases h
  | cons a rest ih =>
    obtain ⟨ha, hrest⟩ := List.pairwise_cons.1 hl
    rw [State.lowest] at h
    cases hr : s.lowest rest with
    | none =>
      obtain rfl : a = i := by simpa [hr] using h
      simp [State.lowest_eq_none hr]
    | some m =>
      obtain ⟨hm, hmin⟩ := ih hrest hr
      simp only [hr] at h
      split at h
      · next hlt =>
        obtain rfl : a = i := by simpa using h
        refine ⟨List.mem_cons_self, fun j hj => ?_⟩
        rcases List.mem_cons.1 hj with rfl | hj
        · exact ⟨le_refl _, fun _ => le_refl _⟩
        · have := (hmin j hj).1
          exact ⟨by omega, fun _ => by omega⟩
      · next hge =>
        obtain rfl : m = i := by simpa using h
        refine ⟨List.mem_cons_of_mem _ hm, fun j hj => ?_⟩
        rcases List.mem_cons.1 hj with rfl | hj
        · exact ⟨by omega, fun _ => by have := ha m hm; omega⟩
        · exact hmin j hj

/-- The indexes with a property rise. -/
theorem pairwise_lt_filter_allIndexes (P : Nat → Bool) : (allIndexes.filter P).Pairwise (· < ·) :=
  List.pairwise_lt_range.filter P

/-- The last of the rising indexes with a property is the greatest. -/
theorem le_of_getLast?_filter_allIndexes {P : Nat → Bool} {i : Nat} (h : (allIndexes.filter P).getLast? = some i) :
    i < 12 ∧ P i = true ∧ ∀ j < 12, P j = true → j ≤ i := by
  obtain ⟨init, hinit⟩ := List.getLast?_eq_some_iff.1 h
  have hmem : i ∈ allIndexes.filter P := by simp [hinit]
  refine ⟨by simpa [allIndexes] using (List.mem_filter.1 hmem).1, (List.mem_filter.1 hmem).2, fun j hj hP => ?_⟩
  have hj' : j ∈ init ++ [i] := by
    rw [← hinit]
    exact List.mem_filter.2 ⟨by simpa [allIndexes] using hj, hP⟩
  have hsorted := pairwise_lt_filter_allIndexes P
  rw [hinit] at hsorted
  rcases List.mem_append.1 hj' with hj' | hj'
  · exact le_of_lt ((List.pairwise_append.1 hsorted).2.2 j hj' i (by simp))
  · exact le_of_eq (by simpa using hj')

/-- An evictable entry is LISTED or HEARD. -/
theorem State.status_of_evictable {s : State} {kept : List Nat} {j : Nat} (h : s.evictable kept j = true) :
    (s.entry j).status = .listed ∨ (s.entry j).status = .heard := ((s.evictable_iff kept j).1 h).1

/-- R14: eviction takes none exactly when none is evictable; else an evictable entry, the LISTED one of highest index, or with
none LISTED the HEARD one of lowest score and, among equals, of highest index. -/
theorem State.victim_cases (s : State) (kept : List Nat) :
    (s.victim kept = none ∧ ∀ j < 12, s.evictable kept j = false)
      ∨ ∃ i, s.victim kept = some i ∧ i < 12 ∧ s.evictable kept i = true
          ∧ (((s.entry i).status = .listed
                ∧ ∀ j < 12, s.evictable kept j = true → (s.entry j).status = .listed → j ≤ i)
            ∨ ((s.entry i).status = .heard
                ∧ ∀ j < 12, s.evictable kept j = true →
                  (s.entry j).status = .heard ∧ s.score (s.entry i) ≤ s.score (s.entry j)
                    ∧ (s.score (s.entry i) = s.score (s.entry j) → j ≤ i))) := by
  cases hlast : (allIndexes.filter fun i => s.evictable kept i && (s.entry i).status == .listed).getLast? with
  | some i =>
    obtain ⟨hi, hP, hmax⟩ := le_of_getLast?_filter_allIndexes hlast
    rw [Bool.and_eq_true, beq_iff_eq] at hP
    refine .inr ⟨i, by rw [State.victim, hlast], hi, hP.1, .inl ⟨hP.2, fun j hj he hl => hmax j hj ?_⟩⟩
    simp [he, hl]
  | none =>
    have hheard : ∀ j < 12, s.evictable kept j = true → (s.entry j).status = .heard := by
      intro j hj he
      have hnil := List.filter_eq_nil_iff.1 (List.getLast?_eq_none_iff.1 hlast) j (by simpa [allIndexes] using hj)
      exact (State.status_of_evictable he).resolve_left fun hl => hnil (by simp [he, hl])
    have hv : s.victim kept = s.lowest (allIndexes.filter fun i => s.evictable kept i && (s.entry i).status == .heard) := by
      rw [State.victim, hlast]
    have hmem : ∀ j < 12, s.evictable kept j = true →
        j ∈ allIndexes.filter fun i => s.evictable kept i && (s.entry i).status == .heard := by
      intro j hj he
      simp [allIndexes, hj, he, hheard j hj he]
    cases hlow : s.lowest (allIndexes.filter fun i => s.evictable kept i && (s.entry i).status == .heard) with
    | none =>
      refine .inl ⟨by rw [hv, hlow], fun j hj => ?_⟩
      rw [← Bool.not_eq_true]
      intro he
      have hj := hmem j hj he
      rw [State.lowest_eq_none hlow] at hj
      cases hj
    | some i =>
      obtain ⟨hi, hmin⟩ := State.lowest_eq_some (pairwise_lt_filter_allIndexes _) hlow
      simp only [allIndexes, List.mem_filter, List.mem_range, Bool.and_eq_true, beq_iff_eq] at hi
      exact .inr ⟨i, by rw [hv, hlow], hi.1, hi.2.1, .inr ⟨hi.2.2, fun j hj he =>
        ⟨hheard j hj he, hmin j (hmem j hj he)⟩⟩⟩

end Sys2Proof.Machine
end

section
/-! PROOFS. Eviction, bars and the state after reset. -/

namespace Sys2Proof.Proofs

open Sys2Proof Sys2Proof.Machine

/-- Settles O18: the two searches of eviction, over the LISTED and over the HEARD entries. -/
theorem evictionSparesTheProtected : Obligations.EvictionSparesTheProtected := by
  intro s kept
  refine ⟨s.evictable_iff kept, fun hnone => ?_, fun i hsome => ?_⟩
  · rcases s.victim_cases kept with ⟨-, h⟩ | ⟨i, hi, -⟩
    · exact h
    · rw [hnone] at hi
      cases hi
  · rcases s.victim_cases kept with ⟨h, -⟩ | ⟨k, hk, hlt, hev, hchoice⟩
    · rw [hsome] at h
      cases h
    · obtain rfl : k = i := by rw [hk] at hsome; exact Option.some.inj hsome
      obtain ⟨-, hspared⟩ := (s.evictable_iff kept k).1 hev
      obtain ⟨hpin, hwatch, htarget, hkept⟩ := hspared
      exact ⟨hlt, hpin, hwatch, htarget, hkept, hchoice⟩

/-- Settles O26: the bar by the code match and its status. -/
theorem barSetsTheTimer : Obligations.BarSetsTheTimer := by
  intro s code requested
  refine ⟨fun h => by simp [State.bar, h], fun i h => ⟨fun hs => by simp [State.bar, h, hs], fun hs => ?_⟩⟩
  rw [State.bar_of_findCode requested h hs, State.dwellCleared_ranking]
  exact ⟨by simp [State.setEntry], by simp⟩

/-- Settles O2: each invariant is read off the reset values. -/
theorem resetMeetsTheInvariants : Obligations.ResetMeetsTheInvariants := by
  refine ⟨?_, ⟨?_, ?_, ?_⟩, State.reset_page_wf, ?_, ?_, ?_⟩
  · unfold State.inhibitSound; decide
  · unfold State.framesBounded; decide
  · unfold State.commandsBounded; decide
  · unfold State.transmitBounded; decide
  · unfold State.sizesSound State.tableSound; decide
  · unfold State.levelsSound; decide
  · unfold State.countersBounded; decide

end Sys2Proof.Proofs
end

section
/-! SUPPORT. The bytes of the host's commands and of the queries. -/

namespace Sys2Proof.Machine

/-! ## Fields of a body -/

/-- A 16-bit field is its two bytes. -/
theorem natOfBytes_pair (a b : Byte) : natOfBytes [a, b] = 256 * a.toNat + b.toNat := by
  simp [natOfBytes, Nat.mul_comm]

/-- A 16-bit field holds the number it was written with. -/
theorem natOfBytes_be16 {n : Nat} (h : n < 65536) : natOfBytes (be16 n) = n := by
  rw [be16, natOfBytes_pair]
  simp only [byte, BitVec.toNat_ofNat]
  omega

/-- An on/off byte that is neither is refused. -/
theorem readSwitch_eq_none {b : Byte} (h : 1 < b.toNat) : readSwitch b = none := by
  have h0 : b ≠ 0 := by rintro rfl; simp at h
  have h1 : b ≠ 1 := by rintro rfl; simp at h
  rw [readSwitch, if_neg h0, if_neg h1]

/-- An on/off byte that is one of the two. -/
theorem readSwitch_eq_some {b : Byte} (h : b = 0#8 ∨ b = 1#8) : readSwitch b = some (decide (b = 1#8)) := by
  rcases h with rfl | rfl <;> rfl

/-- R7: which codes are out of range. -/
theorem codeInRange_eq_false {n : Nat} : codeInRange n = false ↔ n = 0 ∨ 4095 < n := by
  simp only [codeInRange, decide_eq_false_iff_not]
  omega

/-- R7: which codes are in range. -/
theorem codeInRange_eq_true {n : Nat} (h1 : 1 ≤ n) (h2 : n ≤ 4095) : codeInRange n = true := by
  simp [codeInRange, h1, h2]

/-! ## The queries -/

/-- The byte of a byte's number is the byte. -/
theorem byte_toNat (b : Byte) : byte b.toNat = b := by simp [byte]

/-- 12.4.2: the digest takes five bytes. -/
theorem length_digestBytes (d : Option Digest) : (digestBytes d).length = 5 := by
  unfold digestBytes
  split
  · rfl
  · split <;> rfl

/-- 12.4.2: an entry takes 21 bytes. -/
theorem length_entryBytes (i : Nat) (e : Entry) : (entryBytes i e).length = 21 := by
  simp [entryBytes, be16, length_digestBytes]

/-- 12.4.2: the status takes 29 bytes. -/
theorem length_statusBytes (s : State) : s.statusBytes.length = 29 := by
  simp [State.statusBytes, be24, State.counters, be16]

/-- R161: no parameter is pending when no place holds a value. -/
theorem State.paramsPending_eq_false_iff (s : State) :
    s.paramsPending = false ↔ ∀ p ∈ s.host.pendingParams, p = none := by
  simp [State.paramsPending]

/-- 12.4.2: byte 4 of the status, bit by bit. -/
theorem State.statusFlags_eq (s : State) :
    s.statusFlags =
      (if s.pins.txinh = true then 32 else 0) + (if s.intake.timing = .tracking then 16 else 0)
        + (if s.call.emergency = true then 8 else 0) + (if s.roam.hold = true then 4 else 0)
        + (if s.groups.identity = none then 0 else 2)
        + (if ∀ p ∈ s.host.pendingParams, p = none then 0 else 1) := by
  have hid : flagBit s.groups.identity.isSome 1 = if s.groups.identity = none then 0 else 2 := by
    cases s.groups.identity <;> rfl
  have hpar : flagBit s.paramsPending 0 = if ∀ p ∈ s.host.pendingParams, p = none then 0 else 1 := by
    simp only [← s.paramsPending_eq_false_iff]
    cases s.paramsPending <;> rfl
  rw [State.statusFlags, hid, hpar]
  simp [flagBit]

/-- 12.4.2: the first nine bytes of the status, as its flags are spelled out. -/
theorem State.take_statusBytes (s : State) :
    s.statusBytes.take 9 =
      [s.roam.engine.toByte, s.access.state.toByte, indexByte s.serving, indexByte s.ranking.watch, byte s.statusFlags,
        s.call.call.toByte] ++ be24 ((s.groups.identity.getD 0).toNat) := rfl

/-- R163: behind them the ten counters. -/
theorem State.drop_statusBytes (s : State) : s.statusBytes.drop 9 = s.counters.flatMap be16 := rfl

/-- 12.4.2: bytes 16 to 20 of an entry, as the digest has them. -/
theorem digestBytes_eq (digest : Option Digest) :
    digestBytes digest =
      match digest with
      | none => [0#8, 0#8, 0#8, 0#8, 0#8]
      | some d =>
        let bit (f : Bool) (k : Nat) : Nat := if f = true then k else 0
        match d.own with
        | none => [BitVec.ofNat 8 (128 + bit d.isolated 4), BitVec.ofNat 8 d.load, 0#8, 0#8, BitVec.ofNat 8 d.age]
        | some o =>
          [BitVec.ofNat 8 (192 + bit d.isolated 4 + bit o.closed 2 + bit o.emergencyOnly 1)
          , BitVec.ofNat 8 d.load, BitVec.ofNat 8 o.slots, BitVec.ofNat 8 o.window, BitVec.ofNat 8 d.age] := by
  unfold digestBytes
  cases digest with
  | none => rfl
  | some d =>
    obtain ⟨load, isolated, own, age⟩ := d
    cases own with
    | none => simp [siteFlags, flagBit, byte]
    | some o => simp [siteFlags, flagBit, byte, Nat.add_assoc]

end Sys2Proof.Machine
end

section
/-! PROOFS. The queries. -/

namespace Sys2Proof.Proofs

open Sys2Proof Sys2Proof.Machine

/-- Settles O46: both queries reply with the bytes of the state as the command finds it. -/
theorem queriesChangeNothing : Obligations.QueriesChangeNothing := by
  intro s f rest h
  constructor
  · intro b hk hb
    have hrow : exec .querySite s = .next ((s.setHost (s.host.taken rest)).querySite f) :=
      congrArg Host.Outcome.next (takeKind_of_offers h hk)
    have hat : at8 [b] 0 = b := rfl
    split
    · next hlt =>
      refine ⟨?_, length_entryBytes _ _, ?_⟩
      · rw [hrow, State.querySite, hb, hat, if_neg (by simpa using hlt)]
        rfl
      · rw [entryBytes, byte_toNat, digestBytes_eq]
        cases (s.entry b.toNat).status <;> cases (s.entry b.toNat).origin <;> rfl
    · next hge =>
      rw [hrow, State.querySite, hb, hat, if_pos (.inr (Nat.le_of_not_lt hge))]
      exact congrArg Host.Outcome.next (reply_taken_eq_refusedWith s f rest .format)
  · intro hk hb
    have hrow : exec .queryStatus s = .next ((s.setHost (s.host.taken rest)).queryStatus f) :=
      congrArg Host.Outcome.next (takeKind_of_offers h hk)
    refine ⟨s.statusBytes, ?_, length_statusBytes s, ?_, ?_⟩
    · rw [hrow, State.queryStatus, hb]
      rfl
    · rw [s.take_statusBytes, s.statusFlags_eq]
      cases s.serving <;> cases s.ranking.watch <;> rfl
    · rw [s.drop_statusBytes]
      rfl

end Sys2Proof.Proofs
end

section
/-! SUPPORT. LOAD SITE and DROP SITE in the terms of the statements. -/

namespace Sys2Proof.Machine

/-! ## DROP SITE (R16) -/

/-- R16: the entry is cleared. -/
theorem State.freeEntry_table (s : State) (i : Nat) : (s.freeEntry i).table = s.withEntry i Entry.free := by
  simp only [State.freeEntry, State.dwellCleared_frame, State.replaceEntry_frame]
  rfl

/-- R16, R70: the watch goes with its candidate. -/
theorem State.freeEntry_ranking (s : State) (i : Nat) :
    (s.freeEntry i).ranking =
      { s.ranking with watch := if s.ranking.watch = some i then none else s.ranking.watch } := by
  simp only [State.freeEntry, State.dwellCleared_ranking, State.replaceEntry_frame]

/-- R16: a visit for the entry's site loses its object. -/
theorem State.freeEntry_scan_eq (s : State) (i : Nat) : (s.freeEntry i).scan = (s.withoutObject i).scan := by
  simp only [State.freeEntry_scan, State.withoutObject, Visit.withoutSite_eq, State.setScan_scan]

/-- R16, R44: in CAMPED the Watch Store goes with the watch candidate, and nothing of the Beacon Assembler else. -/
theorem State.freeEntry_beacon {s : State} {i : Nat} :
    (s.ranking.watch = some i → s.roam.engine = .camped →
        (s.freeEntry i).beacon.owner = none
          ∧ (s.beacon.owner ≠ none →
              (s.freeEntry i).beacon.watchStore = Store.cleared ∧ (s.freeEntry i).beacon.lastWatch = none))
      ∧ (s.ranking.watch ≠ some i → (s.freeEntry i).beacon = s.beacon) := by
  constructor
  · intro hw hc
    simpa [State.freeEntry] using State.dwellCleared_beacon_of_watch (s := s.replaceEntry i Entry.free) (by simpa using hw) (by simpa using hc)
  · intro hw
    simpa [State.freeEntry] using State.dwellCleared_beacon_of_ne (s := s.replaceEntry i Entry.free) (.inl (by simpa using hw))

/-! ## LOAD SITE (R7, R8) -/

/-- The taking of a command leaves the scores' order. -/
theorem State.lowest_setHost_taken (s : State) (rest : List HostFrame) (l : List Nat) :
    (s.setHost (s.host.taken rest)).lowest l = s.lowest l := by
  induction l with
  | nil => rfl
  | cons i l ih =>
    rw [State.lowest, State.lowest, ih]
    rfl

/-- The taking of a command leaves eviction's choice. -/
theorem State.victim_setHost_taken (s : State) (rest : List HostFrame) (kept : List Nat) :
    (s.setHost (s.host.taken rest)).victim kept = s.victim kept := by
  rw [State.victim, State.victim, State.lowest_setHost_taken]
  rfl

/-- The taking of a command leaves a place a place. -/
theorem State.takesNew_setHost_taken {s : State} (rest : List HostFrame) {kept : List Nat} {i : Nat}
    (h : s.takesNew kept i) : (s.setHost (s.host.taken rest)).takesNew kept i := by
  rwa [State.takesNew, State.victim_setHost_taken]

/-- The taking of a command makes no place. -/
theorem State.hasNoPlace_setHost_taken {s : State} (rest : List HostFrame) {kept : List Nat} (h : s.hasNoPlace kept) :
    (s.setHost (s.host.taken rest)).hasNoPlace kept := by
  rwa [State.hasNoPlace, State.victim_setHost_taken]

/-- R4: the code of the reply says whether the preference was clamped. -/
theorem clampPreference_eq_iff (p : Int) : clampPreference p = p ↔ -32 ≤ p ∧ p ≤ 31 := by
  unfold clampPreference
  omega

/-- R7: the reply code of a site taken with a preference. -/
def loadReply (preference : Int) : ReplyCode := if -32 ≤ preference ∧ preference ≤ 31 then .ok else .adjusted

/-- R7: the reply code as LOAD SITE computes it. -/
theorem loadReply_eq (p : Int) : (if clampPreference p = p then ReplyCode.ok else ReplyCode.adjusted) = loadReply p := by
  simp only [loadReply, clampPreference_eq_iff]

/-- R7: a new site whose pair clashes is refused. -/
theorem State.loadSite_new_clash {s : State} {code : Nat} {p : Pair} (preference : Int) (pinned : Bool)
    (hf : s.findCode code = none) (hc : s.clashes none p) :
    s.loadSite code p preference pinned = (s, { code := .inUse, index := none }) := by
  simp [State.loadSite, hf, (s.pairClash_iff none p).2 hc]

/-- R8: a new site without a place is refused. -/
theorem State.loadSite_new_full {s : State} {code : Nat} {p : Pair} (preference : Int) (pinned : Bool)
    (hf : s.findCode code = none) (hc : ¬s.clashes none p) (hp : s.hasNoPlace []) :
    s.loadSite code p preference pinned = (s, { code := .full, index := none }) := by
  simp [State.loadSite, hf, State.pairClash_eq_false hc, State.placeFor_of_hasNoPlace hp]

/-- R8: a new site takes its place. -/
theorem State.loadSite_new {s : State} {code i : Nat} {p : Pair} (preference : Int) (pinned : Bool)
    (hf : s.findCode code = none) (hc : ¬s.clashes none p) (hp : s.takesNew [] i) :
    s.loadSite code p preference pinned =
      ((s.withoutObject i).setTable
          (s.withEntry i
            (admittedEntry code p (if pinned then .pinned else .found) (clampPreference preference) none)),
        { code := loadReply preference, index := some i }) := by
  simp only [State.loadSite, hf, State.pairClash_eq_false hc, State.placeFor_of_takesNew hp, State.replaceEntry_eq,
    loadReply_eq]
  rfl

/-- R7: a known site is refused when a fixed entry would change its pair or the pair clashes. -/
theorem State.loadSite_known_refused {s : State} {code i : Nat} {p : Pair} (preference : Int) (pinned : Bool)
    (hf : s.findCode code = some i)
    (hc : (((s.entry i).status = .serving ∨ s.isTarget (s.entry i) = true) ∧ (s.entry i).pair ≠ p)
      ∨ s.clashes (some i) p) :
    s.loadSite code p preference pinned = (s, { code := .inUse, index := none }) := by
  rw [← State.pairClash_iff] at hc
  simp only [State.loadSite, hf, if_pos hc]

/-- R6: the table after an entry has taken a pair. -/
theorem State.takePair_table (s : State) (i : Nat) (p : Pair) :
    (s.takePair i p).table = s.withEntry i ((s.entry i).repaired p) := by
  by_cases hi : i < s.table.entries.length
  · by_cases hp : (s.entry i).pair = p
    · have hset : s.table.entries.set i (s.entry i) = s.table.entries := by
        rw [State.entry_eq_getElem hi, List.set_getElem_self]
      rw [State.takePair, if_pos hp, Entry.repaired, if_pos ((Entry.pair_eq_iff _ _).1 hp), State.withEntry, hset]
    · rw [State.takePair, if_neg hp, Entry.repaired, if_neg (mt (Entry.pair_eq_iff _ _).2 hp)]
      simp only [State.fallToListed, State.dwellCleared_frame, State.entry_setEntry_same _ hi, State.setEntry_setEntry]
      rfl
  · have hset (e : Entry) : s.table.entries.set i e = s.table.entries := List.set_eq_of_length_le (by omega)
    unfold State.takePair
    split
    · simp [State.withEntry, hset]
    · simp [State.fallToListed, State.setEntry, State.withEntry, hset]

/-- R6: the entry after it has taken a pair. -/
theorem State.takePair_entry {s : State} {i : Nat} (p : Pair) (hi : i < s.table.entries.length) :
    (s.takePair i p).entry i = (s.entry i).repaired p := by
  rw [State.entry, State.takePair_table]
  simp [State.withEntry, hi]

/-- A clash beside an entry is another entry's. -/
theorem State.clashes_some_iff (s : State) (i : Nat) (p : Pair) :
    s.clashes (some i) p ↔
      ∃ j < 12, j ≠ i ∧ (s.entry j).status ≠ .free ∧ (s.entry j).channel = p.channel ∧ (s.entry j).colour = p.colour := by
  simp [State.clashes]

/-- R6: only the pair, the status, the measurements and the dwell count move when an entry takes a pair. -/
@[simp] theorem Entry.repaired_origin (e : Entry) (p : Pair) : (e.repaired p).origin = e.origin := by
  unfold Entry.repaired
  split <;> rfl

/-- R7: a known site's entry repaired, with the preference and the pin it was loaded with. -/
def Entry.loaded (e : Entry) (p : Pair) (preference : Int) (pinned : Bool) : Entry :=
  { e.repaired p with preference := clampPreference preference, origin := if pinned then .pinned else e.origin }

/-- R6, R7: a known site's entry, by whether its channel and colour stand. -/
theorem Entry.loaded_eq (e : Entry) (p : Pair) (preference : Int) (pinned : Bool) :
    e.loaded p preference pinned =
      if e.channel = p.channel ∧ e.colour = p.colour then
        { e with preference := clampPreference preference, origin := if pinned then .pinned else e.origin }
      else
        { e with
          channel := p.channel, colour := p.colour, status := .listed, level := 0, samples := 0, dwell := 0
          preference := clampPreference preference, origin := if pinned then .pinned else e.origin } := by
  unfold Entry.loaded Entry.repaired
  split <;> rfl

/-- R6, R7: the entry of a known site takes the pair, the clamped preference and the pin; the blocks beside the table, the
ranking and the beacon stand. -/
theorem State.loadSite_known {s : State} {code i : Nat} {p : Pair} (preference : Int) (pinned : Bool)
    (hf : s.findCode code = some i)
    (hfix : ((s.entry i).status ≠ .serving ∧ s.isTarget (s.entry i) = false) ∨ (s.entry i).pair = p)
    (hc : ¬s.clashes (some i) p) :
    ∃ t : State, s.loadSite code p preference pinned = (t, { code := loadReply preference, index := some i })
      ∧ t.table = s.withEntry i ((s.entry i).loaded p preference pinned) ∧ t.host = s.host ∧ t.scan = s.scan
      ∧ t.roam = s.roam ∧ t.access = s.access ∧ t.groups = s.groups ∧ t.intake = s.intake := by
  have hi : i < s.table.entries.length := (State.findCode_eq_some hf).1
  have hok : ¬((((s.entry i).status = .serving ∨ s.isTarget (s.entry i) = true) ∧ (s.entry i).pair ≠ p)
      ∨ s.pairClash (some i) p = true) := by
    rw [State.pairClash_iff, ← Bool.not_eq_false (s.isTarget (s.entry i))]
    tauto
  simp only [State.loadSite, hf, if_neg hok, loadReply_eq]
  refine ⟨_, rfl, ?_, by simp⟩
  simp only [State.setEntry, State.setTable_table, State.takePair_table, State.takePair_entry p hi, State.withEntry,
    List.set_set, Entry.repaired_origin, Entry.loaded]

/-- 12.4.1: the fields of a LOAD SITE body as they were written. -/
theorem loadSite_fields {code channel : Nat} (colour p pin : Byte) (h1 : code ≤ 4095) (h2 : channel ≤ 1023) :
    let body := be16 code ++ be16 channel ++ [colour, p, pin]
    at16 body 0 = code ∧ at16 body 2 = channel ∧ at8 body 4 = colour ∧ at8 body 5 = p ∧ at8 body 6 = pin
      ∧ body.length = 7 :=
  ⟨natOfBytes_be16 (by omega), natOfBytes_be16 (by omega), rfl, rfl, rfl, rfl⟩

/-- R7: a LOAD SITE whose fields are in range is judged by the table. -/
theorem exec_loadSite_of_fields {s : State} {f : HostFrame} {rest : List HostFrame} {code channel : Nat}
    {colour p pin : Byte} (h : s.offers f rest) (hk : f.kind = 0x03#8) (hc1 : 1 ≤ code) (hc2 : code ≤ 4095)
    (hch : channel ≤ 1023) (hcol : colour.toNat ≤ 63) (hpin : pin = 0#8 ∨ pin = 1#8)
    (hb : f.body = be16 code ++ be16 channel ++ [colour, p, pin]) :
    exec .loadSite s =
      let r := (s.setHost (s.host.taken rest)).loadSite code { channel := channel, colour := colour.toNat } p.toInt
        (decide (pin = 1#8))
      .next (r.1.reply f r.2.code (r.2.index.toList.map byte)) := by
  have hrow : exec .loadSite s = .next ((s.setHost (s.host.taken rest)).loadSiteCommand f) :=
    congrArg Host.Outcome.next (takeKind_of_offers h hk)
  obtain ⟨hcode, hchannel, hcolour, hp, hpinb, hlen⟩ := loadSite_fields colour p pin hc2 hch
  have hok : ¬(f.body.length ≠ 7 ∨ codeInRange code = false ∨ 1023 < channel ∨ 63 < colour.toNat) := by
    rw [hb, hlen, codeInRange_eq_true hc1 hc2]
    simp
    omega
  rw [hrow, State.loadSiteCommand]
  simp only [hb, hcode, hchannel, hcolour, hp, hpinb, readSwitch_eq_some hpin]
  rw [hb] at hok
  rw [if_neg hok]

end Sys2Proof.Machine
end

section
/-! PROOFS. LOAD SITE and DROP SITE. -/

namespace Sys2Proof.Proofs

open Sys2Proof Sys2Proof.Machine

/-- Settles O34: the judgement of the fields, then the admission by clash and place. -/
theorem loadSiteAdmitsANewSite : Obligations.LoadSiteAdmitsANewSite := by
  constructor
  · intro s f rest a b c d colour p pin h hk hb hbad
    have hrow : exec .loadSite s = .next ((s.setHost (s.host.taken rest)).loadSiteCommand f) :=
      congrArg Host.Outcome.next (takeKind_of_offers h hk)
    have hcode : at16 f.body 0 = 256 * a.toNat + b.toNat := by rw [hb]; exact natOfBytes_pair a b
    have hchannel : at16 f.body 2 = 256 * c.toNat + d.toNat := by rw [hb]; exact natOfBytes_pair c d
    have hcolour : at8 f.body 4 = colour := by rw [hb]; rfl
    have hpin : at8 f.body 6 = pin := by rw [hb]; rfl
    rw [hrow, State.loadSiteCommand]
    simp only [hcode, hchannel, hcolour, hpin, codeInRange_eq_false]
    by_cases hsw : 1 < pin.toNat
    · simp only [readSwitch_eq_none hsw]
      rfl
    · rcases h : readSwitch pin with _ | pinned
      · rfl
      · simp only
        rw [if_pos (.inr (by tauto))]
        rfl
  · intro s f rest code channel colour p pin h ht hk hc1 hc2 hch hcol hpin hb hnew pair
    have hrow := exec_loadSite_of_fields h hk hc1 hc2 hch hcol hpin hb
    have hf : (s.setHost (s.host.taken rest)).findCode code = none := State.findCode_eq_none (s := s) ht hnew
    refine ⟨fun hc => ?_, fun hc hp => ?_, fun hc i hp => ?_⟩
    · rw [hrow, State.loadSite_new_clash _ _ hf hc]
      rfl
    · rw [hrow, State.loadSite_new_full _ _ hf hc (State.hasNoPlace_setHost_taken rest hp)]
      rfl
    · rw [hrow, State.loadSite_new _ _ hf hc (State.takesNew_setHost_taken rest hp)]
      simp only [decide_eq_true_eq]
      rfl

/-- Settles O35: the refusals by a fixed entry and by a clash, else the entry repaired. -/
theorem loadSiteUpdatesItsEntry : Obligations.LoadSiteUpdatesItsEntry := by
  intro s f rest code channel i colour p pin h ht hk hc1 hc2 hch hcol hpin hb hf
  have hrow := exec_loadSite_of_fields h hk hc1 hc2 hch hcol hpin hb
  have hf' : (s.setHost (s.host.taken rest)).findCode code = some i := hf
  have hi : i < s.table.entries.length := (State.findCode_eq_some hf).1
  have hpair := Entry.pair_eq_iff (s.entry i) { channel := channel, colour := colour.toNat }
  refine ⟨fun hbad => ?_, fun hfix hfree => ?_⟩
  · rw [hrow, State.loadSite_known_refused _ _ hf' (hbad.imp ?_ (State.clashes_some_iff s i _).2)]
    · rfl
    · exact fun ⟨hst, hne⟩ => ⟨hst, mt hpair.1 hne⟩
  · have hclash : ¬s.clashes (some i) { channel := channel, colour := colour.toNat } := by
      rw [State.clashes_some_iff]
      rintro ⟨j, hj, hne, hocc, hsame⟩
      exact hfree j hj hne hocc hsame
    obtain ⟨t, ht, htable, hhost, hframe⟩ :=
      State.loadSite_known p.toInt (decide (pin = 1#8)) hf' (hfix.imp_right hpair.2) hclash
    rw [ht] at hrow
    refine ⟨t.reply f (loadReply p.toInt) [byte i], hrow, ?_, ?_, by simpa using hframe⟩
    · rw [reply_eq_answer, State.setHost_host, hhost]
      rfl
    · rw [reply_eq_answer, State.setHost_table, htable, State.withEntry, Entry.loaded_eq]
      simp only [decide_eq_true_eq]
      rfl

/-- Settles O36: the refusals of DROP SITE, else the entry cleared with its watch and its visit's object. -/
theorem dropSiteRemovesTheEntry : Obligations.DropSiteRemovesTheEntry := by
  intro s f rest hi lo h hk hb
  have hrow : exec .dropSite s = .next ((s.setHost (s.host.taken rest)).dropSiteCommand f) :=
    congrArg Host.Outcome.next (takeKind_of_offers h hk)
  have hcode : at16 f.body 0 = 256 * hi.toNat + lo.toNat := by rw [hb]; exact natOfBytes_pair hi lo
  have hlen : f.body.length = 2 := by rw [hb]; rfl
  rw [hrow, State.dropSiteCommand, hcode, hlen]
  generalize 256 * hi.toNat + lo.toNat = code
  refine ⟨fun hbad => ?_, fun h1 h2 => ?_⟩
  · rw [if_pos (.inr (codeInRange_eq_false.2 hbad))]
    rfl
  rw [if_neg (by simp [codeInRange_eq_true h1 h2])]
  refine ⟨fun hf => ?_, fun i hf => ?_⟩
  · have hf' : (s.setHost (s.host.taken rest)).findCode code = none := hf
    rw [hf']
    rfl
  have hf' : (s.setHost (s.host.taken rest)).findCode code = some i := hf
  rw [hf']
  split
  · next hfix =>
    exact congrArg Host.Outcome.next (if_pos hfix)
  · next hfree =>
    obtain ⟨hbeacon, hstands⟩ := State.freeEntry_beacon (s := s.setHost (s.host.taken rest)) (i := i)
    refine ⟨((s.setHost (s.host.taken rest)).freeEntry i).reply f .ok [byte i],
      congrArg Host.Outcome.next (if_neg hfree), ?_⟩
    simp only [reply_eq_answer, State.setHost_table, State.setHost_host, State.setHost_ranking, State.setHost_beacon,
      State.setHost_scan, State.freeEntry_table, State.freeEntry_ranking, State.freeEntry_scan_eq]
    exact ⟨rfl, by simp only [State.freeEntry_frame]; rfl, rfl, hbeacon, hstands, rfl, by simp⟩

end Sys2Proof.Proofs
end

section
/-! SUPPORT. The recall page as a reset reads it (R152), and START's recalled sites and hunt. -/

namespace Sys2Proof.Machine

/-! ## The first blank slot (R152) -/

/-- The first blank slot of a stretch: every slot before it is used, and it is blank unless the stretch has none. -/
theorem firstBlank_spec (m : List Host.Cell) (slot n : Nat) :
    slot ≤ firstBlank m slot n ∧ firstBlank m slot n ≤ slot + n
      ∧ (∀ k, slot ≤ k → k < firstBlank m slot n → slotUsed m k = true)
      ∧ (firstBlank m slot n < slot + n → slotUsed m (firstBlank m slot n) = false) := by
  induction n generalizing slot with
  | zero => exact ⟨le_refl _, le_refl _, fun k h1 h2 => by simp only [firstBlank] at h2; omega, fun h => by simp [firstBlank] at h⟩
  | succ n ih =>
    rw [firstBlank]
    split
    · next hused =>
      obtain ⟨h1, h2, h3, h4⟩ := ih (slot + 1)
      refine ⟨by omega, by omega, fun k hk1 hk2 => ?_, fun h => h4 (by omega)⟩
      rcases Nat.eq_or_lt_of_le hk1 with rfl | hlt
      · exact hused
      · exact h3 k hlt hk2
    · next hblank => exact ⟨le_refl _, by omega, fun k h1 h2 => by omega, fun _ => by simpa using hblank⟩

/-- R152: the slots below the fill count read from a page are used, and the one at it is blank. -/
theorem usedPrefix_spec (m : List Host.Cell) :
    usedPrefix m ≤ 32 ∧ (∀ k < usedPrefix m, slotUsed m k = true)
      ∧ (usedPrefix m < 32 → slotUsed m (usedPrefix m) = false) := by
  obtain ⟨-, hle, hused, hblank⟩ := firstBlank_spec m 0 slotCount
  exact ⟨hle.trans (by decide), fun k hk => hused k (Nat.zero_le k) hk, fun h => hblank (lt_of_lt_of_le h (by decide))⟩

/-- R152: a page is unsound when a used slot stands behind a blank one. -/
theorem pageUnsound_iff (m : List Host.Cell) :
    pageUnsound m = true ↔ ∃ i j, i < j ∧ j < 32 ∧ slotUsed m i = false ∧ slotUsed m j = true := by
  obtain ⟨-, hused, hblank⟩ := usedPrefix_spec m
  simp only [pageUnsound, slotCount, List.any_eq_true, List.mem_range, Bool.and_eq_true, decide_eq_true_eq]
  constructor
  · rintro ⟨j, hj, hlt, hu⟩
    exact ⟨usedPrefix m, j, hlt, hj, hblank (by omega), hu⟩
  · rintro ⟨i, j, hij, hj, hb, hu⟩
    have hle : usedPrefix m ≤ i := by
      by_contra hlt
      rw [hused i (by omega)] at hb
      cases hb
    exact ⟨j, hj, by omega, hu⟩

/-- R152: an unsound page is erased at power-on. -/
theorem RecallArea.powerOn_of_unsound {a : RecallArea} (h : pageUnsound a.page = true) :
    a.powerOn.writer = .erasing ∧ a.powerOn.fill = 32 ∧ a.powerOn.list = [] := by
  simp [RecallArea.powerOn, h]

/-- R152: a sound page is read at power-on. -/
theorem RecallArea.powerOn_of_sound {a : RecallArea} (h : pageUnsound a.page = false) :
    a.powerOn.writer = .idle ∧ a.powerOn.list = recallListOf a.page ∧ a.powerOn.fill = usedPrefix a.page := by
  simp [RecallArea.powerOn, h]

/-- R152, R153: at power-on the page stands, and the pending write and the clear request go. -/
theorem RecallArea.powerOn_kept (a : RecallArea) :
    a.powerOn.page = a.page ∧ a.powerOn.pendingWrite = none ∧ a.powerOn.clearRequested = false := by
  unfold RecallArea.powerOn
  split <;> exact ⟨rfl, rfl, rfl⟩

/-- R153: at a soft reset the page stands, and the pending write and the clear request go. -/
theorem RecallArea.softReset_kept (a : RecallArea) :
    a.softReset.page = a.page ∧ a.softReset.pendingWrite = none ∧ a.softReset.clearRequested = false := by
  unfold RecallArea.softReset
  split
  · exact ⟨rfl, rfl, rfl⟩
  · exact a.powerOn_kept
  · exact a.powerOn_kept

/-! ## The engine state -/

/-- R159: an event is offered to the Host Link's transmit queue. -/
theorem State.event_host (s : State) (e : Event) : (s.event e).host = s.host.offer e := by
  simp only [State.event, State.roomForEvent, maxEvents, decide_eq_true_eq, HostLink.offer, sat16]
  split <;> rfl

@[simp] theorem State.enterEngine_roam (s : State) (new : Engine) (cause : EngineCause) :
    (s.enterEngine new cause).roam = { s.roam with engine := new } := by
  simp [State.enterEngine]

@[simp] theorem State.enterEngine_pins (s : State) (new : Engine) (cause : EngineCause) :
    (s.enterEngine new cause).pins = { s.pins with txinh := new.inhibits } := by
  simp [State.enterEngine]

/-- R90: an engine state is entered with one ENGINE STATE event. -/
theorem State.enterEngine_host (s : State) (new : Engine) (cause : EngineCause) :
    (s.enterEngine new cause).host = s.host.offer (.engineState s.roam.engine new cause new.inhibits) := by
  rw [State.enterEngine, State.event_host]
  rfl

/-! ## The hunt (R83, R84) -/

/-- The entries are read from the table alone. -/
theorem State.entry_congr {s t : State} (h : s.table = t.table) : s.entry = t.entry := by
  funext i
  rw [State.entry, State.entry, h]

/-- The order by level is read from the table alone. -/
theorem State.insertByLevel_congr {s t : State} (h : s.table = t.table) (i : Nat) (l : List Nat) :
    s.insertByLevel i l = t.insertByLevel i l := by
  induction l with
  | nil => rfl
  | cons j rest ih => rw [State.insertByLevel, State.insertByLevel, State.entry_congr h, ih]

/-- The order by level is read from the table alone. -/
theorem State.orderByLevel_congr {s t : State} (h : s.table = t.table) (ordered l : List Nat) :
    s.orderByLevel ordered l = t.orderByLevel ordered l := by
  induction l generalizing ordered with
  | nil => rfl
  | cons i rest ih => simp only [State.orderByLevel, State.insertByLevel_congr h, ih]

/-- R83: the hunt list is read from its three sources alone. -/
theorem State.huntSources_congr {s t : State} (ht : s.table = t.table) (hr : s.recallArea.list = t.recallArea.list)
    (hc : s.scan.huntChannels = t.scan.huntChannels) : s.huntSources = t.huntSources := by
  simp only [State.huntSources, State.huntEntries, State.orderByLevel_congr ht, State.entry_congr ht, hr, hc]

/-- R84: a hunt visit that begins leaves the rest of the Scan Sequencer. -/
theorem State.beginHuntVisit_scan (s : State) : ∃ h, s.beginHuntVisit.scan = { s.scan with hunt := h } := by
  unfold State.beginHuntVisit
  split
  · exact ⟨_, by simp only [State.tune_frame]; rfl⟩
  · exact ⟨s.scan.hunt, rfl⟩

/-- R84: a hunt visit begins with TUNE to the channel at the cursor, if there is one. -/
theorem State.beginHuntVisit_frontEnd (s : State) :
    s.beginHuntVisit.frontEnd = s.frontEnd ++ (s.scan.huntList[s.scan.cursor]?.map FrontEndRecord.tune).toList := by
  unfold State.beginHuntVisit
  split
  · next channel h => simp [h, State.tune, State.issue]
  · next h => simp [h]

/-- R84, R87: what the entry to HUNT does to the Scan Sequencer and sends on the Front-End Link. -/
theorem State.enterHunt_scan (s : State) (cause : EngineCause) :
    (s.enterHunt cause).scan.listen = none ∧ (s.enterHunt cause).scan.visit = none
      ∧ (s.enterHunt cause).scan.cursor = 0 ∧ (s.enterHunt cause).scan.huntList = s.huntSources
      ∧ (s.enterHunt cause).frontEnd = s.frontEnd ++ (s.huntSources.head?.map FrontEndRecord.tune).toList := by
  have hsrc : ((s.scanIdle.setOwner none).enterEngine .hunt cause).huntSources = s.huntSources :=
    State.huntSources_congr (by simp) (by simp) (by simp)
  obtain ⟨h, hscan⟩ := ((s.scanIdle.setOwner none).enterEngine .hunt cause).buildHuntList.beginHuntVisit_scan
  have hbuilt (t : State) : t.buildHuntList.scan = { t.scan with huntList := t.huntSources, cursor := 0 } := rfl
  unfold State.enterHunt
  rw [hscan, State.beginHuntVisit_frontEnd, hbuilt, hsrc]
  simp [State.scanIdle, List.head?_eq_getElem?]

/-- R84, R141: the engine, TXINH, the event and the Watch Store's owner at the entry to HUNT. -/
theorem State.enterHunt_engine (s : State) (cause : EngineCause) :
    (s.enterHunt cause).roam = { s.roam with engine := .hunt } ∧ (s.enterHunt cause).pins = { s.pins with txinh := true }
      ∧ (s.enterHunt cause).host = s.host.offer (.engineState s.roam.engine .hunt cause true)
      ∧ (s.enterHunt cause).beacon.owner = none := by
  simp [State.enterHunt, State.enterEngine_host, Engine.inhibits]

/-! ## Recalled sites (R13) -/

/-- The place for a new site does not depend on the command intake queue. -/
theorem State.placeFor_setHost_taken (s : State) (rest : List HostFrame) (kept : List Nat) :
    (s.setHost (s.host.taken rest)).placeFor kept = s.placeFor kept := by
  rw [State.placeFor, State.placeFor, State.victim_setHost_taken]
  rfl

/-- The taking of a command leaves what a recalled site does. -/
theorem State.recallItem_setHost_taken (s : State) (rest : List HostFrame) (kept : List Nat) (item : Site) :
    (s.setHost (s.host.taken rest)).recallItem kept item =
      ((s.recallItem kept item).1.setHost ((s.recallItem kept item).1.host.taken rest), (s.recallItem kept item).2) := by
  have hf : (s.setHost (s.host.taken rest)).findCode item.code = s.findCode item.code := rfl
  have hc (p : Pair) : (s.setHost (s.host.taken rest)).pairClash none p = s.pairClash none p := rfl
  simp only [State.recallItem, hf, hc, State.placeFor_setHost_taken]
  cases s.findCode item.code with
  | some i => rfl
  | none =>
    cases s.pairClash none { channel := item.channel, colour := item.colour } with
    | true => rfl
    | false => cases s.placeFor kept <;> rfl

/-- The taking of a command leaves what the recalled sites do. -/
theorem State.recallItems_setHost_taken (s : State) (rest : List HostFrame) (kept : List Nat) (items : List Site) :
    (s.setHost (s.host.taken rest)).recallItems kept items =
      (s.recallItems kept items).setHost ((s.recallItems kept items).host.taken rest) := by
  induction items generalizing s kept with
  | nil => rfl
  | cons item items ih => rw [State.recallItems, State.recallItems, State.recallItem_setHost_taken, ih]

/-! ## START (R91) -/

/-- R91: START outside STOPPED. -/
theorem State.startCommand_of_running {s : State} {f : HostFrame} (hb : f.body = []) (he : s.roam.engine ≠ .stopped) :
    s.startCommand f = s.reply f .state := by
  simp [State.startCommand, hb, he]

/-- R91: START without an identity. -/
theorem State.startCommand_of_unprovisioned {s : State} {f : HostFrame} (hb : f.body = []) (he : s.roam.engine = .stopped)
    (hid : s.groups.identity = none) : s.startCommand f = s.reply f .notProvisioned := by
  simp [State.startCommand, hb, he, hid]

/-- R91: an accepted START. -/
theorem State.startCommand_accepted {s : State} {f : HostFrame} (hb : f.body = []) (he : s.roam.engine = .stopped)
    (hid : s.groups.identity ≠ none) : s.startCommand f = s.startEngine.reply f .ok := by
  simp [State.startCommand, hb, he, hid]

/-- R91, R105, R141: the engine, TXINH and the event of an accepted START. -/
theorem State.startEngine_engine (s : State) :
    s.startEngine.roam =
        { s.roam with engine := .hunt, huntTimer := 0, expired := false, previous := none, reason := none }
      ∧ s.startEngine.pins = { s.pins with txinh := true }
      ∧ s.startEngine.host = s.host.offer (.engineState s.roam.engine .hunt .start true)
      ∧ s.startEngine.beacon.owner = none := by
  obtain ⟨hroam, hpins, hhost, howner⟩ :=
    ((s.recallItems [] s.recallArea.list).restartHunt.clearRoam).enterHunt_engine .start
  rw [State.startEngine, hroam, hpins, hhost, howner]
  simp [State.clearRoam, State.restartHunt]

/-- R13, R83, R84: the table and the hunt of an accepted START. -/
theorem State.startEngine_hunt (s : State) :
    s.startEngine.table = (s.recallItems [] s.recallArea.list).table
      ∧ s.startEngine.scan.listen = none ∧ s.startEngine.scan.visit = none ∧ s.startEngine.scan.cursor = 0
      ∧ s.startEngine.scan.huntList = (s.setTable s.startEngine.table).huntSources
      ∧ s.startEngine.frontEnd = s.frontEnd ++ (s.startEngine.scan.huntList.head?.map FrontEndRecord.tune).toList := by
  obtain ⟨hlisten, hvisit, hcursor, hlist, hfront⟩ :=
    ((s.recallItems [] s.recallArea.list).restartHunt.clearRoam).enterHunt_scan .start
  have htable : s.startEngine.table = (s.recallItems [] s.recallArea.list).table := by simp [State.startEngine]
  refine ⟨htable, hlisten, hvisit, hcursor, hlist.trans ?_, ?_⟩
  · exact State.huntSources_congr (by simp [htable]) (by simp) (by simp)
  · rw [State.startEngine, hfront, hlist]
    simp

/-- R13: a recalled site whose code is present leaves the table. -/
theorem State.recallItem_present {s : State} {item : Site} {i : Nat} (kept : List Nat) (h : s.findCode item.code = some i) :
    s.recallItem kept item = (s, kept) := by
  simp [State.recallItem, h]

/-- R13: a recalled site whose channel and colour are taken counts as a conflict. -/
theorem State.recallItem_conflict {s : State} {item : Site} (kept : List Nat) (h : s.findCode item.code = none)
    (hc : s.clashes none { channel := item.channel, colour := item.colour }) :
    s.recallItem kept item = (s.conflictCounted, kept) := by
  simp only [State.recallItem, h, (s.pairClash_iff none _).2 hc]
  rfl

/-- R13: a recalled site for which there is no place counts as a skip. -/
theorem State.recallItem_skipped {s : State} {item : Site} {kept : List Nat} (h : s.findCode item.code = none)
    (hc : ¬s.clashes none { channel := item.channel, colour := item.colour }) (hp : s.hasNoPlace kept) :
    s.recallItem kept item = (s.setTable { s.table with skips := min (s.table.skips + 1) 65535 }, kept) := by
  simp only [State.recallItem, h, State.pairClash_eq_false hc, State.placeFor_of_hasNoPlace hp]
  rfl

/-- R13: any other recalled site is admitted and kept for the rest of this START. -/
theorem State.recallItem_admitted {s : State} {item : Site} {kept : List Nat} {i : Nat} (h : s.findCode item.code = none)
    (hc : ¬s.clashes none { channel := item.channel, colour := item.colour }) (hp : s.takesNew kept i) :
    s.recallItem kept item =
      ((s.withoutObject i).setTable
          (s.withEntry i
            (admittedEntry item.code { channel := item.channel, colour := item.colour } .recalled 0 none)),
        i :: kept) := by
  simp only [State.recallItem, h, State.pairClash_eq_false hc, State.placeFor_of_takesNew hp, State.replaceEntry_eq]
  rfl

end Sys2Proof.Machine
end

section
/-! PROOFS. START and the resets. -/

namespace Sys2Proof.Proofs

open Sys2Proof Sys2Proof.Machine

/-- Settles O40: START's refusals, its entry to HUNT over the table that the recalled sites leave, and what each recalled site
does. -/
theorem startEntersTheHunt : Obligations.StartEntersTheHunt := by
  refine ⟨fun s f rest h hk hb => ?_, fun s kept item rest => ⟨rfl, rfl⟩, fun s kept item _ => ?_⟩
  · have hrow : exec .start s = .next ((s.setHost (s.host.taken rest)).startCommand f) :=
      congrArg Host.Outcome.next (takeKind_of_offers h hk)
    refine ⟨fun he => ?_, fun he hid => ?_, fun he hid => ?_⟩
    · rw [hrow, State.startCommand_of_running (s := s.setHost (s.host.taken rest)) hb he]
      rfl
    · rw [hrow, State.startCommand_of_unprovisioned (s := s.setHost (s.host.taken rest)) hb he hid]
      rfl
    · rw [hrow, State.startCommand_accepted (s := s.setHost (s.host.taken rest)) hb he hid]
      obtain ⟨hroam, hpins, hhost, howner⟩ := (s.setHost (s.host.taken rest)).startEngine_engine
      obtain ⟨htable, hlisten, hvisit, hcursor, hlist, hfront⟩ := (s.setHost (s.host.taken rest)).startEngine_hunt
      have hitems : (s.setHost (s.host.taken rest)).startEngine.table = (s.recallItems [] s.recallArea.list).table := by
        rw [htable, State.setHost_recallArea, State.recallItems_setHost_taken, State.setHost_table]
      refine ⟨_, rfl, ?_⟩
      simp only [reply_eq_answer, State.setHost_roam, State.setHost_pins, State.setHost_host, State.setHost_scan,
        State.setHost_beacon, State.setHost_table, State.setHost_frontEnd]
      refine ⟨hroam, hpins, ?_, hlisten, hvisit, hcursor, howner, hitems, ?_, hfront, ?_⟩
      · rw [hhost, ← he]
        rfl
      · exact hlist.trans (State.huntSources_congr rfl rfl rfl)
      · simp [State.startEngine]
  · exact ⟨fun i hf => State.recallItem_present kept hf, fun hf =>
      ⟨State.recallItem_conflict kept hf, State.recallItem_skipped hf, fun hc i hp => State.recallItem_admitted hf hc hp⟩⟩

/-- Settles O49: the three rows that reset, what each reset leaves of the Recall Area, and the reset values. -/
theorem resetValuesAreTaken : Obligations.ResetValuesAreTaken := by
  refine ⟨?_, ?_, ?_, rfl, by decide, by decide⟩
  · intro s tag q hsup htaken htx row hrow
    simp only [List.mem_cons, List.not_mem_nil, or_false] at hrow
    rcases hrow with rfl | rfl
    · have hdue : exec .recordSent s = .next s.softReset := by
        refine congrArg Host.Outcome.next ((whileRunning_of_running hsup).trans ?_)
        rw [State.recordSent, htx]
        simp only [htaken]
        rfl
      exact hdue
    · have hdue : exec .softReset s = .next s.softReset := by
        refine congrArg Host.Outcome.next ((whileRunning_of_running hsup).trans ?_)
        rw [State.softResetDue, htx]
        simp only [htaken]
        rfl
      exact hdue
  · intro s hsup
    exact congrArg Host.Outcome.next (if_neg hsup)
  · intro a unsound kept read erased
    have hunsound : unsound → pageUnsound a.page = true := (pageUnsound_iff a.page).2
    have hsound : ¬unsound → pageUnsound a.page = false := fun h => by
      rw [← Bool.not_eq_true]
      exact mt (pageUnsound_iff a.page).1 h
    have hread {b : RecallArea} (hl : b.list = recallListOf a.page) (hfill : b.fill = usedPrefix a.page) : read b := by
      obtain ⟨h1, h2, h3⟩ := usedPrefix_spec a.page
      exact ⟨hl, by rw [hfill]; exact ⟨h1, h2, h3⟩⟩
    refine ⟨a.powerOn_kept, a.softReset_kept, fun h => RecallArea.powerOn_of_unsound (hunsound h), fun h => ?_,
      fun h => ?_, fun h => ?_, fun x hw h => ?_⟩
    · obtain ⟨hwriter, hl, hfill⟩ := RecallArea.powerOn_of_sound (hsound h)
      exact ⟨hwriter, hread hl hfill⟩
    · simp only [RecallArea.softReset, h]
    · simp only [RecallArea.softReset, h]
      exact ⟨rfl, rfl, rfl⟩
    · obtain ⟨-, hl, hfill⟩ := RecallArea.powerOn_of_sound (hsound h)
      have hsoft : a.softReset = { a.powerOn with writer := .writing x } := by simp only [RecallArea.softReset, hw]
      rw [hsoft]
      exact ⟨rfl, hread hl hfill⟩

end Sys2Proof.Proofs
end

section
/-! SUPPORT. The Site Table's limits and its work at a multiframe start (R18, R21, R22, R55, R77). -/

namespace Sys2Proof.Machine

/-! ## The heard age (R18) -/

/-- R18: an entry is HEARD and its next heard age meets the limit. -/
theorem Entry.reachesAge_iff (limit : Nat) (e : Entry) :
    e.reachesAge limit = true ↔ e.status = .heard ∧ limit ≤ min (e.heardAge + 1) 255 := by
  by_cases h : e.status = .heard <;> simp [Entry.reachesAge, Entry.aged, Entry.occupied, h]

/-- R18: an entry after its heard ageing: its age rises, and at the limit it falls to LISTED. -/
def Entry.heardAged (limit : Nat) (e : Entry) : Entry := if e.reachesAge limit then e.aged.fallen else e.aged

/-- R18: an entry at the limit falls. -/
theorem State.ageEntry_of_reaches {s : State} {i : Nat} (h : (s.entry i).reachesAge (s.par .heardAgeLimit) = true) :
    s.ageEntry i = (s.setEntry i (s.entry i).aged).fallToListed i := by
  simp only [State.ageEntry, h, if_true]

/-- R18: any other entry ages. -/
theorem State.ageEntry_of_not_reaches {s : State} {i : Nat} (h : ¬(s.entry i).reachesAge (s.par .heardAgeLimit) = true) :
    s.ageEntry i = s.setEntry i (s.entry i).aged := by
  simp only [State.ageEntry, if_neg h]

/-- An entry that ages to its limit is not FREE. -/
theorem State.lt_length_of_reaches {s : State} {i limit : Nat} (h : (s.entry i).reachesAge limit = true) :
    i < s.table.entries.length := by
  obtain ⟨hheard, -⟩ := (Entry.reachesAge_iff _ _).1 h
  exact State.lt_length_of_not_free (by simp [hheard])

/-- R18: what the heard ageing of one entry does to the table. -/
theorem State.ageEntry_table (s : State) (i : Nat) :
    (s.ageEntry i).table = s.withEntry i ((s.entry i).heardAged (s.par .heardAgeLimit)) := by
  by_cases h : (s.entry i).reachesAge (s.par .heardAgeLimit) = true
  · rw [State.ageEntry_of_reaches h, State.fallToListed, (State.dwellCleared_frame ..).2.1,
      State.entry_setEntry_same _ (State.lt_length_of_reaches h), State.setEntry_setEntry, Entry.heardAged, if_pos h]
    rfl
  · rw [State.ageEntry_of_not_reaches h, Entry.heardAged, if_neg h]
    rfl

/-- A ranking whose watch is as it was is as it was. -/
theorem RankingUnit.eq_with_watch {r : RankingUnit} {w : Option Nat} (h : w = r.watch) : r = { r with watch := w } := by
  subst h
  rfl

/-- R18, R70: the watch goes with an entry that falls. -/
theorem State.ageEntry_ranking (s : State) (i : Nat) :
    (s.ageEntry i).ranking =
      { s.ranking with
        watch := s.ranking.watch.filter fun w => !(w == i && (s.entry w).reachesAge (s.par .heardAgeLimit)) } := by
  by_cases h : (s.entry i).reachesAge (s.par .heardAgeLimit) = true
  · rw [State.ageEntry_of_reaches h, State.fallToListed, State.dwellCleared_ranking]
    cases hw : s.ranking.watch with
    | none => simp [hw]
    | some w => by_cases hwi : w = i <;> simp [hw, hwi, h, Option.filter_some]
  · rw [State.ageEntry_of_not_reaches h, (State.setEntry_frame ..).2.2.2.1]
    refine RankingUnit.eq_with_watch ?_
    cases s.ranking.watch with
    | none => rfl
    | some w => by_cases hwi : w = i <;> simp [hwi, h, Option.filter_some]

/-- R18, R44: in CAMPED the Watch Store's owner goes with a watch candidate that falls. -/
theorem State.ageEntry_beacon_of_watch {s : State} {i : Nat} (h : (s.entry i).reachesAge (s.par .heardAgeLimit) = true)
    (hw : s.ranking.watch = some i) (hc : s.roam.engine = .camped) :
    (s.ageEntry i).beacon.owner = none
      ∧ (s.beacon.owner ≠ none →
          (s.ageEntry i).beacon.watchStore = Store.cleared ∧ (s.ageEntry i).beacon.lastWatch = none) := by
  rw [State.ageEntry_of_reaches h, State.fallToListed]
  simpa using State.dwellCleared_beacon_of_watch
    (s := (s.setEntry i (s.entry i).aged).setEntry i ((s.setEntry i (s.entry i).aged).entry i).fallen)
    (by simpa using hw) (by simpa using hc)

/-- R18, R44: else the Beacon Assembler stands. -/
theorem State.ageEntry_beacon_of_ne {s : State} {i : Nat} (h : s.ranking.watch ≠ some i ∨ s.roam.engine ≠ .camped) :
    (s.ageEntry i).beacon = s.beacon := by
  by_cases hr : (s.entry i).reachesAge (s.par .heardAgeLimit) = true
  · rw [State.ageEntry_of_reaches hr, State.fallToListed, State.dwellCleared_beacon_of_ne (by simpa using h)]
    simp
  · simp [State.ageEntry_of_not_reaches hr]

/-- R18, R44: an owner that is gone does not come back. -/
theorem State.ageEntry_owner_none {s : State} (i : Nat) (h : s.beacon.owner = none) : (s.ageEntry i).beacon.owner = none := by
  by_cases hr : (s.entry i).reachesAge (s.par .heardAgeLimit) = true
  · by_cases hwc : s.ranking.watch = some i ∧ s.roam.engine = .camped
    · exact (State.ageEntry_beacon_of_watch hr hwc.1 hwc.2).1
    · rw [State.ageEntry_beacon_of_ne (not_and_or.1 hwc), h]
  · simpa [State.ageEntry_of_not_reaches hr] using h

/-! ## The heard ageing of the whole table -/

/-- R18: ageing entries leaves the parameters and the engine. -/
theorem State.foldl_ageEntry_frame (s : State) (l : List Nat) :
    (l.foldl State.ageEntry s).host = s.host ∧ (l.foldl State.ageEntry s).roam = s.roam := by
  induction l generalizing s with
  | nil => exact ⟨rfl, rfl⟩
  | cons i l ih => simpa using ih (s.ageEntry i)

/-- R18: ageing entries leaves the parameters. -/
theorem State.foldl_ageEntry_par (s : State) (l : List Nat) (p : Param) : (l.foldl State.ageEntry s).par p = s.par p := by
  rw [State.par, State.par, (s.foldl_ageEntry_frame l).1]

/-- Ageing the entries below the next index: those below this one, then this one. -/
theorem State.foldl_ageEntry_succ (s : State) (n : Nat) :
    (List.range (n + 1)).foldl State.ageEntry s = ((List.range n).foldl State.ageEntry s).ageEntry n := by
  rw [List.range_succ, List.foldl_append]
  rfl

/-- R18: the entries below an index aged, the others as they were. -/
theorem State.foldl_ageEntry_table (s : State) (n : Nat) :
    ((List.range n).foldl State.ageEntry s).table =
      { s.table with
        entries := s.table.entries.mapIdx fun k e => if k < n then e.heardAged (s.par .heardAgeLimit) else e } := by
  induction n with
  | zero =>
    have hmap : (s.table.entries.mapIdx fun k e => if k < 0 then e.heardAged (s.par .heardAgeLimit) else e)
        = s.table.entries := List.ext_getElem (by simp) (by simp)
    rw [hmap]
    rfl
  | succ n ih =>
    have hentry : ((List.range n).foldl State.ageEntry s).entry n = s.entry n := by
      simp [State.entry, ih]
    rw [State.foldl_ageEntry_succ, State.ageEntry_table, hentry, State.foldl_ageEntry_par, State.withEntry, ih]
    simp only [SiteTable.mk.injEq, and_true]
    refine List.ext_getElem (by simp) fun k hk hk' => ?_
    simp only [List.length_mapIdx] at hk'
    rw [List.getElem_set, List.getElem_mapIdx, List.getElem_mapIdx]
    split
    · next h =>
      subst h
      rw [if_pos (by omega), State.entry_eq_getElem hk']
    · next h => exact if_congr (by omega) rfl rfl

/-- R18: an entry not yet aged stands. -/
theorem State.foldl_ageEntry_entry (s : State) (n : Nat) : ((List.range n).foldl State.ageEntry s).entry n = s.entry n := by
  simp [State.entry, State.foldl_ageEntry_table]

/-- R18, R70: the watch goes when its candidate falls. -/
theorem State.foldl_ageEntry_ranking (s : State) (n : Nat) :
    ((List.range n).foldl State.ageEntry s).ranking =
      { s.ranking with
        watch := s.ranking.watch.filter fun w =>
          !(decide (w < n) && (s.entry w).reachesAge (s.par .heardAgeLimit)) } := by
  induction n with
  | zero =>
    refine RankingUnit.eq_with_watch (r := s.ranking) ?_
    cases s.ranking.watch <;> simp [Option.filter_some]
  | succ n ih =>
    rw [State.foldl_ageEntry_succ, State.ageEntry_ranking, ih, State.foldl_ageEntry_par]
    simp only [RankingUnit.mk.injEq, and_true]
    rw [Option.filter_filter]
    refine congrArg (Option.filter · s.ranking.watch) (funext fun w => ?_)
    by_cases hwn : w = n
    · subst hwn
      simp [State.foldl_ageEntry_entry]
    · have hlt : w < n + 1 ↔ w < n := by omega
      simp [hwn, hlt]

/-- R18, R44: in CAMPED the owner of the Watch Store goes when the watch candidate falls. -/
theorem State.foldl_ageEntry_owner {s : State} {w n : Nat} (hw : s.ranking.watch = some w) (hn : w < n)
    (h : (s.entry w).reachesAge (s.par .heardAgeLimit) = true) (hc : s.roam.engine = .camped) :
    ((List.range n).foldl State.ageEntry s).beacon.owner = none := by
  induction n with
  | zero => omega
  | succ n ih =>
    rw [State.foldl_ageEntry_succ]
    by_cases hwn : w < n
    · exact State.ageEntry_owner_none n (ih hwn)
    · obtain rfl : w = n := by omega
      refine (State.ageEntry_beacon_of_watch ?_ ?_ ?_).1
      · rw [State.foldl_ageEntry_entry, State.foldl_ageEntry_par, h]
      · simp [State.foldl_ageEntry_ranking, hw]
      · rw [(s.foldl_ageEntry_frame _).2, hc]

/-! ## The multiframe start -/

/-- R22: an entry at the decay. -/
def Entry.decayed (decays : Bool) (e : Entry) : Entry := { e with penalty := if decays then e.penalty - 1 else e.penalty }

/-- R22: the decay counter and the penalties. -/
theorem State.decayTick_table (s : State) :
    s.decayTick.table =
      { s.table with
        decay := if s.par .decayInterval ≤ s.table.decay + 1 then 0 else s.table.decay + 1
        entries := s.table.entries.map (Entry.decayed (decide (s.par .decayInterval ≤ s.table.decay + 1))) } := by
  unfold State.decayTick
  by_cases h : s.par .decayInterval ≤ s.table.decay + 1
  · rw [if_pos h, if_pos h, decide_eq_true h]
    rfl
  · have hid : Entry.decayed false = id := rfl
    rw [if_neg h, if_neg h, decide_eq_false h, hid, List.map_id]
    rfl

/-- R18: the heard age of an entry that is neither FREE nor SERVING rises. -/
theorem Entry.aged_eq (e : Entry) :
    e.aged =
      { e with
        heardAge := if e.status = .free ∨ e.status = .serving then e.heardAge else min (e.heardAge + 1) 255 } := by
  obtain ⟨status⟩ := e
  cases status <;> rfl

/-- R55: a digest's age at a multiframe start. -/
theorem Entry.digestTick_eq (limit : Nat) (e : Entry) :
    e.digestTick limit =
      { e with
        digest := e.digest.bind fun d =>
          if limit ≤ min (d.age + 1) 255 then none else some { d with age := min (d.age + 1) 255 } } := by
  unfold Entry.digestTick
  obtain ⟨_, _, _, _, _, _, _, _, _, _, _, _, digest⟩ := e
  cases digest with
  | none => rfl
  | some d =>
    simp only [Option.bind_some]
    split <;> rfl

/-- R18, R21, R22, R55: an entry at a multiframe start, part by part. -/
theorem Entry.afterMultiframe_eq (e : Entry) (ageLimit digestLimit : Nat) (decays : Bool) :
    e.afterMultiframe ageLimit digestLimit decays =
      (((e.heardAged ageLimit).barTick).decayed decays).digestTick digestLimit := by
  have hfalls : decide (e.status = .heard ∧ ageLimit ≤ e.aged.heardAge) = e.reachesAge ageLimit := by
    rw [Bool.eq_iff_iff]
    simp [Entry.reachesAge]
  rw [Entry.digestTick_eq, Entry.heardAged, ← hfalls, Entry.aged_eq, Entry.afterMultiframe]
  dsimp only
  generalize (if e.status = .free ∨ e.status = .serving then e.heardAge else min (e.heardAge + 1) 255) = age
  generalize decide (e.status = .heard ∧ ageLimit ≤ age) = falls
  cases falls <;> rfl

/-- Changing every entry in the same way. -/
theorem State.mapEntries_table (s : State) (f : Entry → Entry) :
    (s.mapEntries f).table = { s.table with entries := s.table.entries.map f } := rfl

/-- The parameters do not lie in the table. -/
theorem State.mapEntries_par (s : State) (f : Entry → Entry) (p : Param) : (s.mapEntries f).par p = s.par p := rfl

/-- R22: the decay leaves the parameters. -/
theorem State.decayTick_par (s : State) (p : Param) : s.decayTick.par p = s.par p := by
  simp only [State.par, State.decayTick_frame]

/-- R18, R21, R22, R55: the table's work at a multiframe start, entry by entry. -/
theorem State.multiframeWork_table {s : State} (ht : s.tableSound) :
    s.multiframeWork.table =
      { s.table with
        decay := if s.par .decayInterval ≤ s.table.decay + 1 then 0 else s.table.decay + 1
        entries := s.table.entries.map fun e =>
          e.afterMultiframe (s.par .heardAgeLimit) (s.par .digestAgeLimit)
            (decide (s.par .decayInterval ≤ s.table.decay + 1)) } := by
  have hwork : s.multiframeWork.table = s.tableMultiframe.table := by
    unfold State.multiframeWork
    dsimp only
    split <;> simp
  have haged : s.ageEntries.table =
      { s.table with entries := s.table.entries.map (Entry.heardAged (s.par .heardAgeLimit)) } := by
    have hmap : (s.table.entries.mapIdx fun k e => if k < 12 then e.heardAged (s.par .heardAgeLimit) else e)
        = s.table.entries.map (Entry.heardAged (s.par .heardAgeLimit)) := by
      refine List.ext_getElem (by simp) fun k hk hk' => ?_
      rw [State.tableSound] at ht
      simp only [List.length_mapIdx, ht] at hk
      simp [hk]
    rw [← hmap]
    exact s.foldl_ageEntry_table 12
  have hpar (p : Param) : s.ageEntries.par p = s.par p := s.foldl_ageEntry_par _ p
  rw [hwork, State.tableMultiframe]
  simp only [State.mapEntries_table, State.mapEntries_par, State.decayTick_table, State.decayTick_par, hpar, haged]
  simp only [List.map_map, Entry.afterMultiframe_eq]
  rfl

/-- R18, R70, R77: what a multiframe start does to the watch, its owner and the plan, and what it leaves. -/
theorem State.tableMultiframe_ranking (s : State) : s.tableMultiframe.ranking = s.ageEntries.ranking := by
  simp only [State.tableMultiframe, State.mapEntries_frame, State.decayTick_frame]

/-- R18, R55: the beacons after the table's multiframe work are those that ageing leaves. -/
theorem State.tableMultiframe_beacon (s : State) : s.tableMultiframe.beacon = s.ageEntries.beacon := by
  simp only [State.tableMultiframe, State.mapEntries_frame, State.decayTick_frame]

/-- R77: the plan of a multiframe start in CAMPED. -/
theorem State.advancePlan_scan (s : State) :
    s.advancePlan.scan =
      { s.scan with
        rotation := (s.scan.rotation + 3) % 16
        spent :=
          match s.scan.visit with
          | some v => if v.start = 0 ∧ v.stage = .settle then [0] else []
          | none => [] } := by
  unfold State.advancePlan
  cases s.scan.visit with
  | none => rfl
  | some v => simp only [State.setScan_scan, Bool.and_eq_true, beq_iff_eq]

/-- R77: the plan moves in CAMPED alone; the rest of the work is the table's. -/
theorem State.multiframeWork_eq (s : State) :
    s.multiframeWork = if s.roam.engine = .camped then s.tableMultiframe.advancePlan else s.tableMultiframe := by
  simp only [State.multiframeWork, State.tableMultiframe_frame]

/-- The heard ageing of the table is that of its twelve entries in turn. -/
theorem State.ageEntries_eq (s : State) : s.ageEntries = (List.range 12).foldl State.ageEntry s := rfl

/-- R18, R70: the watch at a multiframe start goes when its candidate falls. -/
theorem State.multiframeWork_ranking {s : State} (ht : s.tableSound) :
    s.multiframeWork.ranking =
      { s.ranking with
        watch := s.ranking.watch.filter fun w => !(s.entry w).reachesAge (s.par .heardAgeLimit) } := by
  have haged : s.multiframeWork.ranking = s.ageEntries.ranking := by
    rw [State.multiframeWork_eq, ← State.tableMultiframe_ranking]
    split <;> simp
  rw [haged, State.ageEntries_eq, State.foldl_ageEntry_ranking]
  simp only [RankingUnit.mk.injEq, and_true]
  refine congrArg (Option.filter · s.ranking.watch) (funext fun w => ?_)
  cases hr : (s.entry w).reachesAge (s.par .heardAgeLimit) with
  | false => simp
  | true =>
    have hw : w < 12 := ht ▸ State.lt_length_of_reaches hr
    simp [hw]

/-- R18, R44: in CAMPED the Watch Store's owner goes with a watch candidate that falls. -/
theorem State.multiframeWork_owner {s : State} {w : Nat} (ht : s.tableSound) (hw : s.ranking.watch = some w)
    (h : (s.entry w).reachesAge (s.par .heardAgeLimit) = true) (hc : s.roam.engine = .camped) :
    s.multiframeWork.beacon.owner = none := by
  have hlt : w < 12 := ht ▸ State.lt_length_of_reaches h
  rw [State.multiframeWork_eq, if_pos hc, (State.advancePlan_frame _).2.2.1, State.tableMultiframe_beacon,
    State.ageEntries_eq]
  exact State.foldl_ageEntry_owner hw hlt h hc

/-! ## The limit rows -/

/-- R18: the row of a heard age at its limit is the entry's ageing. -/
theorem State.heardAgeLimit_of_reaches {s : State} {i : Nat} (h : (s.entry i).reachesAge (s.par .heardAgeLimit) = true) :
    s.heardAgeLimit i = s.ageEntry i := by
  rw [State.heardAgeLimit, if_pos h]

/-- R18: an entry that falls. -/
theorem Entry.heardAged_of_reaches {e : Entry} {limit : Nat} (h : e.reachesAge limit = true) :
    e.heardAged limit =
      { e with heardAge := min (e.heardAge + 1) 255, status := .listed, level := 0, samples := 0, dwell := 0 } := by
  obtain ⟨hst, -⟩ := (Entry.reachesAge_iff _ _).1 h
  rw [Entry.heardAged, if_pos h, Entry.aged_eq, Entry.fallen]
  simp [hst]

/-- R55: a digest whose next age meets the limit expires. -/
theorem Entry.digestExpires_of_digest {e : Entry} {d : Digest} {limit : Nat} (h : e.digest = some d)
    (hl : limit ≤ min (d.age + 1) 255) : e.digestExpires limit = true := by
  simp only [Entry.digestExpires, h, decide_eq_true hl]

end Sys2Proof.Machine
end

section
/-! PROOFS. The table's limits. -/

namespace Sys2Proof.Proofs

open Sys2Proof Sys2Proof.Machine

/-- Settles O54: each limit row by its own count, and the multiframe start by the table's work and the plan's. -/
theorem tableLimitsAct : Obligations.TableLimitsAct := by
  constructor
  · intro s hsup
    refine ⟨fun i hst hl => ?_, fun i hb => ?_, fun hd => ?_, fun i d hd hl => ?_⟩
    · have hr : (s.entry i).reachesAge (s.par .heardAgeLimit) = true := (Entry.reachesAge_iff _ _).2 ⟨hst, hl⟩
      have hrow : exec (.heardAgeLimit i) s = .next (s.ageEntry i) :=
        congrArg Host.Outcome.next ((whileRunning_of_running hsup).trans (State.heardAgeLimit_of_reaches hr))
      refine ⟨_, hrow, ?_, ?_, State.ageEntry_beacon_of_watch hr, State.ageEntry_beacon_of_ne, by simp⟩
      · rw [State.ageEntry_table, Entry.heardAged_of_reaches hr]
        rfl
      · rw [State.ageEntry_of_reaches hr, State.fallToListed, State.dwellCleared_ranking]
        simp
    · have hrow : exec (.barEnd i) s = .next (s.setEntry i (s.entry i).barTick) :=
        congrArg Host.Outcome.next ((whileRunning_of_running hsup).trans (if_pos hb))
      rw [hrow, Entry.barTick, hb]
      rfl
    · have hrow : exec .departureDecay s = .next s.decayTick :=
        congrArg Host.Outcome.next ((whileRunning_of_running hsup).trans (if_pos hd))
      rw [hrow, State.decayTick, if_pos hd]
      rfl
    · exact congrArg Host.Outcome.next
        ((whileRunning_of_running hsup).trans (if_pos (Entry.digestExpires_of_digest hd hl)))
  · intro s ht decays falls
    have hfalls (w : Nat) : falls (s.entry w) ↔ (s.entry w).reachesAge (s.par .heardAgeLimit) = true :=
      (Entry.reachesAge_iff _ _).symm
    refine ⟨?_, ?_, ?_, fun w hw hf hc => State.multiframeWork_owner ht hw ((hfalls w).1 hf) hc, ?_⟩
    · rw [State.multiframeWork_table ht]
      simp only [decays, decide_eq_true_eq]
    · rw [State.multiframeWork_ranking ht]
      cases s.ranking.watch with
      | none => rfl
      | some w =>
        simp only [Option.filter_some, hfalls]
        cases (s.entry w).reachesAge (s.par .heardAgeLimit) <;> rfl
    · rw [State.multiframeWork_eq]
      split
      · have hscan : s.tableMultiframe.scan = s.scan := (State.tableMultiframe_frame s).2.2.1
        cases hv : s.scan.visit <;> simp only [State.advancePlan_scan, hscan, hv]
      · simp
    · rw [State.multiframeWork_eq]
      split <;> simp

end Sys2Proof.Proofs
end

section
/-! SUPPORT. ACCEPT (R17, R50, R102, R104, R124): the state it leads to, and the exchange it begins. -/

namespace Sys2Proof.Machine

/-! ## The serving entry (R17) -/

/-- Every entry changed in the same way, where a FREE entry stays as it is. -/
theorem State.mapEntries_entry (s : State) {f : Entry → Entry} (hf : f Entry.free = Entry.free) (k : Nat) :
    (s.mapEntries f).entry k = f (s.entry k) := by
  simp only [State.entry, State.mapEntries_table, List.getD_eq_getElem?_getD, List.getElem?_map]
  cases s.table.entries[k]? with
  | none => exact hf.symm
  | some e => rfl

/-- R17: the end of serving touches the SERVING entry alone. -/
theorem State.endServing_entry_other {s : State} {k : Nat} (penalty : Nat) (h : s.serving ≠ some k) :
    (s.endServing penalty).entry k = s.entry k := by
  unfold State.endServing
  split
  · next j hj => exact State.entry_setEntry_other _ _ (by rintro rfl; exact h hj)
  · rfl

/-- R17: the SERVING entry becomes HEARD with the penalty. -/
theorem State.endServing_entry {s : State} {j : Nat} (penalty : Nat) (h : s.serving = some j) :
    (s.endServing penalty).entry j = { s.entry j with status := .heard, barred := 0, penalty := penalty } := by
  simp only [State.endServing, h]
  exact State.entry_setEntry_same _ (State.serving_eq_some h).1

/-- R68, R70: outside CAMPED the dwell counts and the watch are cleared and the Beacon Assembler stands. -/
theorem State.clearAllDwell_eq {s : State} (h : s.roam.engine ≠ .camped) :
    s.clearAllDwell =
      (s.mapEntries fun e => { e with dwell := 0 }).setRanking { s.ranking with watch := none } := by
  simp [State.clearAllDwell, State.clearWatch, h]

/-! ## What ACCEPT leads to, ahead of the Access Unit -/

/-- R17, R50, R102, R104: ACCEPT's handling before the Access Unit goes on. -/
def State.accepted (s : State) (i : Nat) : State :=
  let s1 := ((s.endServing (s.par .departurePenalty)).beginServing i).clearAllDwell
  let s2 := (s1.setRanking { s1.ranking with weakCount := 0, weakReported := false }).clearCampedCounts
  let s3 := (s2.moveWatchStore.allUnsent.scanIdle.enterEngine .camped .outcome).rebuildPlan
  let s4 := s3.event (.roamed (s.roam.previous.getD 0) i (s.entry i).code s.roam.reason)
  (s4.setRecallArea
    (s4.recallArea.append
      { code := (s.entry i).code, channel := (s.entry i).channel, colour := (s.entry i).colour })).clearRoam

/-- R102: ACCEPT of a target that the table holds. -/
theorem State.acceptRoam_eq {s : State} {i : Nat} (count : Nat) (h : s.findCode s.access.target = some i) :
    s.acceptRoam count = (s.accepted i).afterAccept count := by
  simp only [State.acceptRoam, h]
  rfl

/-- R17, R68: the table ACCEPT leaves. -/
theorem State.accepted_entry (s : State) (i k : Nat) :
    (s.accepted i).entry k =
      { ((s.endServing (s.par .departurePenalty)).beginServing i).entry k with dwell := 0 } := by
  have htable : (s.accepted i).table =
      (((s.endServing (s.par .departurePenalty)).beginServing i).mapEntries fun e => { e with dwell := 0 }).table := by
    simp [State.accepted, State.clearAllDwell]
  rw [State.entry_congr htable]
  exact State.mapEntries_entry _ rfl k

/-- R17: the target serves. -/
theorem State.accepted_entry_target {s : State} {i : Nat} (hi : i < s.table.entries.length) (h : s.serving ≠ some i) :
    (s.accepted i).entry i =
      { s.entry i with status := .serving, heardAge := 0, barred := 0, penalty := 0, dwell := 0 } := by
  rw [State.accepted_entry, State.beginServing, State.entry_setEntry_same _ (by simpa using hi),
    State.endServing_entry_other _ h]

/-- R17: any other entry is as the end of serving leaves it, with dwell count 0. -/
theorem State.accepted_entry_other {s : State} {i k : Nat} (h : k ≠ i) :
    (s.accepted i).entry k = { (s.endServing (s.par .departurePenalty)).entry k with dwell := 0 } := by
  rw [State.accepted_entry, State.beginServing, State.entry_setEntry_other _ _ h]

/-- R50, R68, R71, R73, R102: the blocks that ACCEPT changes, but for the table, in a registration. -/
theorem State.accepted_blocks {s : State} (i : Nat) (h : s.roam.engine = .registering) :
    (s.accepted i).beacon =
        { s.beacon with
          servingStore := s.beacon.watchStore, lastServing := s.beacon.lastWatch, watchStore := Store.cleared
          owner := none, lastWatch := none }
      ∧ (s.accepted i).groups =
          { s.groups with groups := s.groups.groups.map fun g => { g with delivery := .unsent } }
      ∧ (s.accepted i).ranking = { watch := none, weakCount := 0, weakReported := false, reportCount := 0 }
      ∧ (s.accepted i).roam = { s.roam with engine := .camped, previous := none, reason := none }
      ∧ (s.accepted i).pins.txinh = false ∧ (s.accepted i).intake.loss = 0
      ∧ (s.accepted i).host =
          (s.host.offer (.engineState s.roam.engine .camped .outcome false)).offer
            (.roamed (s.roam.previous.getD 0) i (s.entry i).code s.roam.reason)
      ∧ (s.accepted i).recallArea =
          s.recallArea.append
            { code := (s.entry i).code, channel := (s.entry i).channel, colour := (s.entry i).colour }
      ∧ (s.accepted i).access = s.access ∧ (s.accepted i).frontEnd = s.frontEnd := by
  have hreg : ((s.endServing (s.par .departurePenalty)).beginServing i).roam.engine ≠ .camped := by simp [h]
  simp [State.accepted, State.clearAllDwell_eq hreg, State.moveWatchStore, State.clearCampedCounts, State.clearRoam,
    State.event_host, State.enterEngine_host, Engine.inhibits, State.allUnsent, State.setGroupList]

/-! ## The exchange that follows (R124, R125) -/

/-- R116, R125: in an affiliation exchange a burst is sent at once, or nothing happens. -/
theorem State.sendIfDue_affiliating {s : State} (h : s.access.state = .affiliating) :
    s.sendIfDue = s ∨ ∃ next, s.sendIfDue = s.countAttempt.sendGroups next .affiliate := by
  unfold State.sendIfDue
  split
  · dsimp only
    split
    · exact .inr ⟨_, rfl⟩
    · exact .inl rfl
  · exact .inl rfl

/-- R115: a draw steps the generator and leaves the rest of the Access Unit but the backoff count. -/
theorem State.draw_access (s : State) :
    s.draw.access.state = s.access.state ∧ s.draw.access.attempts = s.access.attempts
      ∧ s.draw.access.outstanding = s.access.outstanding
      ∧ ∀ g, s.access.generator = some g → s.draw.access.generator = some (generatorStep g) := by
  unfold State.draw
  split
  · next g h => simp [h]
  · next h => simp [h]

/-- R125: the Access Unit as an exchange begins. -/
theorem State.beginExchange_access (s : State) (sitePosition : Option Nat) :
    (s.beginExchange sitePosition).access.state = .affiliating ∧ (s.beginExchange sitePosition).access.attempts = 0
      ∧ (s.beginExchange sitePosition).access.outstanding = none
      ∧ ∀ g, s.access.generator = some g →
          (s.beginExchange sitePosition).access.generator = some (generatorStep g) := by
  rw [State.beginExchange, (State.exchangeBegins_frame _).2.2.2.2.2.2.1]
  exact State.draw_access _

/-- R137: the delivery state of an entry by its place, where a burst is outstanding. -/
def deliveryUnder (outstanding : Option Burst) (k : Nat) : Delivery :=
  match outstanding with
  | some b => if k ∈ b.carried then .sent else .unsent
  | none => .unsent

/-- A group in the delivery state it is given stands. -/
theorem Group.with_delivery_eq_self {g : Group} {d : Delivery} (h : g.delivery = d) : { g with delivery := d } = g := by
  subst h
  rfl

/-- R137: a burst sent with UNSENT entries takes those it carries to SENT. -/
theorem mapIdx_markSent {l : List Group} (h : ∀ g ∈ l, g.delivery = .unsent) (b : Burst) :
    (l.mapIdx fun k g => if b.carried.contains k then { g with delivery := .sent } else g) =
      l.mapIdx fun k g => { g with delivery := deliveryUnder (some b) k } := by
  refine List.ext_getElem (by simp) fun k _ hk => ?_
  have hkl : k < l.length := by simpa using hk
  simp only [List.getElem_mapIdx, List.contains_iff_mem, deliveryUnder]
  split
  · rfl
  · exact (Group.with_delivery_eq_self (h l[k] (List.getElem_mem hkl))).symm

/-- R137: with no burst outstanding UNSENT entries stand. -/
theorem mapIdx_deliveryUnder_none {l : List Group} (h : ∀ g ∈ l, g.delivery = .unsent) :
    (l.mapIdx fun k g => { g with delivery := deliveryUnder none k }) = l := by
  refine List.ext_getElem (by simp) fun k _ hk => ?_
  rw [List.getElem_mapIdx]
  exact Group.with_delivery_eq_self (h l[k] (List.getElem_mem hk))

/-- R137: the delivery state by place does not depend on the one before. -/
theorem mapIdx_deliveryUnder_map (l : List Group) (outstanding : Option Burst) :
    ((l.map fun g => { g with delivery := Delivery.unsent }).mapIdx fun k g =>
        { g with delivery := deliveryUnder outstanding k }) =
      l.mapIdx fun k g => { g with delivery := deliveryUnder outstanding k } :=
  List.ext_getElem (by simp) fun k _ _ => by simp

/-- R124, R125: a burst that carries group entries becomes the burst outstanding. -/
theorem State.sendGroups_access (s : State) (position : Nat) (kind : BurstKind) :
    (s.sendGroups position kind).access =
      { s.access with outstanding := some { position := position, carried := s.nextCarried } } := rfl

/-- R137: the entries it carries become SENT. -/
theorem State.sendGroups_groups (s : State) (position : Nat) (kind : BurstKind) :
    (s.sendGroups position kind).groups =
      { s.groups with
        groups := s.groups.groups.mapIdx fun k g =>
          if s.nextCarried.contains k then { g with delivery := .sent } else g } := rfl

/-- R124, R125, R137: an exchange over UNSENT groups, with the burst it may send at once. -/
theorem State.beginExchange_sendIfDue {s : State} (p : Option Nat) (hg : ∀ g ∈ s.groups.groups, g.delivery = .unsent) :
    let t := (s.beginExchange p).sendIfDue
    t.access.state = .affiliating
      ∧ t.access.attempts = (if t.access.outstanding = none then 0 else 1)
      ∧ (∀ g, s.access.generator = some g → t.access.generator = some (generatorStep g))
      ∧ t.groups =
          { s.groups with
            groups := s.groups.groups.mapIdx fun k g => { g with delivery := deliveryUnder t.access.outstanding k } } := by
  obtain ⟨hstate, hattempts, hout, hgen⟩ := s.beginExchange_access p
  intro t
  rcases State.sendIfDue_affiliating hstate with ht | ⟨next, ht⟩
  · have heq : t = s.beginExchange p := ht
    rw [heq, hout, mapIdx_deliveryUnder_none hg]
    exact ⟨hstate, by simp [hattempts], hgen, by simp⟩
  · have heq : t = (s.beginExchange p).countAttempt.sendGroups next .affiliate := ht
    have hgroups : (s.beginExchange p).countAttempt.groups = s.groups := by simp
    have hgenerator : t.access.generator = (s.beginExchange p).access.generator := by rw [heq]; rfl
    refine ⟨by rw [heq]; exact hstate, ?_, hgenerator ▸ hgen, ?_⟩
    · rw [heq, State.sendGroups_access, if_neg (by simp)]
      simp [State.countAttempt, hattempts]
    · rw [heq, State.sendGroups_groups, State.sendGroups_access, hgroups]
      exact congrArg (fun l => { s.groups with groups := l })
        (mapIdx_markSent hg { position := next, carried := (s.beginExchange p).countAttempt.nextCarried })

/-- R124, R137: what follows ACCEPT with count 0 over UNSENT groups: an exchange, or with no group the unit is idle. -/
theorem State.affiliateOrIdle_of_unsent {s : State} (hg : ∀ g ∈ s.groups.groups, g.delivery = .unsent) :
    s.affiliateOrIdle =
      if s.groups.groups = [] then s.accessIdle else (s.beginExchange s.access.sitePosition).sendIfDue := by
  have hany : s.anyUnsent = true ↔ s.groups.groups ≠ [] := by
    rw [State.anyUnsent, List.any_eq_true]
    constructor
    · rintro ⟨g, hmem, -⟩ hnil
      rw [hnil] at hmem
      cases hmem
    · intro hne
      obtain ⟨g, hmem⟩ := List.exists_mem_of_ne_nil _ hne
      exact ⟨g, hmem, by simp [hg g hmem]⟩
  rw [State.affiliateOrIdle]
  by_cases hnil : s.groups.groups = []
  · rw [if_neg (mt hany.1 (not_not.2 hnil)), if_pos hnil]
  · rw [if_pos (hany.2 hnil), if_neg hnil]

/-- R124: the continuation that follows a count above 0. -/
theorem State.afterAccept_continuing (s : State) {count : Nat} (h : 0 < count) :
    (s.afterAccept count).access.state = .continuing ∧ (s.afterAccept count).access.reserved = count
      ∧ (s.afterAccept count).access.outstanding = none ∧ (s.afterAccept count).access.params = s.access.params
      ∧ (s.afterAccept count).access.sitePosition = s.access.sitePosition
      ∧ (s.afterAccept count).frontEnd = s.frontEnd := by
  rw [State.afterAccept, if_neg (by omega)]
  exact ⟨rfl, rfl, rfl, rfl, rfl, rfl⟩

/-- R122: the unit goes to IDLE with no burst outstanding, and sends nothing. -/
theorem State.accessIdle_effect (s : State) :
    s.accessIdle.access.state = .idle ∧ s.accessIdle.access.outstanding = none ∧ s.accessIdle.frontEnd = s.frontEnd :=
  ⟨rfl, rfl, rfl⟩

/-- R124, R137: the groups ACCEPT leaves, by the burst that it may have sent at once. -/
theorem State.afterAccept_groups {s : State} (count : Nat) (hg : ∀ g ∈ s.groups.groups, g.delivery = .unsent) :
    (s.afterAccept count).groups =
      { s.groups with
        groups := s.groups.groups.mapIdx fun k g =>
          { g with delivery := deliveryUnder (s.afterAccept count).access.outstanding k } } := by
  have hstands {t : State} (ht : t.groups = s.groups) (hout : t.access.outstanding = none) :
      t.groups =
        { s.groups with
          groups := s.groups.groups.mapIdx fun k g => { g with delivery := deliveryUnder t.access.outstanding k } } := by
    rw [ht, hout, mapIdx_deliveryUnder_none hg]
  unfold State.afterAccept
  split
  · rw [State.affiliateOrIdle_of_unsent hg]
    split
    · exact hstands (by simp) rfl
    · exact (State.beginExchange_sendIfDue _ hg).2.2.2
  · exact hstands rfl rfl

end Sys2Proof.Machine
end

section
/-! PROOFS. ACCEPT. -/

namespace Sys2Proof.Proofs

open Sys2Proof Sys2Proof.Machine

/-- Settles O27: the state ACCEPT leads to, block by block, and the exchange the Access Unit begins on it. -/
theorem acceptChangesTheServingSite : Obligations.AcceptChangesTheServingSite := by
  intro s i count hreg hf hst
  have hi : i < s.table.entries.length := (State.findCode_eq_some hf).1
  have hserving : s.serving ≠ some i := fun h => hst (State.serving_eq_some h).2
  obtain ⟨hbeacon, hgroups, hranking, hroam, htxinh, hloss, hhost, hrecall, haccess, hfront⟩ := State.accepted_blocks i hreg
  have hunsent : ∀ g ∈ (s.accepted i).groups.groups, g.delivery = .unsent := by
    rw [hgroups]
    simp
  have hentry (k : Nat) : (s.acceptRoam count).entry k = (s.accepted i).entry k := by
    rw [State.acceptRoam_eq count hf, State.entry_congr (State.afterAccept_frame ..).2.1]
  have hdelivery := State.afterAccept_groups count hunsent
  refine ⟨(hentry i).trans (State.accepted_entry_target hi hserving), fun j hj => ?_, fun k hki hk => ?_, ?_⟩
  · rw [hentry, State.accepted_entry_other (by rintro rfl; exact hserving hj), State.endServing_entry _ hj]
  · rw [hentry, State.accepted_entry_other hki, State.endServing_entry_other _ hk]
  rw [State.acceptRoam_eq count hf]
  simp only [State.afterAccept_frame, hbeacon, hranking, hroam, htxinh, hloss, hhost, hrecall, true_and]
  refine ⟨?_, fun hc => ?_, fun hc hnil => ?_, fun hc hne => ?_⟩
  · rw [hdelivery, hgroups]
    exact congrArg (fun l => { s.groups with groups := l }) (mapIdx_deliveryUnder_map _ _)
  · obtain ⟨hstate, hreserved, hout, hparams, hposition, hstands⟩ := (s.accepted i).afterAccept_continuing hc
    exact ⟨hstate, hreserved, hout, by rw [hparams, haccess], by rw [hposition, haccess], by rw [hstands, hfront]⟩
  · obtain ⟨hstate, hout, hstands⟩ := (s.accepted i).accessIdle_effect
    rw [State.afterAccept, if_pos hc, State.affiliateOrIdle_of_unsent hunsent, if_pos (by simp [hgroups, hnil])]
    exact ⟨hstate, hout, by rw [hstands, hfront]⟩
  · rw [State.afterAccept, if_pos hc, State.affiliateOrIdle_of_unsent hunsent, if_neg (by simp [hgroups, hne])]
    obtain ⟨hstate, hattempts, hgen, -⟩ := State.beginExchange_sendIfDue (s.accepted i).access.sitePosition hunsent
    exact ⟨hstate, hattempts, haccess ▸ hgen⟩

end Sys2Proof.Proofs
end

section
/-! SUPPORT. The Ranking Unit's handling of a taken record (R58, R59, R60, R61, R66, R71, R73). -/

namespace Sys2Proof.Machine

/-! ## Updates that keep an entry's site -/

/-- The entry holds the same site, and serves as before. -/
structure Entry.SameSite (e e' : Entry) : Prop where
  occupied : e'.occupied = e.occupied
  serving : (e'.status == .serving) = (e.status == .serving)
  code : e'.code = e.code
  channel : e'.channel = e.channel
  colour : e'.colour = e.colour

/-- R19: a heard notice keeps the site. -/
theorem Entry.sameSite_heardNow (e : Entry) : e.SameSite e.heardNow := by
  obtain ⟨status⟩ := e
  cases status <;> exact ⟨rfl, rfl, rfl, rfl, rfl⟩

/-- A search of a list does not see an element replaced by one that it judges alike. -/
theorem findIdx?_set_of_eq {α : Type} (P : α → Bool) {l : List α} {i : Nat} {x : α} (hi : i < l.length)
    (h : P x = P l[i]) : (l.set i x).findIdx? P = l.findIdx? P := by
  have hmap (m : List α) : m.findIdx? P = (m.map P).findIdx? id := by simp [List.findIdx?_map]
  have hset : (l.set i x).map P = l.map P := by
    rw [List.map_set, h, ← List.getElem_map P (h := by simpa using hi), List.set_getElem_self]
  rw [hmap, hmap, hset]

/-- The matches of the table (R5, R17) do not see an entry that keeps its site. -/
theorem State.matches_setEntry_of_sameSite {s : State} {i : Nat} {e : Entry} (hi : i < s.table.entries.length)
    (h : (s.entry i).SameSite e) :
    (∀ p, (s.setEntry i e).findPair p = s.findPair p) ∧ (∀ c, (s.setEntry i e).findCode c = s.findCode c)
      ∧ (s.setEntry i e).serving = s.serving := by
  rw [State.entry_eq_getElem hi] at h
  refine ⟨fun p => findIdx?_set_of_eq _ hi ?_, fun c => findIdx?_set_of_eq _ hi ?_, findIdx?_set_of_eq _ hi h.serving⟩
  · simp [Entry.pair, h.occupied, h.channel, h.colour]
  · simp [h.occupied, h.code]

/-- An entry that keeps its site keeps its channel and colour in the table. -/
theorem State.entry_setEntry_of_sameSite {s : State} {i : Nat} {e : Entry} (hi : i < s.table.entries.length)
    (h : (s.entry i).SameSite e) (k : Nat) : (s.entry k).SameSite ((s.setEntry i e).entry k) := by
  by_cases hk : k = i
  · subst hk
    rwa [State.entry_setEntry_same e hi]
  · rw [State.entry_setEntry_other s e hk]
    exact ⟨rfl, rfl, rfl, rfl, rfl⟩

/-! ## The heard notice -/

/-- R19: the heard entry stands in the table. -/
theorem State.heardEntry_lt_length {s : State} {r : Frame} {i : Nat} (h : s.heardEntry r = some i) :
    i < s.table.entries.length := by
  unfold State.heardEntry at h
  split at h
  · cases h
  · split at h
    · exact (State.findPair_eq_some h).1
    · cases h

/-- R19, R58: the heard entry in the terms of the statements. -/
theorem State.heardEntry_eq (s : State) (r : Frame) :
    s.heardEntry r =
      if r.settling = true then none
      else r.sync.bind fun colour => s.findPair { channel := r.channel, colour := colour } := by
  unfold State.heardEntry
  cases r.sync <;> rfl

/-- R19: what the heard notice leaves to be matched. -/
theorem State.heardNotice_matches (s : State) (r : Frame) :
    (∀ p, (s.heardNotice r).findPair p = s.findPair p) ∧ (∀ c, (s.heardNotice r).findCode c = s.findCode c)
      ∧ (s.heardNotice r).serving = s.serving ∧ ∀ k, (s.entry k).SameSite ((s.heardNotice r).entry k) := by
  unfold State.heardNotice
  cases h : s.heardEntry r with
  | none => exact ⟨fun _ => rfl, fun _ => rfl, rfl, fun _ => ⟨rfl, rfl, rfl, rfl, rfl⟩⟩
  | some i =>
    have hi := State.heardEntry_lt_length h
    obtain ⟨hp, hc, hs⟩ := State.matches_setEntry_of_sameSite hi (s.entry i).sameSite_heardNow
    exact ⟨hp, hc, hs, State.entry_setEntry_of_sameSite hi (s.entry i).sameSite_heardNow⟩

/-- R19: the heard notice does not change who is heard. -/
theorem State.heardNotice_heardEntry (s : State) (r : Frame) : (s.heardNotice r).heardEntry r = s.heardEntry r := by
  obtain ⟨hp, -⟩ := s.heardNotice_matches r
  simp only [State.heardEntry, hp]

/-- R60: the heard notice does not change whom the record is meant for. -/
theorem State.heardNotice_meantFor (s : State) (r : Frame) (role : Role) :
    (s.heardNotice r).meantFor r role = s.meantFor r role := by
  obtain ⟨-, hc, hs, he⟩ := s.heardNotice_matches r
  have hframe : (s.heardNotice r).roam = s.roam := by simp
  have hchannel (k : Nat) : ((s.heardNotice r).entry k).channel = (s.entry k).channel := (he k).channel
  simp only [State.meantFor, hframe, hc, hs, hchannel]

/-- R60: nor whom it did not hear. -/
theorem State.heardNotice_unheardEntry (s : State) (r : Frame) (role : Role) :
    (s.heardNotice r).unheardEntry r role = s.unheardEntry r role := by
  obtain ⟨-, -, -, he⟩ := s.heardNotice_matches r
  have hcolour (k : Nat) : ((s.heardNotice r).entry k).colour = (s.entry k).colour := (he k).colour
  simp only [State.unheardEntry, State.heardNotice_meantFor, hcolour]

/-! ## Samples -/

/-- R61: the sample of a record's level to the entry it hears, if any. -/
def State.creditHeard (s : State) (r : Frame) : State :=
  match s.heardEntry r with
  | some i => s.credit i r.level
  | none => s

/-- R60, R61: the sample of 0 to the entry a record was meant for and did not hear, if any. -/
def State.creditUnheard (s : State) (unheard : Option Nat) : State :=
  match unheard with
  | some i => s.credit i 0
  | none => s

/-- R59, R60, R61: the samples of a record: the heard entry's first. -/
theorem State.creditSamples_eq (s : State) (r : Frame) (role : Role) :
    s.creditSamples r role = (s.creditHeard r).creditUnheard (s.unheardEntry r role) := by
  unfold State.creditSamples State.creditHeard State.creditUnheard
  cases s.heardEntry r <;> cases s.unheardEntry r role <;> rfl

/-- R61: a sample in the terms of the statements. -/
theorem State.credit_eq (s : State) (i c : Nat) :
    s.credit i c =
      s.setTable
        (s.withEntry i
          { s.entry i with
            level :=
              filtered (s.par (if (s.entry i).status = .serving then .kServing else .kCandidate)) (s.entry i).samples
                (s.entry i).level c
            samples := min ((s.entry i).samples + 1) 255 }) := by
  rw [apply_ite s.par]
  rfl

/-- R19, R59, R61: the heard notice of a record and the sample of its level. -/
def State.sampledBy (s : State) (r : Frame) : State := (s.heardNotice r).creditHeard r

/-- R61: the heard entry's sample, in the terms of the statements. -/
theorem State.sampledBy_eq (s : State) (r : Frame) :
    s.sampledBy r =
      match s.heardEntry r with
      | some i => (s.heardNotice r).credit i r.level
      | none => s.heardNotice r := by
  rw [State.sampledBy, State.creditHeard, State.heardNotice_heardEntry]

/-- R19, R59, R61: the heard entry takes the notice and the sample. -/
theorem State.sampledBy_of_heard {s : State} {r : Frame} {i : Nat} (h : s.heardEntry r = some i) :
    s.sampledBy r =
      s.setEntry i
        ((s.entry i).heardNow.sampled
          (if (s.entry i).heardNow.status = .serving then s.par .kServing else s.par .kCandidate) r.level) := by
  have hnotice : s.heardNotice r = s.setEntry i (s.entry i).heardNow := by simp only [State.heardNotice, h]
  rw [State.sampledBy_eq, h, hnotice]
  simp only [State.credit, State.entry_setEntry_same _ (State.heardEntry_lt_length h), State.setEntry_setEntry]
  rfl

/-! ## The samples' consequences -/

/-- R66: the dwell update of the visited entry, if there is one. -/
def State.dwellAfter (s : State) (visited : Option Nat) (serving : Nat) : State × List Trigger :=
  match visited with
  | some i => s.dwellUpdate i serving
  | none => (s, [])

/-- R71: the weak update that follows. -/
def weakAfter (u : State × List Trigger) (serving : Nat) : State × List Trigger :=
  ((u.1.weakUpdate serving).1, u.2 ++ (u.1.weakUpdate serving).2)

/-- R66: the heard notice does not change whose dwell count the record updates. -/
theorem State.heardNotice_visited (s : State) (r : Frame) (role : Role) :
    (s.heardNotice r).visited r role = s.visited r role := by
  obtain ⟨-, -, -, he⟩ := s.heardNotice_matches r
  have hstatus (k : Nat) : (((s.heardNotice r).entry k).status != .serving) = ((s.entry k).status != .serving) :=
    congrArg not (he k).serving
  unfold State.visited
  cases role <;> simp only [State.heardNotice_meantFor, hstatus]

/-- R58: a record without samples leaves its heard notice alone. -/
theorem State.rankRecord_without_samples {s : State} {r : Frame} {role : Role} (h : givesSamples r role = false) :
    s.rankRecord r role false = (s.heardNotice r, []) := by
  simp [State.rankRecord, h]

/-- R58: a record that gives samples is handled on the state its heard notice leaves. -/
theorem State.rankRecord_with_samples {s : State} {r : Frame} {role : Role} (h : givesSamples r role = true) :
    s.rankRecord r role false = (s.heardNotice r).handleSamples r role := by
  simp [State.rankRecord, h]

/-- R60: outside CAMPED no record is meant for an entry. -/
theorem State.unheardEntry_of_not_camped {s : State} (r : Frame) (role : Role) (h : s.roam.engine ≠ .camped) :
    s.unheardEntry r role = none := by
  simp [State.unheardEntry, State.meantFor, h]

/-- R58, R61: outside CAMPED a record gives the heard entry's sample alone. -/
theorem State.rankRecord_of_not_camped {s : State} {r : Frame} {role : Role} (h : givesSamples r role = true)
    (hc : s.roam.engine ≠ .camped) : s.rankRecord r role false = (s.sampledBy r, []) := by
  have hc' : (s.heardNotice r).roam.engine ≠ .camped := by simpa using hc
  have hsamples : (s.heardNotice r).creditSamples r role = s.sampledBy r := by
    rw [State.creditSamples_eq, State.unheardEntry_of_not_camped r role hc']
    rfl
  rw [State.rankRecord_with_samples h, State.handleSamples, hsamples]
  cases (s.heardNotice r).serving with
  | none => rfl
  | some v => exact if_neg hc'

/-- R58, R66, R71: the samples and their consequences in CAMPED. -/
theorem State.handleSamples_of_camped {s : State} (r : Frame) (role : Role) {v : Nat} (hc : s.roam.engine = .camped)
    (hs : s.serving = some v) :
    s.handleSamples r role =
      if s.servingSampled r role v = true then
        weakAfter ((s.creditSamples r role).dwellAfter (s.visited r role) v) v
      else (s.creditSamples r role).dwellAfter (s.visited r role) v := by
  simp only [State.handleSamples, hs, if_pos hc, State.dwellAfter, weakAfter]
  cases s.visited r role <;> cases s.servingSampled r role v <;> simp

/-- R58, R66, R71: in CAMPED the samples are followed by the dwell update and the weak update. -/
theorem State.rankRecord_of_camped {s : State} {r : Frame} {role : Role} {v : Nat} (h : givesSamples r role = true)
    (hc : s.roam.engine = .camped) (hs : s.serving = some v) :
    s.rankRecord r role false =
      if s.heardEntry r = some v ∨ s.unheardEntry r role = some v then
        weakAfter (((s.sampledBy r).creditUnheard (s.unheardEntry r role)).dwellAfter (s.visited r role) v) v
      else ((s.sampledBy r).creditUnheard (s.unheardEntry r role)).dwellAfter (s.visited r role) v := by
  obtain ⟨-, -, hserving, -⟩ := s.heardNotice_matches r
  have hc' : (s.heardNotice r).roam.engine = .camped := by simpa using hc
  have hsampled : (s.heardNotice r).servingSampled r role v = true ↔
      s.heardEntry r = some v ∨ s.unheardEntry r role = some v := by
    simp [State.servingSampled, State.heardNotice_heardEntry, State.heardNotice_unheardEntry]
  have hsamples : (s.heardNotice r).creditSamples r role = (s.sampledBy r).creditUnheard (s.unheardEntry r role) := by
    rw [State.creditSamples_eq, State.heardNotice_unheardEntry]
    rfl
  rw [State.rankRecord_with_samples h, State.handleSamples_of_camped r role hc' (hserving.trans hs), hsamples,
    State.heardNotice_visited]
  exact if_congr hsampled rfl rfl

/-! ## Whom a record is meant for in CAMPED (R60) -/

/-- R60: a plain record of the serving channel is meant for the SERVING entry. -/
theorem State.unheardEntry_plain {s : State} {r : Frame} {v : Nat} (hc : s.roam.engine = .camped)
    (hs : s.serving = some v) :
    s.unheardEntry r .plain =
      if r.channel = (s.entry v).channel ∧ r.sync ≠ some (s.entry v).colour then some v else none := by
  by_cases hch : r.channel = (s.entry v).channel
  · by_cases hsync : r.sync = some (s.entry v).colour <;>
      simp [State.unheardEntry, State.meantFor, hc, hs, Option.filter_some, hch, hsync]
  · simp [State.unheardEntry, State.meantFor, hc, hs, Option.filter_some, hch, Ne.symm hch]

/-- R60, R76: a measure record whose visit has no object there is meant for none. -/
theorem State.meantFor_measure_of_gone {s : State} {r : Frame} {o : Visit}
    (h : o.objectGone = true ∨ s.findCode o.code = none
      ∨ ∃ i, s.findCode o.code = some i ∧ (s.entry i).channel ≠ r.channel) :
    s.meantFor r (.measure o) = none := by
  rcases h with hg | hf | ⟨i, hf, hch⟩
  · exact State.meantFor_measure_none hg
  · simp [State.meantFor, hf]
  · simp [State.meantFor, hf, hch]

/-- R60: a measure record on its object's channel is meant for it. -/
theorem State.meantFor_measure {s : State} {r : Frame} {o : Visit} {i : Nat} (hc : s.roam.engine = .camped)
    (hg : o.objectGone = false) (hf : s.findCode o.code = some i) (hch : (s.entry i).channel = r.channel) :
    s.meantFor r (.measure o) = some i := by
  simp [State.meantFor, hc, hg, hf, Option.filter_some, hch]

/-! ## The Ranking Unit by the role of a record -/

/-- R58: which records give samples. -/
theorem givesSamples_eq_true {r : Frame} {role : Role} (h : r.settling = false) (hrole : role ≠ .settle) :
    givesSamples r role = true := by
  simp [givesSamples, h, hrole]

/-- R19, R58: a settling record gives no heard notice. -/
theorem State.heardNotice_of_settling {s : State} {r : Frame} (h : r.settling = true) : s.heardNotice r = s := by
  simp [State.heardNotice, State.heardEntry, h]

/-- R60, R66, R71: a plain record in CAMPED. -/
theorem State.rankRecord_plain {s : State} {r : Frame} {v : Nat} (h : r.settling = false) (hc : s.roam.engine = .camped)
    (hs : s.serving = some v) :
    s.rankRecord r .plain false =
      if r.channel = (s.entry v).channel ∧ r.sync ≠ some (s.entry v).colour then
        weakAfter ((s.sampledBy r).credit v 0, []) v
      else if s.heardEntry r = some v then weakAfter (s.sampledBy r, []) v
      else (s.sampledBy r, []) := by
  have hvisited : s.visited r .plain = none := rfl
  rw [State.rankRecord_of_camped (givesSamples_eq_true h (by decide)) hc hs, State.unheardEntry_plain hc hs, hvisited]
  by_cases hmeant : r.channel = (s.entry v).channel ∧ r.sync ≠ some (s.entry v).colour
  · rw [if_pos hmeant, if_pos (.inr rfl), if_pos hmeant]
    rfl
  · rw [if_neg hmeant, if_neg hmeant]
    simp only [reduceCtorEq, or_false]
    rfl

/-- R60, R76: a measure record in CAMPED whose visit has no object on its channel. -/
theorem State.rankRecord_measure_of_gone {s : State} {r : Frame} {o : Visit} {v : Nat} (h : r.settling = false)
    (hc : s.roam.engine = .camped) (hs : s.serving = some v)
    (hgone : o.objectGone = true ∨ s.findCode o.code = none
      ∨ ∃ i, s.findCode o.code = some i ∧ (s.entry i).channel ≠ r.channel) :
    s.rankRecord r (.measure o) false =
      if s.heardEntry r = some v then weakAfter (s.sampledBy r, []) v else (s.sampledBy r, []) := by
  have hmeant := State.meantFor_measure_of_gone hgone
  have hunheard : s.unheardEntry r (.measure o) = none := by rw [State.unheardEntry, hmeant]; rfl
  have hvisited : s.visited r (.measure o) = none := by simp only [State.visited, hmeant]; rfl
  rw [State.rankRecord_of_camped (givesSamples_eq_true h (by simp)) hc hs, hunheard, hvisited]
  simp only [reduceCtorEq, or_false]
  rfl

/-- R60, R66, R71: a measure record in CAMPED of a visit whose object is on its channel. -/
theorem State.rankRecord_measure {s : State} {r : Frame} {o : Visit} {i v : Nat} (h : r.settling = false)
    (hc : s.roam.engine = .camped) (hs : s.serving = some v) (hg : o.objectGone = false)
    (hf : s.findCode o.code = some i) (hch : (s.entry i).channel = r.channel) (hst : (s.entry i).status ≠ .serving) :
    let visited :=
      (if r.sync = some (s.entry i).colour then s.sampledBy r else (s.sampledBy r).credit i 0).dwellUpdate i v
    s.rankRecord r (.measure o) false = if s.heardEntry r = some v then weakAfter visited v else visited := by
  have hmeant := State.meantFor_measure hc hg hf hch
  have hunheard : s.unheardEntry r (.measure o) = if r.sync = some (s.entry i).colour then none else some i := by
    by_cases hsync : r.sync = some (s.entry i).colour <;> simp [State.unheardEntry, hmeant, Option.filter_some, hsync]
  have hvisited : s.visited r (.measure o) = some i := by simp [State.visited, hmeant, Option.filter_some, hst]
  have hne : i ≠ v := by
    rintro rfl
    exact hst (State.serving_eq_some hs).2
  rw [State.rankRecord_of_camped (givesSamples_eq_true h (by simp)) hc hs, hunheard, hvisited]
  by_cases hsync : r.sync = some (s.entry i).colour
  · simp only [if_pos hsync, reduceCtorEq, or_false]
    rfl
  · simp only [if_neg hsync, Option.some.injEq, hne, or_false]
    rfl

/-- R73: at a multiframe start in CAMPED the report counter is counted behind the record's samples. -/
theorem State.rankRecord_multiframe (s : State) (r : Frame) (role : Role) :
    s.rankRecord r role true =
      if s.roam.engine = .camped then ((s.rankRecord r role false).1.reportTick, (s.rankRecord r role false).2)
      else s.rankRecord r role false := by
  have hroam : (s.rankRecord r role false).1.roam = s.roam := by simp
  rw [← hroam]
  simp [State.rankRecord]

end Sys2Proof.Machine
end

section
/-! SUPPORT. The composition of a taken record (R30, R31, R32, R34, R37), with what the rules leave open (log 6, 7, 8). -/

namespace Sys2Proof.Machine

/-! ## The Frame Intake's own handling -/

/-- R30, R31, R32: the record is taken and the frame counter moves. -/
def State.frameTaken (s : State) (r : Frame) (rest : List Frame) : State :=
  s.setIntake
    { s.intake with
      queue := rest ++ s.intake.held.toList, held := none
      counter := if s.servingSync r then r.position else (s.intake.counter + 1) % 16
      timing := if s.servingSync r then .tracking else s.intake.timing
      slips :=
        if s.servingSync r = true ∧ s.intake.timing = .tracking ∧ r.position ≠ (s.intake.counter + 1) % 16 then
          min (s.intake.slips + 1) 65535
        else s.intake.slips }

/-- R30, R31, R32: the model's two steps of it. -/
theorem State.advanceCounter_popFrame (s : State) (r : Frame) (rest : List Frame) :
    (s.popFrame rest).advanceCounter r = s.frameTaken r rest := by
  have hsync : (s.popFrame rest).servingSync r = s.servingSync r := rfl
  have hintake : (s.popFrame rest).intake = { s.intake with queue := rest ++ s.intake.held.toList, held := none } := rfl
  unfold State.advanceCounter State.frameTaken
  simp only [hsync, hintake]
  cases s.servingSync r with
  | false => simp; rfl
  | true =>
    cases ht : s.intake.timing with
    | holdover => simp; rfl
    | tracking => by_cases hp : r.position = (s.intake.counter + 1) % 16 <;> simp [hp, sat16] <;> rfl

/-- R77, R87: the naming of a record, in the terms of the statements. -/
theorem State.nameRecord_eq (s : State) {counter : Nat} (h : s.intake.counter = counter) :
    let before := if counter = 0 then [] else s.scan.decided
    s.nameRecord =
      s.setScan
        { s.scan with
          decided := if (counter + 1) % 16 ∈ before then before else before ++ [(counter + 1) % 16]
          visit := s.scan.visit.map fun v => { v with stage := v.stage.next }
          hunt := s.scan.hunt.map fun h => { h with stage := h.stage.next } } := by
  simp only [State.nameRecord, decidedWith, startAfter, h, List.contains_iff_mem]

/-- R34: the loss counter leaves the frame counter. -/
theorem State.lossUpdate_counter (s : State) (r : Frame) : (s.lossUpdate r).1.intake.counter = s.intake.counter := by
  unfold State.lossUpdate
  repeat' split
  all_goals simp

/-- RECORD TAKEN with a record waiting. -/
theorem exec_recordTaken {s : State} {r : Frame} {rest : List Frame} (hs : s.pins.supply = .running)
    (hq : s.intake.queue = r :: rest) : exec .recordTaken s = .next (s.handleRecord r rest) := by
  refine congrArg Host.Outcome.next ((whileRunning_of_running hs).trans ?_)
  rw [State.takeRecord, hq]

/-! ## The blocks after the triggers -/

/-- The blocks' handling of a record once the Ranking Unit's triggers have been acted on or put off: `late` are those put off. -/
def State.afterRanking (u base : State) (r : Frame) (multiframe first : Bool) (late : List Trigger) (place : Nat) : State :=
  let beacon := (u.listenIfFound r).beaconRecord r
  let filter := beacon.1.filterWithIdentity r beacon.2.identityLost first late place
  let s4 := filter.1.huntWork base.roam.huntRuns multiframe
  let s5 := s4.accessRecord r base.roam.engine
    { echo := filter.2.echo, grant := filter.2.grant, ack := filter.2.ack, beacon := beacon.2.accepted
      sync := s4.accessSync r, multiframe := multiframe }
  (s5.scanRecord base.roam.engine base.scan.listen.isSome multiframe).nextFree

/-- R58, R60, R95: the orders of the Ranking Unit, its triggers and a loss of the loss counter (log 6, 8, 28). -/
theorem State.blocksInOrder_cases (s base : State) (r : Frame) (role : Role) (multiframe lossRaised late first : Bool)
    (place order : Nat) :
    let ranked (u : State) := u.rankRecord r role multiframe
    ∃ (u : State) (put : List Trigger),
      (lossRaised = true →
        put = []
          ∧ (u = (ranked (s.takeLost .loss)).1.takeTriggers (ranked (s.takeLost .loss)).2
            ∨ u = ((ranked s).1.takeLost .loss).takeTriggers (ranked s).2
            ∨ u = ((ranked s).1.takeTriggers (ranked s).2).takeLost .loss))
        ∧ (lossRaised = false →
            (u = (ranked s).1.takeTriggers (ranked s).2 ∧ put = []) ∨ (u = (ranked s).1 ∧ put = (ranked s).2))
        ∧ s.blocksInOrder base r role multiframe lossRaised late first place order =
            u.afterRanking base r multiframe first put place := by
  intro ranked
  cases lossRaised with
  | true =>
    refine ⟨s.rankWithLoss r role multiframe order, [], fun _ => ⟨rfl, ?_⟩, by simp, ?_⟩
    · exact s.rankWithLoss_cases r role multiframe order
    · cases late <;> rfl
  | false =>
    cases late with
    | true => exact ⟨(ranked s).1, (ranked s).2, by simp, fun _ => .inr ⟨rfl, rfl⟩, rfl⟩
    | false => exact ⟨(ranked s).1.takeTriggers (ranked s).2, [], by simp, fun _ => .inl ⟨rfl, rfl⟩, rfl⟩

/-- R95, R129: apart from an IDENTITY loss the late triggers stand behind the filter. -/
theorem State.filterWithIdentity_of_not_lost (s : State) (r : Frame) (first : Bool) (late : List Trigger) (place : Nat) :
    s.filterWithIdentity r false first late place = ((s.filterRecord r).1.takeTriggers late, (s.filterRecord r).2) := rfl

/-- R105: the hunt timer runs in HUNT, and in a registration entered from HUNT. -/
theorem RoamEngine.huntRuns_eq (e : RoamEngine) :
    e.huntRuns = decide (e.engine = .hunt ∨ (e.engine = .registering ∧ e.enteredFrom = .hunt)) := by
  rw [Bool.eq_iff_iff]
  simp [RoamEngine.huntRuns]

/-- R30, R31, R34, R77, R162: a taken record up to the Ranking Unit's handling. -/
def State.recordNamed (s : State) (r : Frame) (rest : List Frame) : State × Bool :=
  let taken := s.frameTaken r rest
  let active := if taken.atMultiframe then taken.activate else taken
  let loss := active.lossUpdate r
  ((if taken.atMultiframe then loss.1.multiframeWork else loss.1).nameRecord, loss.2)

/-- R30, R31, R34, R37: a taken record: its naming, then the blocks in their order. -/
theorem State.handleRecord_eq (s : State) (r : Frame) (rest : List Frame) :
    s.handleRecord r rest =
      (s.recordNamed r rest).1.blocksHandle s r s.recordRole (s.frameTaken r rest).atMultiframe (s.recordNamed r rest).2 := by
  rw [State.handleRecord, State.advanceCounter_popFrame]
  rfl

/-! ## A record in STOPPED -/

/-- R32: without a SERVING entry no record is a serving sync record. -/
theorem State.servingSync_of_none {s : State} (r : Frame) (h : s.serving = none) : s.servingSync r = false := by
  simp [State.servingSync, h]

/-- R34: outside CAMPED the loss counter stands. -/
theorem State.lossUpdate_of_not_camped {s : State} (r : Frame) (h : s.roam.engine ≠ .camped) :
    s.lossUpdate r = (s, false) := by
  simp [State.lossUpdate, h]

/-- R43: a record without frame check PASS brings no fragment. -/
theorem State.beaconRecord_of_check {r : Frame} (s : State) (h : r.check ≠ .pass) :
    s.beaconRecord r = (s, BeaconReport.nothing) := by
  unfold State.beaconRecord
  split
  · rw [if_pos (.inr h)]
  · rfl

/-- R129: nor a control block. -/
theorem State.filterRecord_of_check {r : Frame} (s : State) (h : r.check ≠ .pass) :
    s.filterRecord r = (s, FilterOutput.nothing) := by
  have hread : s.readRecord r = none := by
    unfold State.readRecord
    split
    · rw [if_pos (.inr h)]
    · rfl
  simp only [State.filterRecord, hread]

/-- In STOPPED a record without frame check PASS leaves every block after the Ranking Unit as it was. -/
theorem State.afterRanking_of_stopped {u base : State} {r : Frame} (first : Bool) (place : Nat)
    (hu : u.roam.engine = .stopped) (hbase : base.roam.engine = .stopped) (hh : u.scan.hunt = none) (hc : r.check ≠ .pass) :
    u.afterRanking base r false first [] place = u.nextFree := by
  have hlisten : u.listenIfFound r = u := by simp only [State.listenIfFound, hh]
  have hwork (b : Bool) : u.huntWork b false = u := by simp [State.huntWork]
  have hfilter : u.filterWithIdentity r BeaconReport.nothing.identityLost first [] place = (u, FilterOutput.nothing) := by
    rw [BeaconReport.nothing, State.filterWithIdentity_of_not_lost, State.filterRecord_of_check u hc]
    rfl
  have haccess (e : Engine) (x : AccessInput) : u.accessRecord r e x = u := by simp only [State.accessRecord, hu]
  simp only [State.afterRanking, hlisten, State.beaconRecord_of_check u hc, hfilter, hwork, haccess, State.scanRecord, hbase]

/-- In STOPPED with nothing in progress the handling of a record is the Ranking Unit's. -/
theorem State.blocksHandle_of_stopped {s base : State} {r : Frame} {role : Role} (h : givesSamples r role = true)
    (hs : s.roam.engine = .stopped) (hbase : base.roam.engine = .stopped) (hh : s.scan.hunt = none) (hc : r.check ≠ .pass) :
    s.blocksHandle base r role false false = (s.sampledBy r).nextFree := by
  have hranked : s.rankRecord r role false = (s.sampledBy r, []) := State.rankRecord_of_not_camped h (by simp [hs])
  have hframe : (s.sampledBy r).roam = s.roam ∧ (s.sampledBy r).scan = s.scan := by
    rw [State.sampledBy_eq]
    split <;> simp
  obtain ⟨u, late, -, hnot, hblocks⟩ := s.blocksInOrder_cases base r role false false (Config.triggersLate s.free)
    (Config.identityFirst s.free) (Config.lateTriggers s.free) (Config.lossOrder s.free)
  have hu : u = s.sampledBy r ∧ late = [] := by
    simpa [hranked, State.takeTriggers] using hnot
  obtain ⟨rfl, rfl⟩ := hu
  rw [State.blocksHandle, hblocks]
  exact State.afterRanking_of_stopped _ _ (by rw [hframe.1, hs]) hbase (by rw [hframe.2, hh]) hc

/-- R30, R31, R77: the counter and the decision records as a record without serving sync leaves them. -/
def State.counted (s : State) (rest : List Frame) : State :=
  let counter := (s.intake.counter + 1) % 16
  { s with
    intake := { s.intake with queue := rest ++ s.intake.held.toList, held := none, counter := counter }
    scan :=
      { s.scan with
        decided :=
          if (counter + 1) % 16 ∈ s.scan.decided then s.scan.decided else s.scan.decided ++ [(counter + 1) % 16] } }

/-- R30, R31, R77: a record taken in STOPPED at no multiframe start, with nothing in progress, up to the Ranking Unit. -/
theorem State.recordNamed_of_stopped {s : State} {r : Frame} (rest : List Frame) (he : s.roam.engine = .stopped)
    (hs : s.serving = none) (hv : s.scan.visit = none) (hh : s.scan.hunt = none)
    (hm : (s.intake.counter + 1) % 16 ≠ 0) :
    (s.frameTaken r rest).atMultiframe = false ∧ s.recordNamed r rest = (s.counted rest, false) := by
  let counter := (s.intake.counter + 1) % 16
  have htaken : s.frameTaken r rest =
      s.setIntake { s.intake with queue := rest ++ s.intake.held.toList, held := none, counter := counter } := by
    simp [State.frameTaken, State.servingSync_of_none r hs, counter]
  have hmulti : (s.frameTaken r rest).atMultiframe = false := by simpa [htaken, State.atMultiframe, counter] using hm
  have hloss : (s.frameTaken r rest).lossUpdate r = (s.frameTaken r rest, false) :=
    State.lossUpdate_of_not_camped r (by simp [htaken, he])
  have hcounter : (s.frameTaken r rest).intake.counter = counter := by rw [htaken]; rfl
  refine ⟨hmulti, ?_⟩
  simp only [State.recordNamed, hmulti, hloss, Bool.false_eq_true, if_false]
  rw [State.nameRecord_eq _ hcounter, htaken]
  have hc : counter ≠ 0 := hm
  simp only [State.setIntake_scan, hv, hh, if_neg hc, Option.map_none]
  have hscan (d : List Nat) : { s.scan with decided := d, visit := none, hunt := none } = { s.scan with decided := d } := by
    rw [← hv, ← hh]
  rw [hscan]
  rfl

end Sys2Proof.Machine
end

section
/-! PROOFS. A taken record. -/

namespace Sys2Proof.Proofs

open Sys2Proof Sys2Proof.Machine

/-- Settles O15: the record in STOPPED, the roles, the Ranking Unit in every state, and the composition of the blocks. -/
theorem heardRecordMovesItsEntry : Obligations.HeardRecordMovesItsEntry := by
  refine ⟨?_, ?_, ?_, ?_⟩
  · intro s r rest colour i hsup he hs hv hh ha hq hset hcheck hsync hf hm counter
    have hnone : s.recordRole = .plain := by simp [State.recordRole, hv, hh, ha]
    obtain ⟨hmulti, hnamed⟩ := State.recordNamed_of_stopped rest he hs hv hh hm
    rw [exec_recordTaken hsup hq, State.handleRecord_eq, hmulti, hnamed, hnone]
    have hheard : s.heardEntry r = some i := by simp [State.heardEntry, hset, hsync, hf]
    rw [State.blocksHandle_of_stopped (s := s.counted rest) (givesSamples_eq_true hset (by decide)) he he hh (by simp [hcheck]),
      State.sampledBy_of_heard (s := s.counted rest) hheard]
    have hoccupied : (s.entry i).status ≠ .free := (State.findPair_eq_some hf).2.1
    have hidle : (s.entry i).status ≠ .serving := State.status_ne_serving hs i
    have hheardNow : (s.entry i).heardNow = { s.entry i with heardAge := 0, status := .heard } := by
      cases hst : (s.entry i).status <;> simp_all [Entry.heardNow]
    have hentry : (s.counted rest).entry i = s.entry i := rfl
    rw [hentry, hheardNow]
    rfl
  · intro s
    refine ⟨fun v hv => ?_, fun hv h hh => ?_, fun hv hh => ?_⟩
    · cases hstage : v.stage <;> simp only [State.recordRole, hv, hstage]
    · simp only [State.recordRole, hv, hh]
    · simp only [State.recordRole, hv, hh]
  · intro s r role heard noticed credited sampled
    have hheard : heard = s.heardEntry r := (s.heardEntry_eq r).symm
    have hcredited : credited = State.credit := funext fun u => funext fun i => funext fun c => (u.credit_eq i c).symm
    have hnoticed : noticed = s.heardNotice r := by
      simp only [noticed, hheard, State.heardNotice]
      cases s.heardEntry r <;> rfl
    have hsampled : sampled = s.sampledBy r := by
      cases h : s.heardEntry r <;> simp only [sampled, hheard, hcredited, hnoticed, State.sampledBy_eq, h]
    clear_value sampled noticed credited heard
    subst hheard hcredited hnoticed hsampled
    refine ⟨fun h => ?_, fun h => ?_, fun hset hrole hc => ?_, fun hset hc v hs => ?_, ?_⟩
    · have hnone : givesSamples r role = false := by simp [givesSamples, h]
      rw [State.rankRecord_without_samples hnone, State.heardNotice_of_settling h]
    · exact State.rankRecord_without_samples (by simp [givesSamples, h])
    · exact State.rankRecord_of_not_camped (givesSamples_eq_true hset hrole) hc
    · refine ⟨fun hrole => ?_, fun o hrole => ⟨fun hgone => ?_, fun hg i hf hch hst => ?_⟩⟩
      · subst hrole
        exact State.rankRecord_plain hset hc hs
      · subst hrole
        exact State.rankRecord_measure_of_gone hset hc hs hgone
      · subst hrole
        exact State.rankRecord_measure hset hc hs hg hf hch hst
    · exact s.rankRecord_multiframe r role
  · intro s r rest hsup hq counter multiframe taken active lost aged before named ranked acted
    have hmulti : (s.frameTaken r rest).atMultiframe = multiframe := beq_eq_decide _ _
    have hcounter : aged.intake.counter = counter := by
      have hactive : active.intake.counter = counter := by
        simp only [active]
        split
        · simp [taken]
        · rfl
      simp only [aged]
      split
      · rw [(State.multiframeWork_frame _).1, State.lossUpdate_counter, hactive]
      · rw [State.lossUpdate_counter, hactive]
    have hnamed : s.recordNamed r rest = (named, lost) := by
      rw [State.recordNamed, hmulti]
      exact Prod.ext (State.nameRecord_eq aged hcounter) rfl
    obtain ⟨u, late, hlost, hnot, hblocks⟩ := named.blocksInOrder_cases s r s.recordRole multiframe lost
      (Config.triggersLate named.free) (Config.identityFirst named.free) (Config.lateTriggers named.free)
      (Config.lossOrder named.free)
    refine ⟨u, late, hlost, hnot, ?_⟩
    intro b
    let filter := b.1.filterWithIdentity r b.2.identityLost (Config.identityFirst named.free) late
      (Config.lateTriggers named.free)
    refine ⟨filter.1, filter.2, fun hid => ?_, fun hid => ?_, ?_⟩
    · simp only [filter, hid]
      exact b.1.filterWithIdentity_of_not_lost r (Config.identityFirst named.free) late (Config.lateTriggers named.free)
    · simp only [filter, hid]
      exact State.filterWithIdentity_cases ..
    · rw [exec_recordTaken hsup hq, State.handleRecord_eq, hnamed, hmulti]
      simp only [State.blocksHandle, hblocks, State.afterRanking, RoamEngine.huntRuns_eq]
      rfl

end Sys2Proof.Proofs
end

section
/-! SUPPORT. The bounds of the counters, the queues and the sizes (R1, R29, R38, R45, R56, R80, R82, R127, R135, R152, R157, R159,
R161, R163): what every operation keeps of them. -/

namespace Sys2Proof.Machine

/-! ## The relation -/

/-- R163: a 16-bit counter stands or rises, and stays within its 16 bits. -/
def Rises (m n : Nat) : Prop := m ≤ 65535 → m ≤ n ∧ n ≤ 65535

theorem Rises.refl (n : Nat) : Rises n n := fun h => ⟨le_refl n, h⟩

theorem Rises.trans {l m n : Nat} (h : Rises l m) (h' : Rises m n) : Rises l n := fun hl =>
  have hm := h hl
  have hn := h' hm.2
  ⟨hm.1.trans hn.1, hn.2⟩

/-- R163: list by list. -/
theorem forall₂_rises_trans {k l m : List Nat} (h : List.Forall₂ Rises k l) (h' : List.Forall₂ Rises l m) :
    List.Forall₂ Rises k m := by
  induction h generalizing m with
  | nil => exact h'
  | cons hx _ ih =>
    cases h' with
    | cons hy hrest => exact .cons (hx.trans hy) (ih hrest)

/-- R163: a saturating counter. -/
theorem Rises.sat16 (n : Nat) : Rises n (sat16 n) := fun h => by
  unfold Machine.sat16
  omega

/-- What an operation that queues no reply may do to the counters, the sizes and the queues between two states. -/
structure KeepsBounds (s t : State) : Prop where
  counters : List.Forall₂ Rises s.counters t.counters
  sizes : s.sizesSound → t.sizesSound
  frames : s.framesBounded → t.framesBounded
  commands : s.commandsBounded → t.commandsBounded
  events : eventsWaiting s.host.transmit ≤ 12 → eventsWaiting t.host.transmit ≤ 12
  replies : (t.host.transmit.filter HostFrame.isReply).Sublist (s.host.transmit.filter HostFrame.isReply)

namespace KeepsBounds

variable {b s : State}

theorem refl (s : State) : KeepsBounds s s :=
  ⟨List.forall₂_same.2 fun n _ => Rises.refl n, id, id, id, id, List.Sublist.refl _⟩

theorem trans {t : State} (h : KeepsBounds b s) (h' : KeepsBounds s t) : KeepsBounds b t where
  counters := forall₂_rises_trans h.counters h'.counters
  sizes := h'.sizes ∘ h.sizes
  frames := h'.frames ∘ h.frames
  commands := h'.commands ∘ h.commands
  events := h'.events ∘ h.events
  replies := h'.replies.trans h.replies

/-- An operation on two values, by the first. -/
theorem of_eq {α : Type} {p : State × α} {a : α} (h : KeepsBounds b p.1) (e : p = (s, a)) : KeepsBounds b s := by
  subst e
  exact h

/-- An operation that acts or not. -/
theorem ite {c : Prop} [Decidable c] {u v : State} (hu : KeepsBounds b u) (hv : KeepsBounds b v) :
    KeepsBounds b (if c then u else v) := by
  split
  · exact hu
  · exact hv

/-! ## The updates of one field -/

theorem setIntake_of_bounds (h : KeepsBounds b s) {x : FrameIntake}
    (frames : s.framesBounded → (s.setIntake x).framesBounded) (lost : Rises s.intake.lostFrames x.lostFrames)
    (slips : Rises s.intake.slips x.slips) (checks : Rises s.intake.checkErrors x.checkErrors) :
    KeepsBounds b (s.setIntake x) :=
  h.trans ⟨by simp [State.counters, Rises.refl, lost, slips, checks], id, frames, id, id, List.Sublist.refl _⟩

/-- An update that leaves the queue and the counters. -/
theorem setIntake (h : KeepsBounds b s) {x : FrameIntake}
    (hx : (x.queue, x.held, x.lostFrames, x.slips, x.checkErrors) =
      (s.intake.queue, s.intake.held, s.intake.lostFrames, s.intake.slips, s.intake.checkErrors)) :
    KeepsBounds b (s.setIntake x) := by
  simp only [Prod.mk.injEq] at hx
  obtain ⟨hqueue, hheld, hlost, hslips, hchecks⟩ := hx
  refine h.setIntake_of_bounds (fun hbound => ?_) (hlost ▸ .refl _) (hslips ▸ .refl _) (hchecks ▸ .refl _)
  simpa only [State.framesBounded, State.setIntake_intake, hqueue, hheld] using hbound

theorem setTable_of_bounds (h : KeepsBounds b s) {x : SiteTable} (entries : x.entries.length = s.table.entries.length)
    (conflicts : Rises s.table.conflicts x.conflicts) (skips : Rises s.table.skips x.skips) :
    KeepsBounds b (s.setTable x) :=
  h.trans
    ⟨by simp [State.counters, Rises.refl, conflicts, skips],
      fun ⟨htable, hrest⟩ => ⟨entries.trans htable, hrest⟩, id, id, id, List.Sublist.refl _⟩

/-- An update that leaves the number of entries and the counters. -/
theorem setTable (h : KeepsBounds b s) {x : SiteTable}
    (hx : (x.entries.length, x.conflicts, x.skips) = (s.table.entries.length, s.table.conflicts, s.table.skips)) :
    KeepsBounds b (s.setTable x) := by
  simp only [Prod.mk.injEq] at hx
  obtain ⟨hentries, hconflicts, hskips⟩ := hx
  exact h.setTable_of_bounds hentries (hconflicts ▸ .refl _) (hskips ▸ .refl _)

theorem setBeacon_of_bounds (h : KeepsBounds b s) {x : BeaconAssembler}
    (stores : s.beacon.servingStore.places.length = 16 → s.beacon.watchStore.places.length = 16 →
      x.servingStore.places.length = 16 ∧ x.watchStore.places.length = 16)
    (failures : Rises s.beacon.failures x.failures) : KeepsBounds b (s.setBeacon x) :=
  h.trans
    ⟨by simp [State.counters, Rises.refl, failures],
      fun ⟨htable, hserving, hwatch, hrest⟩ =>
        have hstores := stores hserving hwatch
        ⟨htable, hstores.1, hstores.2, hrest⟩,
      id, id, id, List.Sublist.refl _⟩

/-- An update that leaves the stores and the counter. -/
theorem setBeacon (h : KeepsBounds b s) {x : BeaconAssembler}
    (hx : (x.servingStore, x.watchStore, x.failures) =
      (s.beacon.servingStore, s.beacon.watchStore, s.beacon.failures)) : KeepsBounds b (s.setBeacon x) := by
  simp only [Prod.mk.injEq] at hx
  obtain ⟨hserving, hwatch, hfailures⟩ := hx
  exact h.setBeacon_of_bounds (fun h1 h2 => ⟨hserving ▸ h1, hwatch ▸ h2⟩) (hfailures ▸ .refl _)

theorem setRanking (h : KeepsBounds b s) {x : RankingUnit} : KeepsBounds b (s.setRanking x) := { h with }

theorem setScan_of_bounds (h : KeepsBounds b s) {x : ScanSequencer}
    (channels : s.scan.huntChannels.length ≤ 24 → x.huntChannels.length ≤ 24)
    (pointer : s.scan.pointer < 12 → x.pointer < 12) : KeepsBounds b (s.setScan x) :=
  h.trans
    ⟨by simp [State.counters, Rises.refl],
      fun ⟨htable, hserving, hwatch, hactive, hpending, hlist, hchannels, hgroups, hpointer⟩ =>
        ⟨htable, hserving, hwatch, hactive, hpending, hlist, channels hchannels, hgroups, pointer hpointer⟩,
      id, id, id, List.Sublist.refl _⟩

/-- An update that leaves the hunt channel list and the candidate pointer. -/
theorem setScan (h : KeepsBounds b s) {x : ScanSequencer}
    (hx : (x.huntChannels, x.pointer) = (s.scan.huntChannels, s.scan.pointer)) : KeepsBounds b (s.setScan x) := by
  obtain ⟨hchannels, hpointer⟩ := Prod.mk.inj hx
  exact h.setScan_of_bounds (fun hbound => hchannels ▸ hbound) (fun hbound => hpointer ▸ hbound)

theorem setRoam (h : KeepsBounds b s) {x : RoamEngine} : KeepsBounds b (s.setRoam x) := { h with }

theorem setAccess_of_bounds (h : KeepsBounds b s) {x : AccessUnit} (collisions : Rises s.access.collisions x.collisions)
    (missed : Rises s.access.missedSlots x.missedSlots) : KeepsBounds b (s.setAccess x) :=
  h.trans ⟨by simp [State.counters, Rises.refl, collisions, missed], id, id, id, id, List.Sublist.refl _⟩

/-- An update that leaves the counters. -/
theorem setAccess (h : KeepsBounds b s) {x : AccessUnit}
    (hx : (x.collisions, x.missedSlots) = (s.access.collisions, s.access.missedSlots)) :
    KeepsBounds b (s.setAccess x) := by
  obtain ⟨hcollisions, hmissed⟩ := Prod.mk.inj hx
  exact h.setAccess_of_bounds (hcollisions ▸ .refl _) (hmissed ▸ .refl _)

theorem setGroups (h : KeepsBounds b s) {x : GroupList}
    (groups : s.groups.groups.length ≤ 16 → x.groups.length ≤ 16) : KeepsBounds b (s.setGroups x) :=
  h.trans
    ⟨by simp [State.counters, Rises.refl],
      fun ⟨htable, hserving, hwatch, hactive, hpending, hlist, hchannels, hgroups, hpointer⟩ =>
        ⟨htable, hserving, hwatch, hactive, hpending, hlist, hchannels, groups hgroups, hpointer⟩,
      id, id, id, List.Sublist.refl _⟩

theorem setCall (h : KeepsBounds b s) {x : CallRecord} : KeepsBounds b (s.setCall x) := { h with }

theorem setRecallArea (h : KeepsBounds b s) {x : RecallArea} (list : x.list = s.recallArea.list) :
    KeepsBounds b (s.setRecallArea x) :=
  h.trans
    ⟨by simp [State.counters, Rises.refl],
      fun ⟨htable, hserving, hwatch, hactive, hpending, hlist, hrest⟩ =>
        ⟨htable, hserving, hwatch, hactive, hpending, by rw [← list] at hlist; exact hlist, hrest⟩,
      id, id, id, List.Sublist.refl _⟩

theorem setHost_of_bounds (h : KeepsBounds b s) {x : HostLink}
    (params : s.host.active.length = 27 → s.host.pendingParams.length = 27 →
      x.active.length = 27 ∧ x.pendingParams.length = 27)
    (commands : s.host.intake.length ≤ 4 → x.intake.length ≤ 4)
    (events : eventsWaiting s.host.transmit ≤ 12 → eventsWaiting x.transmit ≤ 12)
    (replies : (x.transmit.filter HostFrame.isReply).Sublist (s.host.transmit.filter HostFrame.isReply))
    (checks : Rises s.host.checkErrors x.checkErrors) (dropped : Rises s.host.droppedEvents x.droppedEvents) :
    KeepsBounds b (s.setHost x) :=
  h.trans
    ⟨by simp [State.counters, Rises.refl, checks, dropped],
      fun ⟨htable, hserving, hwatch, hactive, hpending, hrest⟩ =>
        have hparams := params hactive hpending
        ⟨htable, hserving, hwatch, hparams.1, hparams.2, hrest⟩,
      id, commands, events, replies⟩

/-- An update that leaves the transmit queue and the counters. -/
theorem setHost_of_transmit (h : KeepsBounds b s) {x : HostLink}
    (params : s.host.active.length = 27 → s.host.pendingParams.length = 27 →
      x.active.length = 27 ∧ x.pendingParams.length = 27)
    (commands : s.host.intake.length ≤ 4 → x.intake.length ≤ 4)
    (hx : (x.transmit, x.checkErrors, x.droppedEvents) =
      (s.host.transmit, s.host.checkErrors, s.host.droppedEvents)) : KeepsBounds b (s.setHost x) := by
  simp only [Prod.mk.injEq] at hx
  obtain ⟨htransmit, hchecks, hdropped⟩ := hx
  exact h.setHost_of_bounds params commands (htransmit ▸ id) (htransmit ▸ List.Sublist.refl _) (hchecks ▸ .refl _)
    (hdropped ▸ .refl _)

/-- An update that leaves the parameter sets, both queues and the counters. -/
theorem setHost (h : KeepsBounds b s) {x : HostLink}
    (hx : (x.active, x.pendingParams, x.intake, x.transmit, x.checkErrors, x.droppedEvents) =
      (s.host.active, s.host.pendingParams, s.host.intake, s.host.transmit, s.host.checkErrors, s.host.droppedEvents)) :
    KeepsBounds b (s.setHost x) := by
  simp only [Prod.mk.injEq] at hx
  obtain ⟨hactive, hpending, hintake, htransmit, hchecks, hdropped⟩ := hx
  exact h.setHost_of_transmit (fun h1 h2 => ⟨hactive ▸ h1, hpending ▸ h2⟩) (hintake ▸ id) (by rw [htransmit, hchecks, hdropped])

theorem setPins (h : KeepsBounds b s) {x : Pins} : KeepsBounds b (s.setPins x) := { h with }

theorem nextFree (h : KeepsBounds b s) : KeepsBounds b s.nextFree := { h with }

theorem issue (h : KeepsBounds b s) (r : FrontEndRecord) : KeepsBounds b (s.issue r) := { h with }

/-! ## The operations every block shares -/

/-- R159: an event queued leaves the replies, and is queued below the bound alone. -/
theorem event (h : KeepsBounds b s) (e : Event) : KeepsBounds b (s.event e) := by
  have hevent (tag : Byte) : HostFrame.isReply { kind := e.kind, tag := tag, body := e.body } = false := by
    cases e <;> rfl
  unfold State.event
  split
  · next hroom =>
    have hlt : eventsWaiting s.host.transmit < 12 := of_decide_eq_true hroom
    refine h.setHost_of_bounds (fun h1 h2 => ⟨h1, h2⟩) id (fun _ => ?_) ?_ (.refl _) (.refl _)
    · simpa [eventsWaiting, hevent] using hlt
    · simp [List.filter_append, hevent]
  · exact h.setHost_of_bounds (fun h1 h2 => ⟨h1, h2⟩) id id (List.Sublist.refl _) (.refl _) (.sat16 _)

theorem tune (h : KeepsBounds b s) (channel : Nat) : KeepsBounds b (s.tune channel) := h.issue _

theorem tuneServing (h : KeepsBounds b s) : KeepsBounds b s.tuneServing := by
  unfold State.tuneServing
  split
  · exact h.tune _
  · exact h

/-- R44: the Watch Store that is cleared has its 16 positions. -/
theorem setOwner (h : KeepsBounds b s) (owner : Option Pair) : KeepsBounds b (s.setOwner owner) :=
  h.ite (h.setBeacon_of_bounds (fun h1 _ => ⟨h1, by rfl⟩) (by exact .refl _))

theorem setEntry (h : KeepsBounds b s) (i : Nat) (e : Entry) : KeepsBounds b (s.setEntry i e) := h.setTable (by simp)

theorem replaceEntry (h : KeepsBounds b s) (i : Nat) (e : Entry) : KeepsBounds b (s.replaceEntry i e) :=
  (h.setScan (by rfl)).setEntry i e

theorem mapEntries (h : KeepsBounds b s) (f : Entry → Entry) : KeepsBounds b (s.mapEntries f) := h.setTable (by simp)

theorem clearWatch (h : KeepsBounds b s) : KeepsBounds b s.clearWatch :=
  (h.setRanking.setOwner none).ite h.setRanking

theorem dwellCleared (h : KeepsBounds b s) (i : Nat) : KeepsBounds b (s.dwellCleared i) :=
  h.clearWatch.ite h

theorem fallToListed (h : KeepsBounds b s) (i : Nat) : KeepsBounds b (s.fallToListed i) :=
  (h.setEntry i _).dwellCleared i

theorem countConflict (h : KeepsBounds b s) : KeepsBounds b s.countConflict := 
  h.setTable_of_bounds rfl (.sat16 _) (.refl _)

theorem countSkip (h : KeepsBounds b s) : KeepsBounds b s.countSkip := 
  h.setTable_of_bounds rfl (.refl _) (.sat16 _)

/-! ## Groups -/

/-- A group list of the same length. -/
theorem setGroupList (h : KeepsBounds b s) {groups : List Group}
    (hlength : groups.length = s.groups.groups.length) : KeepsBounds b (s.setGroupList groups) :=
  h.setGroups fun hbound => by rw [hlength]; exact hbound

theorem allUnsent (h : KeepsBounds b s) : KeepsBounds b s.allUnsent := h.setGroupList (by simp)

theorem returnSent (h : KeepsBounds b s) : KeepsBounds b s.returnSent := h.setGroupList (by simp)

theorem returnCarried (h : KeepsBounds b s) (carried : List Nat) : KeepsBounds b (s.returnCarried carried) := h.setGroupList (by simp)

theorem markSent (h : KeepsBounds b s) (carried : List Nat) : KeepsBounds b (s.markSent carried) := h.setGroupList (by simp)

end KeepsBounds

/-- R138: an acknowledgement leaves the length of the group list. -/
theorem acknowledge_length (m : Nat) (groups : List Group) : (acknowledge m groups).length = groups.length := by
  fun_induction acknowledge m groups <;> simp_all

namespace KeepsBounds

variable {b s : State}

theorem affilAck (h : KeepsBounds b s) (count : Nat) : KeepsBounds b (s.affilAck count) :=
  (h.setGroupList (acknowledge_length _ _)).event _

/-! ## The Scan Sequencer -/

theorem buildHuntList (h : KeepsBounds b s) : KeepsBounds b s.buildHuntList := h.setScan (by rfl)

theorem moveCursor (h : KeepsBounds b s) : KeepsBounds b s.moveCursor := (h.setScan (by rfl)).ite h.buildHuntList

theorem beginHuntVisit (h : KeepsBounds b s) : KeepsBounds b s.beginHuntVisit := by
  unfold State.beginHuntVisit
  split
  · exact (h.setScan (by rfl)).tune _
  · exact h

theorem huntOn (h : KeepsBounds b s) : KeepsBounds b s.huntOn := by
  have hmoved := (h.setScan (x := { s.scan with hunt := none, listen := none }) rfl).moveCursor
  unfold State.huntOn
  dsimp only
  split
  · exact hmoved.beginHuntVisit
  · exact hmoved.tune _
  · exact hmoved

theorem endListen (h : KeepsBounds b s) : KeepsBounds b s.endListen := (h.setOwner none).huntOn

theorem scanIdle (h : KeepsBounds b s) : KeepsBounds b s.scanIdle := h.setScan (by rfl)

theorem rebuildPlan (h : KeepsBounds b s) : KeepsBounds b s.rebuildPlan := h.setScan (by rfl)

theorem beginVisit (h : KeepsBounds b s) (i start : Nat) : KeepsBounds b (s.beginVisit i start) := by
  unfold State.beginVisit
  dsimp only
  split
  · exact (h.setScan (by rfl)).ite ((h.setScan (by rfl)).tune _)
  · exact (h.setScan (by rfl)).tune _

end KeepsBounds

/-- R80: the round robin chooses an index of the table. -/
theorem State.roundRobin_lt {s : State} {without : Option Nat} {i : Nat} (h : s.roundRobin without = some i) : i < 12 := by
  have hmem := List.mem_of_find?_eq_some h
  simp only [afterPointer, allIndexes, tableSize, List.mem_append, List.mem_filter, List.mem_range] at hmem
  omega

/-- R80: the candidate pointer that a choice leaves stands or is an index of the table. -/
theorem State.chooseObject_pointer {s : State} {i pointer : Nat} {turn : Bool} (h : s.chooseObject = some (i, pointer, turn)) :
    pointer = s.scan.pointer ∨ pointer < 12 := by
  unfold State.chooseObject at h
  split at h
  · obtain ⟨j, hj, heq⟩ := Option.map_eq_some_iff.1 h
    simp only [Prod.mk.injEq] at heq
    exact .inr (by rw [← heq.2.1]; exact State.roundRobin_lt hj)
  · split at h
    · simp only [Option.some.injEq, Prod.mk.injEq] at h
      exact .inl h.2.1.symm
    · split at h
      · next j hj =>
        simp only [Option.some.injEq, Prod.mk.injEq] at h
        exact .inr (by rw [← h.2.1]; exact State.roundRobin_lt hj)
      · simp only [Option.some.injEq, Prod.mk.injEq] at h
        exact .inl h.2.1.symm

namespace KeepsBounds

variable {b s : State}

/-- R77, R80: a start decided. -/
theorem decideStart (h : KeepsBounds b s) : KeepsBounds b s.decideStart := by
  unfold State.decideStart
  split
  · exact h
  · split
    · exact h
    · dsimp only
      split
      · exact h.setScan (by rfl)
      · split
        · exact h.setScan (by rfl)
        · next hchosen =>
          refine ((h.setScan (by rfl)).setScan_of_bounds (by exact id) fun hpointer => ?_).beginVisit _ _
          rcases State.chooseObject_pointer hchosen with rfl | hlt
          · exact hpointer
          · exact hlt

theorem endVisit (h : KeepsBounds b s) : KeepsBounds b s.endVisit := by
  unfold State.endVisit
  split
  · refine ite ?_ h
    dsimp only
    split
    · exact (h.setScan (by rfl)).ite (h.setScan (by rfl)).tuneServing
    · exact h.setScan (by rfl)
  · exact h

theorem abandonVisit (h : KeepsBounds b s) : KeepsBounds b s.abandonVisit := by
  unfold State.abandonVisit
  split
  · exact (h.setScan (by rfl)).tuneServing
  · exact h

theorem exchangeBegins (h : KeepsBounds b s) : KeepsBounds b s.exchangeBegins := by
  unfold State.exchangeBegins
  split
  · exact ite h.abandonVisit h
  · exact h

theorem advancePlan (h : KeepsBounds b s) : KeepsBounds b s.advancePlan := h.setScan (by rfl)

theorem nameRecord (h : KeepsBounds b s) : KeepsBounds b s.nameRecord := h.setScan (by rfl)

theorem listenIfFound (h : KeepsBounds b s) (r : Frame) : KeepsBounds b (s.listenIfFound r) := by
  unfold State.listenIfFound
  split
  · split
    · exact (h.setScan (by rfl)).setOwner _
    · exact h
  · exact h

theorem huntVisitOver (h : KeepsBounds b s) : KeepsBounds b s.huntVisitOver := by
  unfold State.huntVisitOver
  split
  · exact h.huntOn.ite h
  · exact h

theorem listenFrame (h : KeepsBounds b s) : KeepsBounds b s.listenFrame := by
  unfold State.listenFrame
  split
  · exact h.endListen.ite (h.setScan (by rfl))
  · exact h

theorem directPace (h : KeepsBounds b s) (listening : Bool) : KeepsBounds b (s.directPace listening) :=
  (h.setScan (by rfl)).beginHuntVisit.ite (h.setScan (by rfl))

theorem rebuildEmpty (h : KeepsBounds b s) : KeepsBounds b s.rebuildEmpty := h.buildHuntList.ite h

/-- R83, R84, R86: the end of a record's work on a hunt. -/
theorem huntEnd (h : KeepsBounds b s) (listening : Bool) :
    KeepsBounds b (if listening then s.huntVisitOver.listenFrame else s.huntVisitOver) :=
  h.huntVisitOver.listenFrame.ite h.huntVisitOver

theorem scanRecord (h : KeepsBounds b s) (engine0 : Engine) (listening multiframe : Bool) :
    KeepsBounds b (s.scanRecord engine0 listening multiframe) := by
  unfold State.scanRecord
  split
  · exact h.decideStart.endVisit
  · exact ((h.buildHuntList.beginHuntVisit.ite h).huntEnd listening).ite h
  · exact (((h.rebuildEmpty.directPace _).ite h).huntEnd listening).ite h
  · exact h

end KeepsBounds

end Sys2Proof.Machine
end

section
/-! SUPPORT. The bounds under the operations of the Access Unit, the Site Table and the Roam Engine. -/

namespace Sys2Proof.Machine

namespace KeepsBounds

variable {b s : State}

/-! ## The Access Unit's shared operations -/

theorem accessIdle (h : KeepsBounds b s) : KeepsBounds b s.accessIdle := h.setAccess (by rfl)

theorem abandonWork (h : KeepsBounds b s) : KeepsBounds b s.abandonWork := h.returnSent.accessIdle.ite h

theorem draw (h : KeepsBounds b s) : KeepsBounds b s.draw := by
  unfold State.draw
  split
  · exact h.setAccess (by rfl)
  · exact (h.setAccess (by rfl)).nextFree

theorem sendBurst (h : KeepsBounds b s) (position : Nat) (kind : BurstKind) (carried : List Nat) (payload : List Byte) :
    KeepsBounds b (s.sendBurst position kind carried payload) := (h.setAccess (by rfl)).issue _

theorem sendGroups (h : KeepsBounds b s) (position : Nat) (kind : BurstKind) : KeepsBounds b (s.sendGroups position kind) :=
  (h.sendBurst ..).markSent _

theorem countAttempt (h : KeepsBounds b s) : KeepsBounds b s.countAttempt := h.setAccess (by rfl)

theorem sendIfDue (h : KeepsBounds b s) : KeepsBounds b s.sendIfDue := by
  unfold State.sendIfDue
  split
  · exact ((h.countAttempt.sendGroups _ _).ite (h.countAttempt.sendBurst ..)).ite h
  · exact h

theorem countSlot (h : KeepsBounds b s) : KeepsBounds b s.countSlot := by
  unfold State.countSlot
  split
  · exact (h.setAccess (by rfl)).ite h
  · exact h

theorem countdown (h : KeepsBounds b s) : KeepsBounds b s.countdown := h.countSlot.sendIfDue

theorem drawAtRecord (h : KeepsBounds b s) : KeepsBounds b s.drawAtRecord := h.draw.sendIfDue

theorem beginExchange (h : KeepsBounds b s) (sitePosition : Option Nat) : KeepsBounds b (s.beginExchange sitePosition) :=
  (h.setAccess (by rfl)).draw.exchangeBegins

theorem affiliateOrIdle (h : KeepsBounds b s) : KeepsBounds b s.affiliateOrIdle :=
  (h.beginExchange _).sendIfDue.ite h.accessIdle

theorem afterAccept (h : KeepsBounds b s) (count : Nat) : KeepsBounds b (s.afterAccept count) :=
  h.affiliateOrIdle.ite (h.setAccess (by rfl))

theorem trackSite (h : KeepsBounds b s) (r : Frame) (sync : Bool) : KeepsBounds b (s.trackSite r sync) := h.setAccess (by rfl)

theorem burstLost (h : KeepsBounds b s) (x : Burst) : KeepsBounds b (s.burstLost x) := (h.setAccess (by rfl)).returnCarried _

theorem countCollision (h : KeepsBounds b s) : KeepsBounds b s.countCollision := 
  h.setAccess_of_bounds (.sat16 _) (.refl _)

theorem burstMissed (h : KeepsBounds b s) (x : Burst) : KeepsBounds b (s.burstMissed x) :=
  have hmissed := (h.burstLost x).setAccess_of_bounds
    (x := { (s.burstLost x).access with missedSlots := sat16 (s.burstLost x).access.missedSlots }) (.refl _) (.sat16 _)
  hmissed.ite (hmissed.setAccess (by rfl)).draw

theorem burstDone (h : KeepsBounds b s) (position : Nat) (missed : Bool) : KeepsBounds b (s.burstDone position missed) := by
  unfold State.burstDone
  split
  · exact ((h.burstMissed _).ite ((h.setAccess (by rfl)).ite h)).ite h
  · exact h

/-! ## The Site Table -/

theorem takePair (h : KeepsBounds b s) (i : Nat) (p : Pair) : KeepsBounds b (s.takePair i p) :=
  h.ite ((h.setEntry i _).fallToListed i)

theorem loadSite (h : KeepsBounds b s) (code : Nat) (p : Pair) (preference : Int) (pinned : Bool) :
    KeepsBounds b (s.loadSite code p preference pinned).1 := by
  unfold State.loadSite
  dsimp only
  split
  · split
    · exact h
    · exact (h.takePair _ _).setEntry _ _
  · split
    · exact h
    · split
      · exact h.replaceEntry _ _
      · exact h

theorem writeDigest (h : KeepsBounds b s) (i : Nat) (d : Digest) : KeepsBounds b (s.writeDigest i d) := h.setEntry i _

theorem importItem (h : KeepsBounds b s) (kept : List Nat) (item : Neighbour) :
    KeepsBounds b (s.importItem kept item).1 := by
  unfold State.importItem
  dsimp only
  split
  · exact h.countSkip
  · split
    · split
      · exact h
      · split
        · exact h.writeDigest _ _
        · split
          · exact h.countConflict
          · exact (h.takePair _ _).writeDigest _ _
    · split
      · exact h.countConflict
      · split
        · exact h.replaceEntry _ _
        · exact h.countSkip

theorem importItems (h : KeepsBounds b s) (kept : List Nat) (items : List Neighbour) :
    KeepsBounds b (s.importItems kept items) := by
  induction items generalizing s kept with
  | nil => exact h
  | cons item rest ih => exact ih (h.importItem kept item) _

theorem admitFound (h : KeepsBounds b s) (code : Nat) (p : Pair) : KeepsBounds b (s.admitFound code p).1 := by
  unfold State.admitFound
  split
  · dsimp only
    split
    · exact h.countConflict
    · split
      · exact h
      · exact (h.takePair _ _).setEntry _ _
  · split
    · exact h.countConflict
    · split
      · exact h.replaceEntry _ _
      · exact h

theorem recallItem (h : KeepsBounds b s) (kept : List Nat) (item : Site) : KeepsBounds b (s.recallItem kept item).1 := by
  unfold State.recallItem
  dsimp only
  split
  · exact h
  · split
    · exact h.countConflict
    · split
      · exact h.replaceEntry _ _
      · exact h.countSkip

theorem recallItems (h : KeepsBounds b s) (kept : List Nat) (items : List Site) :
    KeepsBounds b (s.recallItems kept items) := by
  induction items generalizing s kept with
  | nil => exact h
  | cons item rest ih => exact ih (h.recallItem kept item) _

theorem freeEntry (h : KeepsBounds b s) (i : Nat) : KeepsBounds b (s.freeEntry i) := (h.replaceEntry i _).dwellCleared i

theorem bar (h : KeepsBounds b s) (code requested : Nat) : KeepsBounds b (s.bar code requested) := by
  unfold State.bar
  split
  · exact h.ite ((h.setEntry _ _).dwellCleared _)
  · exact h

theorem endServing (h : KeepsBounds b s) (penalty : Nat) : KeepsBounds b (s.endServing penalty) := by
  unfold State.endServing
  split
  · exact h.setEntry _ _
  · exact h

theorem beginServing (h : KeepsBounds b s) (i : Nat) : KeepsBounds b (s.beginServing i) := h.setEntry i _

theorem clearAllDwell (h : KeepsBounds b s) : KeepsBounds b s.clearAllDwell := (h.mapEntries _).clearWatch

theorem ageEntry (h : KeepsBounds b s) (i : Nat) : KeepsBounds b (s.ageEntry i) :=
  ((h.setEntry i _).fallToListed i).ite (h.setEntry i _)

theorem ageEntries (h : KeepsBounds b s) : KeepsBounds b s.ageEntries := by
  unfold State.ageEntries
  generalize allIndexes = indexes
  induction indexes generalizing s with
  | nil => exact h
  | cons i rest ih => exact ih (h.ageEntry i)

theorem decayTick (h : KeepsBounds b s) : KeepsBounds b s.decayTick := ((h.setTable (by simp)).mapEntries _).ite (h.setTable (by simp))

theorem tableMultiframe (h : KeepsBounds b s) : KeepsBounds b s.tableMultiframe :=
  (h.ageEntries.mapEntries _).decayTick.mapEntries _

/-! ## The Roam Engine -/

theorem enterEngine (h : KeepsBounds b s) (new : Engine) (cause : EngineCause) : KeepsBounds b (s.enterEngine new cause) :=
  h.setRoam.setPins.event _

theorem enterHunt (h : KeepsBounds b s) (cause : EngineCause) : KeepsBounds b (s.enterHunt cause) :=
  ((h.scanIdle.setOwner none).enterEngine .hunt cause).buildHuntList.beginHuntVisit

theorem enterDirect (h : KeepsBounds b s) (cause : EngineCause) : KeepsBounds b (s.enterDirect cause) :=
  (((h.scanIdle.setOwner none).enterEngine .direct cause).buildHuntList.setScan (by rfl)).tune _

theorem clearCampedCounts (h : KeepsBounds b s) : KeepsBounds b s.clearCampedCounts := (h.setIntake (by rfl)).setRanking

theorem returnToCamped (h : KeepsBounds b s) : KeepsBounds b s.returnToCamped :=
  (h.scanIdle.enterEngine .camped .outcome).tuneServing.clearCampedCounts.rebuildPlan.setOwner _

theorem startRegistration (h : KeepsBounds b s) (i : Nat) (reason : Reason) (previous : Option Nat) (cause : EngineCause) :
    KeepsBounds b (s.startRegistration i reason previous cause) :=
  (((h.abandonWork.scanIdle.setRoam.enterEngine .registering cause).setOwner _).setAccess (by rfl)).tune _

theorem raiseLost (h : KeepsBounds b s) : KeepsBounds b s.raiseLost := h.setIntake (by rfl)

theorem clearServingWork (h : KeepsBounds b s) : KeepsBounds b s.clearServingWork := by
  refine (h.clearAllDwell.setRanking.setBeacon_of_bounds ?_ ?_).allUnsent
  · exact fun _ h2 => ⟨rfl, h2⟩
  · exact .refl _

theorem restartHunt (h : KeepsBounds b s) : KeepsBounds b s.restartHunt := h.setRoam

theorem takeLost (h : KeepsBounds b s) (cause : EngineCause) : KeepsBounds b (s.takeLost cause) := by
  have hcleared := ((h.setPins (x := { s.pins with txinh := true })).abandonWork.endServing 0).clearServingWork.restartHunt
  unfold State.takeLost
  refine ite ?_ h
  dsimp only
  split
  · exact hcleared.startRegistration _ _ _ _
  · exact hcleared.enterHunt _

theorem roamFromCamped (h : KeepsBounds b s) (target : Nat) (reason : Reason) :
    KeepsBounds b (s.roamFromCamped target reason) := by
  unfold State.roamFromCamped
  split
  · exact h.startRegistration _ _ _ _
  · exact h

theorem takeTrigger (h : KeepsBounds b s) (t : Trigger) : KeepsBounds b (s.takeTrigger t) := by
  unfold State.takeTrigger
  refine ite ?_ h
  split
  · exact (h.roamFromCamped _ _).ite h
  · exact (h.roamFromCamped _ _).ite h
  · exact h

theorem takeTriggers (h : KeepsBounds b s) (ts : List Trigger) : KeepsBounds b (s.takeTriggers ts) := by
  induction ts generalizing s with
  | nil => exact h
  | cons t rest ih => exact ih (h.takeTrigger t)

theorem takeMove (h : KeepsBounds b s) (code : Nat) (p : Pair) : KeepsBounds b (s.takeMove code p) := by
  have hadmit := h.admitFound code p
  unfold State.takeMove
  refine ite ?_ h
  dsimp only
  split
  · next heq =>
    have hfound := hadmit.of_eq heq
    exact (hfound.event _).ite ((hfound.startRegistration _ _ _ _).ite (hfound.event _))
  · next heq => exact (hadmit.of_eq heq).event _
  · next heq => exact (hadmit.of_eq heq).event _

end KeepsBounds

end Sys2Proof.Machine
end

section
/-! SUPPORT. The bounds under the handling of a taken record. -/

namespace Sys2Proof.Machine

namespace KeepsBounds

variable {b s : State}

/-! ## Hunt acceptance and the outcomes of a registration -/

theorem huntAccept (h : KeepsBounds b s) (x : Summary) (l : Listen) : KeepsBounds b (s.huntAccept x l) := by
  have hadmit := h.admitFound x.code { channel := l.channel, colour := l.colour }
  have hend {s1 : State} {a : Admission}
      (heq : s.admitFound x.code { channel := l.channel, colour := l.colour } = (s1, a)) : KeepsBounds b s1.endListen :=
    (hadmit.of_eq heq).endListen
  unfold State.huntAccept
  dsimp only
  split
  · split
    · next heq => exact (((hadmit.of_eq heq).writeDigest _ _).bar _ _).endListen
    · next heq => exact hend heq
  · refine h.endListen.ite (h.endListen.ite (h.endListen.ite ?_))
    split
    · next heq => exact ((hadmit.of_eq heq).writeDigest _ _).startRegistration _ _ _ _
    · next heq => exact hend heq

/-- R50: the Serving Store takes the Watch Store, and the Watch Store is cleared. -/
theorem moveWatchStore (h : KeepsBounds b s) : KeepsBounds b s.moveWatchStore :=
  h.setBeacon_of_bounds (fun _ h2 => ⟨h2, rfl⟩) (.refl _)

theorem clearRoam (h : KeepsBounds b s) : KeepsBounds b s.clearRoam := h.setRoam

end KeepsBounds

/-- R150: the writer's start on a request leaves the recall list. -/
theorem RecallArea.startRequest_list (a : RecallArea) (site : Site) : (a.startRequest site).list = a.list := by
  unfold RecallArea.startRequest
  repeat' split
  all_goals rfl

/-- R150: an append request leaves the recall list. -/
theorem RecallArea.append_list (a : RecallArea) (site : Site) : (a.append site).list = a.list := by
  unfold RecallArea.append
  split
  · exact a.startRequest_list site
  · rfl

namespace KeepsBounds

variable {b s : State}

theorem acceptRoam (h : KeepsBounds b s) (count : Nat) : KeepsBounds b (s.acceptRoam count) := by
  unfold State.acceptRoam
  split
  · next i _ =>
    have hcleared := ((h.endServing (s.par .departurePenalty)).beginServing i).clearAllDwell.setRanking
      (x := { (((s.endServing (s.par .departurePenalty)).beginServing i).clearAllDwell).ranking with
        weakCount := 0, weakReported := false })
    have hcamped := (hcleared.clearCampedCounts.moveWatchStore.allUnsent.scanIdle.enterEngine .camped .outcome).rebuildPlan
    exact ((hcamped.event _).setRecallArea (RecallArea.append_list _ _)).clearRoam.afterAccept count
  · exact h

theorem leaveRegistering (h : KeepsBounds b s) : KeepsBounds b s.leaveRegistering := by
  unfold State.leaveRegistering
  split
  · exact h.returnToCamped
  · exact (h.enterDirect _).ite (h.enterHunt _)

theorem demoteTarget (h : KeepsBounds b s) (cause : FailureCause) (target : Option Nat) :
    KeepsBounds b (s.demoteTarget cause target) := by
  unfold State.demoteTarget
  split
  · exact (h.fallToListed _).countConflict
  · exact h

theorem failRoam (h : KeepsBounds b s) (cause : FailureCause) (bar : Option Nat) : KeepsBounds b (s.failRoam cause bar) := by
  have hdemoted := h.accessIdle.demoteTarget cause (s.accessIdle.findCode s.access.target)
  unfold State.failRoam
  dsimp only
  cases bar with
  | none => exact (hdemoted.leaveRegistering.event _).clearRoam
  | some t => exact ((hdemoted.bar _ t).leaveRegistering.event _).clearRoam

theorem huntTick (h : KeepsBounds b s) : KeepsBounds b s.huntTick :=
  ((h.setRoam.setRoam.enterDirect _).ite h.setRoam.setRoam).ite h.setRoam

theorem startEngine (h : KeepsBounds b s) : KeepsBounds b s.startEngine :=
  (h.recallItems _ _).restartHunt.clearRoam.enterHunt _

theorem stopEngine (h : KeepsBounds b s) : KeepsBounds b s.stopEngine :=
  ((h.returnSent.accessIdle.endServing 0).clearServingWork.scanIdle.setOwner none).clearRoam.enterEngine _ _

/-! ## Registration -/

theorem enterContending (h : KeepsBounds b s) : KeepsBounds b s.enterContending := (h.setAccess (by rfl)).drawAtRecord

theorem judgeFlags (h : KeepsBounds b s) (closed emergencyOnly : Bool) (hold : Nat) :
    KeepsBounds b (s.judgeFlags closed emergencyOnly hold) :=
  (h.failRoam _ _).ite ((h.failRoam _ _).ite h.enterContending)

theorem judgeBeacon (h : KeepsBounds b s) (x : Summary) : KeepsBounds b (s.judgeBeacon x) := h.judgeFlags _ _ _

theorem judgeDigest (h : KeepsBounds b s) : KeepsBounds b s.judgeDigest := by
  unfold State.judgeDigest
  split
  · exact h.judgeFlags _ _ _
  · exact h.enterContending

theorem judgeTarget (h : KeepsBounds b s) : KeepsBounds b s.judgeTarget := by
  unfold State.judgeTarget
  split
  · exact (h.judgeBeacon _).ite h.judgeDigest
  · exact h.judgeDigest

theorem countWait (h : KeepsBounds b s) : KeepsBounds b s.countWait := h.setAccess (by rfl)

theorem followRedirect (h : KeepsBounds b s) (i : Nat) : KeepsBounds b (s.followRedirect i) :=
  ((h.setAccess (by rfl)).setOwner _).tune _

theorem takeRedirect (h : KeepsBounds b s) (code channel colour : Nat) :
    KeepsBounds b (s.takeRedirect code channel colour) := by
  have hadmit := h.admitFound code { channel := channel, colour := colour }
  unfold State.takeRedirect
  refine (h.failRoam _ _).ite ?_
  split
  · next heq => exact ((hadmit.of_eq heq).failRoam _ _).ite ((hadmit.of_eq heq).followRedirect _)
  · next heq => exact (hadmit.of_eq heq).failRoam _ _
  · next heq => exact (hadmit.of_eq heq).failRoam _ _

theorem takeGrant (h : KeepsBounds b s) (g : Grant) : KeepsBounds b (s.takeGrant g) := by
  unfold State.takeGrant
  split
  · exact h.acceptRoam _
  · exact h.failRoam _ _
  · exact h.takeRedirect _ _ _
  · exact h.setAccess (by rfl)
  · exact h

theorem grantTimeout (h : KeepsBounds b s) : KeepsBounds b s.grantTimeout :=
  (h.setAccess (by rfl)).drawAtRecord.ite (h.failRoam _ _)

theorem awaitGrant (h : KeepsBounds b s) (input : AccessInput) : KeepsBounds b (s.awaitGrant input) := by
  unfold State.awaitGrant
  extract_lets s1
  have hwait : KeepsBounds b s1 := h.countWait
  split
  · exact (hwait.takeGrant _).ite (hwait.grantTimeout.ite hwait)
  · exact hwait.grantTimeout.ite hwait

theorem echoWon (h : KeepsBounds b s) : KeepsBounds b s.echoWon := h.setAccess (by rfl)

theorem echoLost (h : KeepsBounds b s) (x : Burst) : KeepsBounds b (s.echoLost x) :=
  ((h.burstLost x).failRoam _ _).ite (h.burstLost x).drawAtRecord

theorem contend (h : KeepsBounds b s) (input : AccessInput) : KeepsBounds b (s.contend input) := by
  unfold State.contend
  split
  · exact h.countdown
  · refine ite ?_ h
    split
    · exact h.echoWon
    · exact (h.echoWon.takeGrant _).ite h.echoWon
    · exact h.echoLost _
    · exact h.countCollision.echoLost _

theorem registrationPhase (h : KeepsBounds b s) (input : AccessInput) : KeepsBounds b (s.registrationPhase input) := by
  unfold State.registrationPhase
  split
  · split
    · exact h.judgeBeacon _
    · exact h.judgeTarget.ite (h.setAccess (by rfl))
  · dsimp only
    split
    · exact h.countWait.judgeBeacon _
    · exact (h.countWait.failRoam _ _).ite h.countWait
  · exact h.contend _
  · exact h.awaitGrant _
  · exact h

theorem countMultiframe (h : KeepsBounds b s) (multiframe : Bool) : KeepsBounds b (s.countMultiframe multiframe) :=
  (h.setAccess (by rfl)).ite h

theorem checkTooLong (h : KeepsBounds b s) : KeepsBounds b s.checkTooLong := (h.failRoam _ _).ite h

theorem registrationRecord (h : KeepsBounds b s) (r : Frame) (input : AccessInput) :
    KeepsBounds b (s.registrationRecord r input) := by
  have hcounted := h.countMultiframe input.multiframe
  have htracked := hcounted.ite (c := (s.countMultiframe input.multiframe).inTuning = true) (hcounted.trackSite r input.sync)
  exact (htracked.failRoam _ _).ite (htracked.registrationPhase input).checkTooLong

/-! ## Continuation and affiliation -/

theorem beginAckWait (h : KeepsBounds b s) : KeepsBounds b s.beginAckWait := h.setAccess (by rfl)

theorem sendContinue (h : KeepsBounds b s) : KeepsBounds b s.sendContinue := (h.setAccess (by rfl)).sendGroups _ _

theorem continueTimeout (h : KeepsBounds b s) : KeepsBounds b s.continueTimeout := h.returnSent.affiliateOrIdle

theorem contendAgain (h : KeepsBounds b s) : KeepsBounds b s.contendAgain := h.draw.sendIfDue.ite h.draw.accessIdle

theorem affiliateTimeout (h : KeepsBounds b s) : KeepsBounds b s.affiliateTimeout :=
  (h.returnSent.setAccess (by rfl)).contendAgain.ite h.returnSent.accessIdle

theorem continueRecord (h : KeepsBounds b s) (input : AccessInput) : KeepsBounds b (s.continueRecord input) :=
  (h.affiliateOrIdle.ite (h.countWait.continueTimeout.ite h.countWait)).ite
    (h.beginAckWait.ite ((h.sendContinue.ite (h.beginAckWait.ite h.affiliateOrIdle)).ite h))

theorem affiliateLost (h : KeepsBounds b s) (x : Burst) : KeepsBounds b (s.affiliateLost x) :=
  (h.burstLost x).returnSent.accessIdle.ite (h.burstLost x).contendAgain

theorem affiliateRecord (h : KeepsBounds b s) (input : AccessInput) : KeepsBounds b (s.affiliateRecord input) := by
  unfold State.affiliateRecord
  refine ite (h.affiliateOrIdle.ite (h.countWait.affiliateTimeout.ite h.countWait)) ?_
  split
  · refine ite ?_ h
    split
    · exact (h.setAccess (by rfl)).beginAckWait
    · exact h.affiliateLost _
    · exact h.affiliateLost _
    · exact h.countCollision.affiliateLost _
  · exact h.countdown.ite h.accessIdle

theorem multiframeExchange (h : KeepsBounds b s) (engine0 : Engine) (multiframe : Bool) :
    KeepsBounds b (s.multiframeExchange engine0 multiframe) := (h.beginExchange _).sendIfDue.ite h

theorem accessRecord (h : KeepsBounds b s) (r : Frame) (engine0 : Engine) (input : AccessInput) :
    KeepsBounds b (s.accessRecord r engine0 input) := by
  unfold State.accessRecord
  split
  · exact (h.registrationRecord _ _).ite ((h.failRoam _ _).ite h)
  · split
    · exact (h.trackSite _ _).continueRecord _
    · exact (h.trackSite _ _).affiliateRecord _
    · exact h.multiframeExchange _ _
    · exact h
  · exact h

/-! ## The Address Filter -/

theorem deliver (h : KeepsBounds b s) (x : ControlBlock) (m : Message) : KeepsBounds b (s.deliver x m).1 := by
  unfold State.deliver
  split
  · exact h
  · exact h
  · exact h.affilAck _
  · exact h.event _
  · exact h.event _
  · exact h.takeMove _ _

theorem filterRecord (h : KeepsBounds b s) (r : Frame) : KeepsBounds b (s.filterRecord r).1 := by
  unfold State.filterRecord
  split
  · exact h
  · split
    · exact h.deliver _ _
    · exact h
  · exact h

end KeepsBounds

end Sys2Proof.Machine
end

section
/-! SUPPORT. The bounds under the Beacon Assembler, the Ranking Unit, the Frame Intake and the limit rows. -/

namespace Sys2Proof.Machine

/-- R45: a store keeps its 16 positions when a fragment is placed. -/
theorem Store.place_length {st : Store} (h : st.places.length = 16) (position : Nat) (f : Fragment) :
    (st.place position f).places.length = 16 := by
  unfold Store.place
  dsimp only
  split
  · simpa using h
  · simp [Store.cleared]

namespace KeepsBounds

variable {b s : State}

/-! ## The Beacon Assembler -/

theorem countFailure (h : KeepsBounds b s) : KeepsBounds b s.countFailure := 
  h.setBeacon_of_bounds (fun h1 h2 => ⟨h1, h2⟩) (.sat16 _)

theorem setServingStore (h : KeepsBounds b s) {st : Store}
    (hlength : s.beacon.servingStore.places.length = 16 → st.places.length = 16) : KeepsBounds b (s.setServingStore st) :=
  h.setBeacon_of_bounds (fun h1 h2 => ⟨hlength h1, h2⟩) (.refl _)

theorem setWatchStore (h : KeepsBounds b s) {st : Store}
    (hlength : s.beacon.watchStore.places.length = 16 → st.places.length = 16) : KeepsBounds b (s.setWatchStore st) :=
  h.setBeacon_of_bounds (fun h1 h2 => ⟨h1, hlength h2⟩) (.refl _)

theorem compareServing (h : KeepsBounds b s) (i : Nat) (x : Summary) : KeepsBounds b (s.compareServing i x) := by
  unfold State.compareServing
  extract_lets s1
  have hcompared : KeepsBounds b s1 := by
    unfold s1
    split
    · exact h.ite (h.event _)
    · exact h
  exact hcompared.setBeacon (by rfl)

theorem acceptServing (h : KeepsBounds b s) (i : Nat) (x : Summary) (neighbours : List Neighbour) :
    KeepsBounds b (s.acceptServing i x neighbours) := ((h.writeDigest _ _).importItems _ _).compareServing _ _

theorem servingFragment (h : KeepsBounds b s) (i position : Nat) (f : Fragment) :
    KeepsBounds b (s.servingFragment i position f).1 := by
  have hcleared : KeepsBounds b (s.setServingStore Store.cleared) := h.setServingStore fun _ => rfl
  unfold State.servingFragment
  dsimp only
  split
  · split
    · split
      · exact hcleared.acceptServing _ _ _
      · split
        · exact hcleared.raiseLost
        · exact hcleared
    · exact hcleared.countFailure
  · exact h.setServingStore fun hlength => Store.place_length hlength position f

theorem watchAccepted (h : KeepsBounds b s) (x : Summary) : KeepsBounds b (s.watchAccepted x) := by
  unfold State.watchAccepted
  split
  · exact (h.writeDigest _ _).ite (h.fallToListed _).countConflict
  · exact h

theorem targetAccepted (h : KeepsBounds b s) (x : Summary) : KeepsBounds b (s.targetAccepted x) := by
  unfold State.targetAccepted
  split
  · exact (h.writeDigest _ _).ite h
  · exact h

theorem acceptWatch (h : KeepsBounds b s) (x : Summary) : KeepsBounds b (s.acceptWatch x).1 := by
  unfold State.acceptWatch
  split
  · exact h.watchAccepted _
  · exact h.targetAccepted _
  · exact h
  · split
    · exact h.huntAccept _ _
    · exact h

theorem watchFragment (h : KeepsBounds b s) (position : Nat) (f : Fragment) :
    KeepsBounds b (s.watchFragment position f).1 := by
  have hcleared : KeepsBounds b (s.setWatchStore Store.cleared) := h.setWatchStore fun _ => rfl
  unfold State.watchFragment
  dsimp only
  split
  · split
    · exact (hcleared.setBeacon (by rfl)).acceptWatch _
    · exact hcleared.countFailure
  · exact h.setWatchStore fun hlength => Store.place_length hlength position f

theorem beaconRecord (h : KeepsBounds b s) (r : Frame) : KeepsBounds b (s.beaconRecord r).1 := by
  unfold State.beaconRecord
  split
  · split
    · exact h
    · split
      · split
        · exact h.servingFragment _ _ _
        · exact h
      · split
        · exact h.watchFragment _ _
        · exact h
  · exact h

/-! ## The Ranking Unit -/

theorem credit (h : KeepsBounds b s) (i c : Nat) : KeepsBounds b (s.credit i c) := h.setEntry i _

theorem heardNotice (h : KeepsBounds b s) (r : Frame) : KeepsBounds b (s.heardNotice r) := by
  unfold State.heardNotice
  split
  · exact h.setEntry _ _
  · exact h

theorem creditSamples (h : KeepsBounds b s) (r : Frame) (role : Role) : KeepsBounds b (s.creditSamples r role) := by
  unfold State.creditSamples
  cases s.heardEntry r with
  | none =>
    cases s.unheardEntry r role with
    | none => exact h
    | some j => exact h.credit j 0
  | some i =>
    cases s.unheardEntry r role with
    | none => exact h.credit i _
    | some j => exact (h.credit i _).credit j 0

theorem nameWatch (h : KeepsBounds b s) (i : Nat) : KeepsBounds b (s.nameWatch i) := (h.setRanking.setScan (by rfl)).setOwner _

theorem considerWatch (h : KeepsBounds b s) (i : Nat) : KeepsBounds b (s.considerWatch i) := by
  unfold State.considerWatch
  split
  · exact h.nameWatch i
  · exact (h.nameWatch i).ite h

theorem dwellUpdate (h : KeepsBounds b s) (i serving : Nat) : KeepsBounds b (s.dwellUpdate i serving).1 := by
  unfold State.dwellUpdate
  dsimp only
  split
  · exact ((h.setEntry _ _).considerWatch _).ite (h.setEntry _ _)
  · exact (h.setEntry _ _).dwellCleared _

theorem reportWeak (h : KeepsBounds b s) (serving : Nat) : KeepsBounds b (s.reportWeak serving) :=
  h.ite (h.setRanking.event _)

theorem weakUpdate (h : KeepsBounds b s) (serving : Nat) : KeepsBounds b (s.weakUpdate serving).1 := by
  unfold State.weakUpdate
  dsimp only
  split
  · split
    · exact h.setRanking.reportWeak _
    · exact h.setRanking
  · exact h.setRanking

theorem sendReport (h : KeepsBounds b s) (serving : Nat) : KeepsBounds b (s.sendReport serving) := h.setRanking.event _

theorem reportTick (h : KeepsBounds b s) : KeepsBounds b s.reportTick := by
  unfold State.reportTick
  refine h.setRanking.ite (ite ?_ h.setRanking)
  split
  · exact h.sendReport _
  · exact h

theorem handleSamples (h : KeepsBounds b s) (r : Frame) (role : Role) : KeepsBounds b (s.handleSamples r role).1 := by
  have hcredited := h.creditSamples r role
  unfold State.handleSamples
  dsimp only
  split
  · next v _ =>
    split
    · have hdwell : KeepsBounds b
          (match s.visited r role with
            | some i => (s.creditSamples r role).dwellUpdate i v
            | none => (s.creditSamples r role, ([] : List Trigger))).1 := by
        split
        · exact hcredited.dwellUpdate _ _
        · exact hcredited
      split
      · exact hdwell.weakUpdate _
      · exact hdwell
    · exact hcredited
  · exact hcredited

theorem rankRecord (h : KeepsBounds b s) (r : Frame) (role : Role) (multiframe : Bool) :
    KeepsBounds b (s.rankRecord r role multiframe).1 := by
  unfold State.rankRecord
  extract_lets s1 t
  have hsampled : KeepsBounds b t.1 := by
    unfold t
    split
    · exact (h.heardNotice r).handleSamples r role
    · exact h.heardNotice r
  split
  · exact hsampled.reportTick
  · exact hsampled

/-! ## The Frame Intake -/

theorem countCheckError (h : KeepsBounds b s) : KeepsBounds b s.countCheckError := 
  h.setIntake_of_bounds id (.refl _) (.refl _) (.sat16 _)

/-- R29: a record joins a queue of fewer than 4, or is held behind a full one. -/
theorem placeFrame (h : KeepsBounds b s) (f : Frame) : KeepsBounds b (s.placeFrame f) := by
  unfold State.placeFrame
  dsimp only
  split
  · exact h.setIntake_of_bounds id (.sat16 _) (.refl _) (.refl _)
  · next hheld =>
    have hnone : s.intake.held = none := by simpa using hheld
    split
    · next hroom =>
      exact h.setIntake_of_bounds (fun _ => ⟨by simpa using hroom, fun hne => absurd hnone hne⟩) (.refl _) (.refl _) (.refl _)
    · next hfull =>
      have hqueue (hbound : s.framesBounded) : s.intake.queue.length = 4 := le_antisymm hbound.1 (not_lt.1 hfull)
      exact h.setIntake_of_bounds (fun hbound => ⟨hbound.1, fun _ => hqueue hbound⟩) (.refl _) (.refl _) (.refl _)

theorem modemRecord (h : KeepsBounds b s) (kind : Byte) (body : List Byte) : KeepsBounds b (s.modemRecord kind body) := by
  unfold State.modemRecord
  split
  · exact h.placeFrame _
  · exact h.burstDone _ _
  · exact h.countCheckError

theorem frontEndReceive (h : KeepsBounds b s) (n : Nat) (bytes : List Byte) :
    KeepsBounds b (Machine.frontEndReceive n bytes s) := by
  induction n generalizing bytes s with
  | zero => exact h
  | succ n ih =>
    unfold Machine.frontEndReceive
    split
    · exact h.setIntake (by rfl)
    · exact h.setIntake (by rfl)
    · exact (ih h.countCheckError _).ite ((h.setIntake (by rfl)).ite ((ih (h.modemRecord _ _) _).ite (ih h.countCheckError _)))

theorem receiveFrontEnd (h : KeepsBounds b s) (bytes : List Byte) : KeepsBounds b (s.receiveFrontEnd bytes) :=
  h.frontEndReceive _ _

/-- R30: with the head taken a held record fits into the queue. -/
theorem popFrame (h : KeepsBounds b s) {r : Frame} {rest : List Frame} (hq : s.intake.queue = r :: rest) :
    KeepsBounds b (s.popFrame rest) := by
  refine h.setIntake_of_bounds (fun hbound => ⟨?_, fun hne => absurd rfl hne⟩) (.refl _) (.refl _) (.refl _)
  obtain ⟨hle, -⟩ := hbound
  rw [hq, List.length_cons] at hle
  cases s.intake.held <;> simp <;> omega

theorem advanceCounter (h : KeepsBounds b s) (r : Frame) : KeepsBounds b (s.advanceCounter r) := by
  unfold State.advanceCounter
  dsimp only
  split
  · split
    · refine h.setIntake_of_bounds id (.refl _) ?_ (.refl _)
      dsimp only
      split
      · exact .refl _
      · exact .sat16 _
    · exact h.setIntake (by rfl)
  · exact h.setIntake (by rfl)

end KeepsBounds

/-- R162: an activation keeps the number of the active values, where each has its pending one. -/
theorem activated_length {active : List Nat} {pending : List (Option Nat)} (ha : active.length = 27)
    (hp : pending.length = 27) : (activated active pending).length = 27 := by
  simp [activated, ha, hp]

namespace KeepsBounds

variable {b s : State}

theorem activate (h : KeepsBounds b s) : KeepsBounds b s.activate := by
  have hhost : KeepsBounds b
      (s.setHost
        { s.host with
          active := activated s.host.active s.host.pendingParams
          pendingParams := s.host.pendingParams.map fun _ => none }) :=
    h.setHost_of_transmit (fun hactive hpending => ⟨activated_length hactive hpending, by simpa using hpending⟩) id (by rfl)
  exact ((hhost.mapEntries _).setRanking.tune _).ite (hhost.mapEntries _).setRanking

theorem lossUpdate (h : KeepsBounds b s) (r : Frame) : KeepsBounds b (s.lossUpdate r).1 := by
  unfold State.lossUpdate
  repeat' split
  · exact h.setIntake (by rfl)
  · exact h.raiseLost
  · exact h.setIntake (by rfl)
  · exact h
  · exact h

theorem multiframeWork (h : KeepsBounds b s) : KeepsBounds b s.multiframeWork := by
  unfold State.multiframeWork
  exact h.tableMultiframe.advancePlan.ite h.tableMultiframe

theorem rankWithLoss (h : KeepsBounds b s) (r : Frame) (role : Role) (multiframe : Bool) (order : Nat) :
    KeepsBounds b (s.rankWithLoss r role multiframe order) := by
  rcases s.rankWithLoss_cases r role multiframe order with heq | heq | heq <;> rw [heq]
  · exact ((h.takeLost _).rankRecord _ _ _).takeTriggers _
  · exact ((h.rankRecord _ _ _).takeLost _).takeTriggers _
  · exact ((h.rankRecord _ _ _).takeTriggers _).takeLost _

theorem filterWithIdentity (h : KeepsBounds b s) (r : Frame) (lost first : Bool) (late : List Trigger) (place : Nat) :
    KeepsBounds b (s.filterWithIdentity r lost first late place).1 := by
  cases lost with
  | false => exact (h.filterRecord r).takeTriggers _
  | true =>
    obtain ⟨x, -, heq | heq⟩ := s.filterWithIdentity_cases r first late place <;> rw [heq]
    · exact ((((h.takeTriggers _).takeLost _).takeTriggers _).filterRecord r).takeTriggers _
    · exact ((((h.takeTriggers _).filterRecord r).takeTriggers _).takeLost _).takeTriggers _

theorem huntWork (h : KeepsBounds b s) (ran multiframe : Bool) : KeepsBounds b (s.huntWork ran multiframe) :=
  h.huntTick.ite h

theorem afterRanking (h : KeepsBounds b s) (base : State) (r : Frame) (multiframe first : Bool) (late : List Trigger)
    (place : Nat) : KeepsBounds b (s.afterRanking base r multiframe first late place) :=
  ((((((h.listenIfFound r).beaconRecord r).filterWithIdentity _ _ _ _ _).huntWork _ _).accessRecord _ _ _).scanRecord
    _ _ _).nextFree

theorem blocksHandle (h : KeepsBounds b s) (base : State) (r : Frame) (role : Role) (multiframe lossRaised : Bool) :
    KeepsBounds b (s.blocksHandle base r role multiframe lossRaised) := by
  obtain ⟨u, late, hlost, hnot, heq⟩ := s.blocksInOrder_cases base r role multiframe lossRaised
    (Config.triggersLate s.free) (Config.identityFirst s.free) (Config.lateTriggers s.free) (Config.lossOrder s.free)
  rw [State.blocksHandle, heq]
  refine afterRanking ?_ ..
  cases lossRaised with
  | true =>
    obtain ⟨-, rfl | rfl | rfl⟩ := hlost rfl
    · exact ((h.takeLost _).rankRecord _ _ _).takeTriggers _
    · exact ((h.rankRecord _ _ _).takeLost _).takeTriggers _
    · exact ((h.rankRecord _ _ _).takeTriggers _).takeLost _
  | false =>
    obtain ⟨rfl, -⟩ | ⟨rfl, -⟩ := hnot rfl
    · exact (h.rankRecord _ _ _).takeTriggers _
    · exact h.rankRecord _ _ _

theorem takeRecord (h : KeepsBounds b s) : KeepsBounds b s.takeRecord := by
  unfold State.takeRecord
  split
  · next r rest hq =>
    have hcounted := (h.popFrame hq).advanceCounter r
    have hactive := hcounted.activate.ite (c := ((s.popFrame rest).advanceCounter r).atMultiframe = true) hcounted
    have hlost := hactive.lossUpdate r
    exact (hlost.multiframeWork.ite hlost).nameRecord.blocksHandle _ _ _ _ _
  · exact h

/-! ## The limit rows -/

theorem heardAgeLimit (h : KeepsBounds b s) (i : Nat) : KeepsBounds b (s.heardAgeLimit i) := (h.ageEntry i).ite h

theorem barEnd (h : KeepsBounds b s) (i : Nat) : KeepsBounds b (s.barEnd i) := (h.setEntry i _).ite h

theorem departureDecay (h : KeepsBounds b s) : KeepsBounds b s.departureDecay := h.decayTick.ite h

theorem digestAgeLimit (h : KeepsBounds b s) (i : Nat) : KeepsBounds b (s.digestAgeLimit i) := (h.setEntry i _).ite h

theorem servingReport (h : KeepsBounds b s) : KeepsBounds b s.servingReport := h.reportTick.ite h

theorem servingLossLimit (h : KeepsBounds b s) : KeepsBounds b s.servingLossLimit := (h.raiseLost.takeLost _).ite h

theorem huntListenReadLimit (h : KeepsBounds b s) : KeepsBounds b s.huntListenReadLimit := by
  unfold State.huntListenReadLimit
  split
  · exact h.endListen.ite h
  · exact h

theorem huntLimit (h : KeepsBounds b s) : KeepsBounds b s.huntLimit := h.huntTick.ite h

theorem readingUnreadable (h : KeepsBounds b s) : KeepsBounds b s.readingUnreadable := (h.countWait.failRoam _ _).ite h

theorem grantWaitTimeout (h : KeepsBounds b s) : KeepsBounds b s.grantWaitTimeout := h.countWait.grantTimeout.ite h

theorem tooLong (h : KeepsBounds b s) : KeepsBounds b s.tooLong := ((h.countMultiframe true).failRoam _ _).ite h

theorem affilAckWaitTimeout (h : KeepsBounds b s) : KeepsBounds b s.affilAckWaitTimeout := by
  unfold State.affilAckWaitTimeout
  refine ite ?_ h
  split
  · exact h.countWait.continueTimeout
  · exact h.countWait.affiliateTimeout
  · exact h

theorem silenceTimeout (h : KeepsBounds b s) : KeepsBounds b s.silenceTimeout :=
  have hsilent := (h.setIntake (x := { s.intake with silenceRunning := false, timing := .holdover }) rfl).event .frontEndSilent
  ((hsilent.raiseLost.takeLost _).ite hsilent).ite h

end KeepsBounds

end Sys2Proof.Machine
end

section
/-! SUPPORT. The bounds under the Host Link, the commands, the recall writer and the resets; what every row keeps. -/

namespace Sys2Proof.Machine

/-! ## What a row keeps -/

/-- What a row at which no reset takes place keeps: a reply may be queued beside what `KeepsBounds` allows. -/
structure RowKeeps (s t : State) : Prop where
  counters : List.Forall₂ Rises s.counters t.counters
  sizes : s.sizesSound → t.sizesSound
  queues : s.queuesBounded → t.queuesBounded

/-- R157: the replies waiting below the BUSY reply are among the replies. -/
theorem countP_replies_filter (queue : List HostFrame) :
    (queue.countP fun r => r.isReply && !r.isBusy) = (queue.filter HostFrame.isReply).countP fun r => !r.isBusy := by
  simp only [List.countP_filter, Bool.and_comm]

/-- R157: a BUSY reply is among the replies. -/
theorem countP_busy_filter (queue : List HostFrame) :
    queue.countP HostFrame.isBusy = (queue.filter HostFrame.isReply).countP HostFrame.isBusy := by
  rw [List.countP_filter]
  refine List.countP_congr fun r _ => ?_
  simp only [HostFrame.isBusy, Bool.and_eq_true]
  tauto

/-- R157, R159: the transmit queue stays within its bounds where no reply is queued. -/
theorem KeepsBounds.row {s t : State} (h : KeepsBounds s t) : RowKeeps s t where
  counters := h.counters
  sizes := h.sizes
  queues := fun ⟨hframes, hcommands, hevents, hreplies, hbusy⟩ => by
    refine ⟨h.frames hframes, h.commands hcommands, h.events hevents, ?_, ?_⟩
    · rw [countP_replies_filter] at hreplies ⊢
      exact (h.replies.countP_le).trans hreplies
    · rw [countP_busy_filter] at hbusy ⊢
      exact (h.replies.countP_le).trans hbusy

theorem RowKeeps.trans {s t u : State} (h : RowKeeps s t) (h' : RowKeeps t u) : RowKeeps s u where
  counters := forall₂_rises_trans h.counters h'.counters
  sizes := h'.sizes ∘ h.sizes
  queues := h'.queues ∘ h.queues

/-! ## Replies -/

/-- 12.4: a reply is a reply, and BUSY by its code. -/
theorem replyFrame_flags (f : HostFrame) (code : ReplyCode) (result : List Byte) :
    (replyFrame f code result).isReply = true ∧ (replyFrame f code result).isBusy = decide (code = .busy) := by
  refine ⟨rfl, ?_⟩
  cases code <;> rfl

/-- A reply leaves the counters, the sizes and the other queues. -/
theorem State.reply_keeps (s : State) (f : HostFrame) (code : ReplyCode) (result : List Byte)
    (htransmit : s.transmitBounded → (s.reply f code result).transmitBounded) : RowKeeps s (s.reply f code result) where
  counters := (KeepsBounds.refl s).counters
  sizes := id
  queues := fun ⟨hframes, hcommands, hbound⟩ => ⟨hframes, hcommands, htransmit hbound⟩

/-- R157: a reply to a command, where fewer than 3 replies wait. -/
theorem State.reply_keeps_of_few {s : State} (hfew : repliesWaiting s.host.transmit < 3) (f : HostFrame) {code : ReplyCode}
    (hcode : code ≠ .busy) (result : List Byte) : RowKeeps s (s.reply f code result) := by
  obtain ⟨hreply, hbusy⟩ := replyFrame_flags f code result
  refine s.reply_keeps f code result fun ⟨hevents, _, hbusyBound⟩ => ⟨?_, ?_, ?_⟩
  · simpa [State.reply, eventsWaiting, hreply] using hevents
  · have hle : (s.host.transmit.countP fun r => r.isReply && !r.isBusy) ≤ repliesWaiting s.host.transmit :=
      List.countP_mono_left fun r _ h => by simp_all
    simp [State.reply, hreply, hbusy, hcode]
    omega
  · simpa [State.reply, hbusy, hcode] using hbusyBound

/-- R157: the BUSY reply, where none waits. -/
theorem State.busy_keeps {s : State} (hnone : s.busyWaiting = false) (f : HostFrame) : RowKeeps s (s.reply f .busy) := by
  obtain ⟨hreply, hbusy⟩ := replyFrame_flags f .busy []
  have hzero : s.host.transmit.countP HostFrame.isBusy = 0 := by
    rw [List.countP_eq_zero]
    simpa [State.busyWaiting] using hnone
  refine s.reply_keeps f .busy [] fun ⟨hevents, hreplies, _⟩ => ⟨?_, ?_, ?_⟩
  · simpa [State.reply, eventsWaiting, hreply] using hevents
  · simpa [State.reply, hreply, hbusy] using hreplies
  · simp [State.reply, hbusy, hzero]

/-! ## The host's receive line -/

namespace KeepsBounds

variable {b s : State}

theorem frameDamaged (h : KeepsBounds b s) : KeepsBounds b s.frameDamaged := by
  have hcounted := h.setHost_of_bounds (x := { s.host with checkErrors := sat16 s.host.checkErrors })
    (fun h1 h2 => ⟨h1, h2⟩) id id (List.Sublist.refl _) (.sat16 _) (.refl _)
  unfold State.frameDamaged
  exact hcounted.ite ((hcounted.event _).setHost (by rfl))

end KeepsBounds

/-- R157: a frame placed: it joins an intake queue of fewer than 4, or is answered BUSY where no such reply waits. -/
theorem State.placeHostFrame_keeps (s : State) (f : HostFrame) : RowKeeps s (s.placeHostFrame f) := by
  have hcleared : KeepsBounds s (s.setHost { s.host with linkError := false }) := (KeepsBounds.refl s).setHost (by rfl)
  unfold State.placeHostFrame
  dsimp only
  split
  · next hroom =>
    refine KeepsBounds.row (hcleared.setHost_of_transmit (fun h1 h2 => ⟨h1, h2⟩) (fun _ => ?_) rfl)
    simpa using hroom
  · split
    · exact hcleared.row
    · next hbusy => exact hcleared.row.trans (State.busy_keeps (by simpa using hbusy) f)

/-- R155: whatever bytes arrive from the host. -/
theorem hostReceive_keeps (n : Nat) (bytes : List Byte) (s : State) : RowKeeps s (hostReceive n bytes s) := by
  have hkeep (u : State) (kept : List Byte) : RowKeeps u (u.keepHostBytes kept) := ((KeepsBounds.refl u).setHost (by rfl)).row
  have hdamaged (u : State) : RowKeeps u u.frameDamaged := (KeepsBounds.refl u).frameDamaged.row
  induction n generalizing bytes s with
  | zero => exact (KeepsBounds.refl s).row
  | succ n ih =>
    unfold hostReceive
    split
    · exact hkeep _ _
    · exact hkeep _ _
    · dsimp only
      split
      · exact (hdamaged s).trans (ih _ _)
      · split
        · exact hkeep _ _
        · split
          · exact (s.placeHostFrame_keeps _).trans (ih _ _)
          · exact (hdamaged s).trans (ih _ _)

/-- R155: the inter-byte gap. -/
theorem State.gapTimeout_keeps (s : State) : RowKeeps s s.gapTimeout := by
  unfold State.gapTimeout
  split
  · exact (KeepsBounds.refl s).row
  · exact (KeepsBounds.refl s).frameDamaged.row.trans (hostReceive_keeps _ _ _)

/-! ## Commands -/

/-- R158: what the handling of a command leads to: an operation that queues no reply, then a reply other than BUSY. -/
def Answers (s : State) (f : HostFrame) (t : State) : Prop :=
  ∃ (u : State) (code : ReplyCode) (result : List Byte), KeepsBounds s u ∧ code ≠ .busy ∧ t = u.reply f code result

theorem KeepsBounds.answers {s u : State} (h : KeepsBounds s u) (f : HostFrame) {code : ReplyCode} {result : List Byte}
    (hcode : code ≠ .busy) : Answers s f (u.reply f code result) := ⟨u, code, result, h, hcode, rfl⟩

/-- R158: a command refused. -/
theorem Answers.refused (s : State) (f : HostFrame) {code : ReplyCode} (hcode : code ≠ .busy) :
    Answers s f (s.reply f code) := (KeepsBounds.refl s).answers f hcode

theorem Answers.ite {s t u : State} {f : HostFrame} {c : Prop} [Decidable c] (ht : Answers s f t) (hu : Answers s f u) :
    Answers s f (if c then t else u) := by
  split
  · exact ht
  · exact hu

/-- R158: the code of a command whose values may have been adjusted. -/
theorem ok_or_adjusted_ne_busy (c : Prop) [Decidable c] : (if c then ReplyCode.ok else .adjusted) ≠ .busy := by
  split <;> exact ReplyCode.noConfusion

theorem State.provision_answers (s : State) (f : HostFrame) : Answers s f (s.provision f) :=
  (Answers.refused s f (by nofun)).ite ((Answers.refused s f (by nofun)).ite ((Answers.refused s f (by nofun)).ite
    (((((KeepsBounds.refl s).setGroups (by exact id)).setAccess (by rfl)).setHost (by rfl)).answers f (by nofun))))

/-- R161: the pending values keep their number. -/
theorem writeItems_length (pending : List (Option Nat)) (items : List (Nat × Nat)) :
    (writeItems pending items).length = pending.length := by
  induction items generalizing pending with
  | nil => rfl
  | cons item rest ih => simp [writeItems, ih]

theorem State.setParameters_answers (s : State) (f : HostFrame) : Answers s f (s.setParameters f) := by
  unfold State.setParameters
  split
  · next items _ =>
    have hwritten : KeepsBounds s (s.setHost { s.host with pendingParams := writeItems s.host.pendingParams items }) :=
      (KeepsBounds.refl s).setHost_of_transmit (fun h1 h2 => ⟨h1, (writeItems_length _ _).trans h2⟩) id rfl
    exact (Answers.refused s f (by nofun)).ite (hwritten.answers f (by exact ok_or_adjusted_ne_busy _))
  · exact Answers.refused s f (by nofun)

/-- R7: LOAD SITE is not answered BUSY. -/
theorem State.loadSite_code (s : State) (code : Nat) (p : Pair) (preference : Int) (pinned : Bool) :
    (s.loadSite code p preference pinned).2.code ≠ .busy := by
  unfold State.loadSite
  dsimp only
  split
  · split
    · exact ReplyCode.noConfusion
    · exact ok_or_adjusted_ne_busy _
  · split
    · exact ReplyCode.noConfusion
    · split
      · exact ok_or_adjusted_ne_busy _
      · exact ReplyCode.noConfusion

theorem State.loadSiteCommand_answers (s : State) (f : HostFrame) : Answers s f (s.loadSiteCommand f) := by
  unfold State.loadSiteCommand
  dsimp only
  split
  · exact (Answers.refused s f (by nofun)).ite (((KeepsBounds.refl s).loadSite _ _ _ _).answers f (by exact s.loadSite_code _ _ _ _))
  · exact Answers.refused s f (by nofun)

theorem State.dropSiteCommand_answers (s : State) (f : HostFrame) : Answers s f (s.dropSiteCommand f) := by
  unfold State.dropSiteCommand
  refine (Answers.refused s f (by nofun)).ite ?_
  split
  · exact Answers.refused s f (by nofun)
  · exact (Answers.refused s f (by nofun)).ite (((KeepsBounds.refl s).freeEntry _).answers f (by nofun))

theorem State.setHuntChannels_answers (s : State) (f : HostFrame) : Answers s f (s.setHuntChannels f) := by
  unfold State.setHuntChannels
  split
  · refine (Answers.refused s f (by nofun)).ite (((KeepsBounds.refl s).setScan_of_bounds (fun _ => ?_) (by exact id)).answers f (by exact ok_or_adjusted_ne_busy _))
    exact (List.length_take_le _ _)
  · exact Answers.refused s f (by nofun)

/-- R135, R136: the group list replaced. -/
theorem KeepsBounds.replaceGroups {b s : State} (h : KeepsBounds b s) (pairs : List GroupPair) :
    KeepsBounds b (s.replaceGroups pairs) := by
  have hset : KeepsBounds b (s.setGroupList ((pairs.take maxGroups).map GroupPair.toGroup)) :=
    h.setGroups fun _ => by simp
  exact (hset.abandonWork.beginExchange _).ite hset.abandonWork

theorem State.groupPart_answers (s : State) (f : HostFrame) (part : Nat) (final : Bool) (pairs : List GroupPair) :
    Answers s f (s.groupPart f part final pairs) := by
  have hassembly (a : Option Assembly) : KeepsBounds s (s.setAssembly a) := (KeepsBounds.refl s).setHost (by rfl)
  unfold State.groupPart
  split
  · exact (hassembly _).answers f (by nofun)
  · exact (((hassembly _).replaceGroups _).answers f (by exact ok_or_adjusted_ne_busy _)).ite
      (((hassembly _).answers f (by nofun)).ite ((hassembly _).answers f (by nofun)))

theorem State.setGroupsCommand_answers (s : State) (f : HostFrame) : Answers s f (s.setGroupsCommand f) := by
  unfold State.setGroupsCommand
  split
  · split
    · exact (Answers.refused s f (by nofun)).ite (s.groupPart_answers f _ _ _)
    · exact Answers.refused s f (by nofun)
  · exact Answers.refused s f (by nofun)

theorem State.startCommand_answers (s : State) (f : HostFrame) : Answers s f (s.startCommand f) :=
  (Answers.refused s f (by nofun)).ite ((Answers.refused s f (by nofun)).ite ((Answers.refused s f (by nofun)).ite
    ((KeepsBounds.refl s).startEngine.answers f (by nofun))))

theorem State.stopCommand_answers (s : State) (f : HostFrame) : Answers s f (s.stopCommand f) :=
  (Answers.refused s f (by nofun)).ite ((Answers.refused s f (by nofun)).ite ((KeepsBounds.refl s).stopEngine.answers f (by nofun)))

theorem KeepsBounds.callActs {b s : State} (h : KeepsBounds b s) : KeepsBounds b s.callActs :=
  h.abandonVisit.ite (h.endListen.ite h)

theorem State.callStateCommand_answers (s : State) (f : HostFrame) : Answers s f (s.callStateCommand f) := by
  unfold State.callStateCommand
  split
  · exact (Answers.refused s f (by nofun)).ite ((KeepsBounds.refl s).setCall.callActs.answers f (by nofun))
  · exact Answers.refused s f (by nofun)

theorem State.roamHoldCommand_answers (s : State) (f : HostFrame) : Answers s f (s.roamHoldCommand f) := by
  unfold State.roamHoldCommand
  split
  · exact (Answers.refused s f (by nofun)).ite ((KeepsBounds.refl s).setRoam.answers f (by nofun))
  · exact Answers.refused s f (by nofun)

theorem State.roamToCommand_answers (s : State) (f : HostFrame) : Answers s f (s.roamToCommand f) := by
  unfold State.roamToCommand
  refine (Answers.refused s f (by nofun)).ite ((Answers.refused s f (by nofun)).ite ?_)
  split
  · exact Answers.refused s f (by nofun)
  · exact (Answers.refused s f (by nofun)).ite ((Answers.refused s f (by nofun)).ite
      (((KeepsBounds.refl s).startRegistration _ _ _ _).answers f (by nofun)))

theorem State.roamAbortCommand_answers (s : State) (f : HostFrame) : Answers s f (s.roamAbortCommand f) := by
  have haborted : Answers s f ((s.failRoam .aborted none).reply f .ok) := ((KeepsBounds.refl s).failRoam _ _).answers f (by nofun)
  unfold State.roamAbortCommand
  refine (Answers.refused s f (by nofun)).ite ?_
  split
  · exact haborted
  · exact haborted
  · exact haborted.ite (Answers.refused s f (by nofun))
  all_goals exact Answers.refused s f (by nofun)

theorem State.querySite_answers (s : State) (f : HostFrame) : Answers s f (s.querySite f) :=
  (Answers.refused s f (by nofun)).ite ((KeepsBounds.refl s).answers f (by nofun))

theorem State.queryStatus_answers (s : State) (f : HostFrame) : Answers s f (s.queryStatus f) :=
  (Answers.refused s f (by nofun)).ite ((KeepsBounds.refl s).answers f (by nofun))

/-- R151: RECALL CLEAR leaves the recall list. -/
theorem RecallArea.clear_list (a : RecallArea) : a.clear.list = a.list := by
  unfold RecallArea.clear
  split <;> rfl

theorem State.recallClear_answers (s : State) (f : HostFrame) : Answers s f (s.recallClear f) :=
  (Answers.refused s f (by nofun)).ite (((KeepsBounds.refl s).setRecallArea (RecallArea.clear_list _)).answers f (by nofun))

theorem State.resetCommand_answers (s : State) (f : HostFrame) : Answers s f (s.resetCommand f) :=
  (Answers.refused s f (by nofun)).ite (((KeepsBounds.refl s).setHost (by rfl)).answers f (by nofun))

/-- R157: the taking of a command and its reply. -/
theorem State.takeCommand_keeps (s : State) (mine : Byte → Bool) {handle : State → HostFrame → State}
    (hhandle : ∀ u f, Answers u f (handle u f)) : RowKeeps s (s.takeCommand mine handle) := by
  obtain ⟨f, rest, hmay, hq, -, heq⟩ | heq := takeCommand_cases s mine handle
  · obtain ⟨u, code, result, hkeeps, hcode, hreply⟩ := hhandle (s.setHost (s.host.taken rest)) f
    rw [heq, hreply]
    have htaken : KeepsBounds s (s.setHost (s.host.taken rest)) :=
      (KeepsBounds.refl s).setHost_of_transmit (fun h1 h2 => ⟨h1, h2⟩) (fun hbound => by
        rw [hq, List.length_cons] at hbound
        exact (Nat.le_succ _).trans hbound) (by rfl)
    have hfew : repliesWaiting s.host.transmit < 3 := by
      simp only [State.mayTake, Bool.and_eq_true, decide_eq_true_eq] at hmay
      exact hmay.2
    refine (htaken.trans hkeeps).row.trans (State.reply_keeps_of_few (lt_of_le_of_lt ?_ hfew) f hcode result)
    simp only [repliesWaiting, List.countP_eq_length_filter]
    exact hkeeps.replies.length_le
  · rw [heq]
    exact (KeepsBounds.refl s).row

/-! ## The recall writer, power and the transmit line -/

theorem RecallArea.nextWork_list (a : RecallArea) : a.nextWork.list = a.list := by
  unfold RecallArea.nextWork
  repeat' split
  · rfl
  · exact RecallArea.startRequest_list _ _
  · rfl

theorem RecallArea.finishWrite_list (a : RecallArea) (k : Nat) (site : Site) : (a.finishWrite k site).list = a.list :=
  RecallArea.nextWork_list _

theorem RecallArea.interrupt_list (a : RecallArea) (k : Nat) : (a.interrupt k).list = a.list := by
  unfold RecallArea.interrupt
  split <;> rfl

/-- R152: the recall list a page gives holds at most 4 items. -/
theorem buildRecallList_length (m : List Host.Cell) (n : Nat) {list : List Site} (h : list.length ≤ 4) :
    (buildRecallList m n list).length ≤ 4 := by
  induction n generalizing list with
  | zero => exact h
  | succ n ih =>
    unfold buildRecallList
    split
    · exact h
    · next hshort =>
      split
      · split
        · exact ih h
        · exact ih (by rw [List.length_append, List.length_singleton]; omega)
      · exact ih h

theorem RecallArea.powerOn_length (a : RecallArea) : a.powerOn.list.length ≤ 4 := by
  unfold RecallArea.powerOn
  split
  · exact Nat.zero_le _
  · exact buildRecallList_length _ _ (Nat.zero_le _)

theorem RecallArea.softReset_length (a : RecallArea) : a.softReset.list.length ≤ 4 := by
  unfold RecallArea.softReset
  split
  · exact Nat.zero_le _
  · exact a.powerOn_length
  · exact a.powerOn_length

namespace KeepsBounds

variable {b s : State}

theorem recallWriteComplete (h : KeepsBounds b s) : KeepsBounds b s.recallWriteComplete := by
  unfold State.recallWriteComplete
  split
  · exact (h.setRecallArea (RecallArea.finishWrite_list _ _ _)).nextFree
  · exact h

theorem recallEraseComplete (h : KeepsBounds b s) : KeepsBounds b s.recallEraseComplete := by
  unfold State.recallEraseComplete
  split
  · exact h.setRecallArea (RecallArea.nextWork_list _)
  · exact h

theorem powerDown (h : KeepsBounds b s) (supply : Supply) : KeepsBounds b (s.powerDown supply) :=
  (h.setRecallArea (RecallArea.interrupt_list _ _)).setPins.nextFree

theorem rstnLow (h : KeepsBounds b s) : KeepsBounds b s.rstnLow := (h.powerDown _).ite h

theorem powerLoss (h : KeepsBounds b s) : KeepsBounds b s.powerLoss := h.ite (h.powerDown _)

/-- R159: the record sent leaves the transmit queue. -/
theorem dequeue (h : KeepsBounds b s) {r : HostFrame} {rest : List HostFrame} (hq : s.host.transmit = r :: rest) :
    KeepsBounds b (s.setHost { s.host with transmit := rest }) := by
  refine h.setHost_of_bounds (fun h1 h2 => ⟨h1, h2⟩) id (fun hbound => ?_) ?_ (.refl _) (.refl _)
  · rw [hq, eventsWaiting] at hbound
    exact ((List.sublist_cons_self r rest).countP_le).trans hbound
  · rw [hq]
    exact (List.sublist_cons_self r rest).filter _

end KeepsBounds

/-! ## Resets -/

/-- The reset values meet every bound, with any recall list of at most 4 items. -/
theorem State.takeResetValues_bounds (s : State) {area : RecallArea} (harea : area.list.length ≤ 4) (cause : EngineCause) :
    (s.takeResetValues area cause).countersBounded ∧ (s.takeResetValues area cause).sizesSound
      ∧ (s.takeResetValues area cause).queuesBounded := by
  obtain ⟨-, ⟨hframes, hcommands, -⟩, -, ⟨htable, hserving, hwatch, hactive, hpending, -, hrest⟩, -, hcounters⟩ :=
    Proofs.resetMeetsTheInvariants
  have hone (p : HostFrame → Bool) : (s.takeResetValues area cause).host.transmit.countP p ≤ 1 := List.countP_le_length
  exact ⟨hcounters, ⟨htable, hserving, hwatch, hactive, hpending, harea, hrest⟩, hframes, hcommands,
    (hone _).trans (by decide), (hone _).trans (by decide), hone _⟩

/-- R164: whether a reset takes place or not at a row at which one can. -/
theorem State.recordSent_cases (s : State) :
    KeepsBounds s s.recordSent
      ∨ ∃ area cause, area.list.length ≤ 4 ∧ s.recordSent = s.takeResetValues area cause := by
  unfold State.recordSent
  split
  · next hq =>
    split
    · exact .inr ⟨_, .softReset, s.recallArea.softReset_length, rfl⟩
    · exact .inl ((KeepsBounds.refl s).dequeue hq)
  · exact .inl (KeepsBounds.refl s)

theorem State.softResetDue_cases (s : State) :
    s.softResetDue = s ∨ ∃ area cause, area.list.length ≤ 4 ∧ s.softResetDue = s.takeResetValues area cause := by
  unfold State.softResetDue
  split
  · split
    · exact .inr ⟨_, .softReset, s.recallArea.softReset_length, rfl⟩
    · exact .inl rfl
  · exact .inl rfl

theorem State.powerOn_cases (s : State) :
    s.powerOn = s ∨ ∃ area cause, area.list.length ≤ 4 ∧ s.powerOn = s.takeResetValues area cause := by
  unfold State.powerOn
  split
  · exact .inl rfl
  · exact .inr ⟨_, .powerOn, s.recallArea.powerOn_length, rfl⟩

/-! ## Every row -/

/-- What an operation keeps, it keeps while the LN742 runs. -/
theorem whileRunning_keeps (s : State) {f : State → State} (h : ∀ u, RowKeeps u (f u)) : RowKeeps s (whileRunning f s) := by
  unfold whileRunning
  split
  · exact h s
  · exact (KeepsBounds.refl s).row

/-- R157: a command's row. -/
theorem takeKind_keeps (s : State) (kind : Byte) {handle : State → HostFrame → State}
    (hhandle : ∀ u f, Answers u f (handle u f)) : RowKeeps s (takeKind kind handle s) :=
  whileRunning_keeps s fun u => u.takeCommand_keeps _ hhandle

/-- R1, R29, R157, R159, R161, R163: what every row at which no reset can take place keeps. -/
theorem exec_keeps {c : Instr} {s t : State} (h : exec c s = .next t) (hreset : mayReset c = false) : RowKeeps s t := by
  have hnext {u : State} (heq : Host.Outcome.next (φ := Fault) (ρ := Refusal) u = .next t) (hu : RowKeeps s u) :
      RowKeeps s t := Host.Outcome.next.inj heq ▸ hu
  have hrefl (u : State) := KeepsBounds.refl u
  cases c with
  | frameRecordComplete bytes => exact hnext h (whileRunning_keeps s fun u => ((hrefl u).receiveFrontEnd bytes).row)
  | burstDone bytes => exact hnext h (whileRunning_keeps s fun u => ((hrefl u).receiveFrontEnd bytes).row)
  | recordTaken => exact hnext h (whileRunning_keeps s fun u => (hrefl u).takeRecord.row)
  | heardAgeLimit index => exact hnext h (whileRunning_keeps s fun u => ((hrefl u).heardAgeLimit index).row)
  | barEnd index => exact hnext h (whileRunning_keeps s fun u => ((hrefl u).barEnd index).row)
  | departureDecay => exact hnext h (whileRunning_keeps s fun u => (hrefl u).departureDecay.row)
  | digestAgeLimit index => exact hnext h (whileRunning_keeps s fun u => ((hrefl u).digestAgeLimit index).row)
  | servingReport => exact hnext h (whileRunning_keeps s fun u => (hrefl u).servingReport.row)
  | servingLossLimit => exact hnext h (whileRunning_keeps s fun u => (hrefl u).servingLossLimit.row)
  | huntListenReadLimit => exact hnext h (whileRunning_keeps s fun u => (hrefl u).huntListenReadLimit.row)
  | huntLimit => exact hnext h (whileRunning_keeps s fun u => (hrefl u).huntLimit.row)
  | readingUnreadable => exact hnext h (whileRunning_keeps s fun u => (hrefl u).readingUnreadable.row)
  | grantWaitTimeout => exact hnext h (whileRunning_keeps s fun u => (hrefl u).grantWaitTimeout.row)
  | tooLong => exact hnext h (whileRunning_keeps s fun u => (hrefl u).tooLong.row)
  | affilAckWaitTimeout => exact hnext h (whileRunning_keeps s fun u => (hrefl u).affilAckWaitTimeout.row)
  | silenceTimeout => exact hnext h (whileRunning_keeps s fun u => (hrefl u).silenceTimeout.row)
  | hostFrameComplete bytes => exact hnext h (whileRunning_keeps s fun u => hostReceive_keeps _ _ u)
  | interByteGapTimeout => exact hnext h (whileRunning_keeps s State.gapTimeout_keeps)
  | unknownKindCommand =>
    exact hnext h (whileRunning_keeps s fun u => u.takeCommand_keeps _ fun v f => Answers.refused v f nofun)
  | provision => exact hnext h (takeKind_keeps s _ State.provision_answers)
  | setParameters => exact hnext h (takeKind_keeps s _ State.setParameters_answers)
  | loadSite => exact hnext h (takeKind_keeps s _ State.loadSiteCommand_answers)
  | dropSite => exact hnext h (takeKind_keeps s _ State.dropSiteCommand_answers)
  | setHuntChannels => exact hnext h (takeKind_keeps s _ State.setHuntChannels_answers)
  | setGroups => exact hnext h (takeKind_keeps s _ State.setGroupsCommand_answers)
  | start => exact hnext h (takeKind_keeps s _ State.startCommand_answers)
  | stop => exact hnext h (takeKind_keeps s _ State.stopCommand_answers)
  | callState => exact hnext h (takeKind_keeps s _ State.callStateCommand_answers)
  | roamHold => exact hnext h (takeKind_keeps s _ State.roamHoldCommand_answers)
  | roamTo => exact hnext h (takeKind_keeps s _ State.roamToCommand_answers)
  | roamAbort => exact hnext h (takeKind_keeps s _ State.roamAbortCommand_answers)
  | querySite => exact hnext h (takeKind_keeps s _ State.querySite_answers)
  | queryStatus => exact hnext h (takeKind_keeps s _ State.queryStatus_answers)
  | recallClear => exact hnext h (takeKind_keeps s _ State.recallClear_answers)
  | reset => exact hnext h (takeKind_keeps s _ State.resetCommand_answers)
  | recordSent => cases hreset
  | softReset => cases hreset
  | rstnLow => exact hnext h (hrefl s).rstnLow.row
  | powerOn => cases hreset
  | recallWriteComplete => exact hnext h (whileRunning_keeps s fun u => (hrefl u).recallWriteComplete.row)
  | recallEraseComplete => exact hnext h (whileRunning_keeps s fun u => (hrefl u).recallEraseComplete.row)
  | powerLoss => exact hnext h (hrefl s).powerLoss.row
  | hostFrameLengthDiscard bytes => exact hnext h (whileRunning_keeps s fun u => hostReceive_keeps _ _ u)
  | frontEndLengthDiscard bytes => exact hnext h (whileRunning_keeps s fun u => ((hrefl u).receiveFrontEnd bytes).row)

/-- R164: what a row at which a reset can take place leads to. -/
theorem exec_of_mayReset {c : Instr} {s t : State} (h : exec c s = .next t) (hreset : mayReset c = true) :
    RowKeeps s t ∨ ∃ area cause, area.list.length ≤ 4 ∧ t = s.takeResetValues area cause := by
  have hkept {f : State → State}
      (hf : KeepsBounds s (f s) ∨ ∃ area cause, area.list.length ≤ 4 ∧ f s = s.takeResetValues area cause)
      (heq : Host.Outcome.next (φ := Fault) (ρ := Refusal) (whileRunning f s) = .next t) :
      RowKeeps s t ∨ ∃ area cause, area.list.length ≤ 4 ∧ t = s.takeResetValues area cause := by
    obtain rfl := Host.Outcome.next.inj heq
    unfold whileRunning
    split
    · exact hf.imp_left KeepsBounds.row
    · exact .inl (KeepsBounds.refl s).row
  have hstands {u : State} (heq : u = s) : KeepsBounds s u := heq ▸ KeepsBounds.refl s
  cases c
  case recordSent => exact hkept s.recordSent_cases h
  case softReset => exact hkept (s.softResetDue_cases.imp_left hstands) h
  case powerOn =>
    obtain rfl := Host.Outcome.next.inj h
    exact s.powerOn_cases.imp_left fun heq => (hstands heq).row
  all_goals cases hreset

/-- A list of counters that rise stays within 16 bits. -/
theorem forall₂_rises_bounded {l m : List Nat} (h : List.Forall₂ Rises l m) (hl : ∀ n ∈ l, n ≤ 65535) :
    List.Forall₂ (· ≤ ·) l m ∧ ∀ n ∈ m, n ≤ 65535 := by
  induction h with
  | nil => simp
  | cons hx _ ih =>
    rw [List.forall_mem_cons] at hl
    obtain ⟨hle, hbound⟩ := ih hl.2
    exact ⟨.cons (hx hl.1).1 hle, List.forall_mem_cons.2 ⟨(hx hl.1).2, hbound⟩⟩

end Sys2Proof.Machine
end

section
/-! PROOFS. The bounds of the queues, the sizes and the counters. -/

namespace Sys2Proof.Proofs

open Sys2Proof Sys2Proof.Machine

/-- Settles O8: every row but the three at which a reset can take place keeps the counters rising; a reset clears them. -/
theorem countersOnlyRiseUntilAReset : Obligations.CountersOnlyRiseUntilAReset := by
  intro c s t hbounded h
  have hrow (hkeeps : RowKeeps s t) := forall₂_rises_bounded hkeeps.counters hbounded
  cases hreset : mayReset c with
  | false =>
    obtain ⟨hle, hbound⟩ := hrow (exec_keeps h hreset)
    exact ⟨hbound, fun _ => hle⟩
  | true =>
    refine ⟨?_, by simp⟩
    obtain hkeeps | ⟨area, cause, harea, rfl⟩ := exec_of_mayReset h hreset
    · exact (hrow hkeeps).2
    · exact (s.takeResetValues_bounds harea cause).1

/-- Settles O4: every row keeps the sizes and the queues, or takes the reset values, which meet the bounds. -/
theorem everyStepKeepsTheQueuesBounded : Obligations.EveryStepKeepsTheQueuesBounded := by
  have hexec {c : Instr} {s t : State} (h : exec c s = .next t) :
      (s.sizesSound → t.sizesSound) ∧ (s.queuesBounded → t.queuesBounded) := by
    have hrow (hkeeps : RowKeeps s t) := And.intro hkeeps.sizes hkeeps.queues
    cases hreset : mayReset c with
    | false => exact hrow (exec_keeps h hreset)
    | true =>
      obtain hkeeps | ⟨area, cause, harea, rfl⟩ := exec_of_mayReset h hreset
      · exact hrow hkeeps
      · obtain ⟨-, hsizes, hqueues⟩ := s.takeResetValues_bounds harea cause
        exact ⟨fun _ => hsizes, fun _ => hqueues⟩
  have hstep {s t : State} (h : step s = .next t) :
      (s.sizesSound → t.sizesSound) ∧ (s.queuesBounded → t.queuesBounded) := by
    unfold step at h
    split at h
    · have hrun := hexec h
      exact hrun
    · cases h
      exact ⟨id, id⟩
  exact ⟨fun _ _ hbound h => (hstep h).2 hbound, fun _ _ hsizes h => (hstep h).1 hsizes⟩

end Sys2Proof.Proofs
end

section
/-! SUPPORT. The Front-End receiver (R24), the examination of its records (R25) and BURST DONE (R27, R117, R124). -/

namespace Sys2Proof.Machine

/-! ## The receiver (R24) -/

/-- The receiver with nothing received keeps nothing. -/
theorem State.setIntake_received {s : State} (h : s.intake.received = []) :
    s.setIntake { s.intake with received := [] } = s := by
  rw [← h]
  rfl

/-- R24: bytes without a lead byte are passed over. -/
theorem frontEndReceive_of_no_lead {bytes : List Byte} (h : 0xB5#8 ∉ bytes) (n : Nat) (s : State) :
    frontEndReceive (n + 1) bytes s = s.setIntake { s.intake with received := [] } := by
  have hdrop : bytes.dropWhile (· != 0xB5#8) = [] := by
    rw [List.dropWhile_eq_nil_iff]
    exact fun x hx => bne_iff_ne.2 fun heq => h (heq ▸ hx)
  rw [frontEndReceive, hdrop]

/-- R24: a lead byte with the byte behind it. -/
theorem frontEndReceive_lead (n : Nat) (length : Byte) (rest : List Byte) (s : State) :
    frontEndReceive (n + 1) (0xB5#8 :: length :: rest) s =
      if modemLengths.contains length.toNat = false then frontEndReceive n (length :: rest) s.countCheckError
      else if rest.length < length.toNat + 1 then
        s.setIntake { s.intake with received := 0xB5#8 :: length :: rest }
      else if crc8 (length :: rest.take length.toNat) = at8 rest length.toNat then
        frontEndReceive n (rest.drop (length.toNat + 1))
          (s.modemRecord (at8 (rest.take length.toNat) 0) ((rest.take length.toNat).drop 1))
      else frontEndReceive n (length :: rest) s.countCheckError := rfl

/-- R24: a record of a length that no modem record has is discarded, and hunting goes on at its length byte. -/
theorem frontEndReceive_bad_length {length : Byte} (h : length.toNat ∉ [3, 6, 10, 17, 20]) (n : Nat) (rest : List Byte)
    (s : State) :
    frontEndReceive (n + 1) (0xB5#8 :: length :: rest) s = frontEndReceive n (length :: rest) s.countCheckError := by
  have hlength : modemLengths.contains length.toNat = false := by simpa [modemLengths] using h
  rw [frontEndReceive_lead, if_pos hlength]

/-- R24: a length that a modem record has fits into its byte. -/
theorem toNat_byte_of_modem {n : Nat} (h : n ∈ [3, 6, 10, 17, 20]) : (byte n).toNat = n := by
  simp only [List.mem_cons, List.not_mem_nil, or_false] at h
  rw [byte, BitVec.toNat_ofNat]
  omega

/-- R24: a whole record of an allowed length is acted on, or discarded for its check with hunting at its length byte. -/
theorem frontEndReceive_whole {kind check : Byte} {body : List Byte} (h : body.length + 1 ∈ [3, 6, 10, 17, 20]) (n : Nat)
    (s : State) :
    frontEndReceive (n + 1) (0xB5#8 :: byte (body.length + 1) :: kind :: (body ++ [check])) s =
      if crc8 (byte (body.length + 1) :: kind :: body) = check then frontEndReceive n [] (s.modemRecord kind body)
      else frontEndReceive n (byte (body.length + 1) :: kind :: (body ++ [check])) s.countCheckError := by
  have hnat := toNat_byte_of_modem h
  have hlength : modemLengths.contains (body.length + 1) = true := by simpa [modemLengths] using h
  have htake : (kind :: (body ++ [check])).take (body.length + 1) = kind :: body := by simp
  have hdrop : (kind :: (body ++ [check])).drop (body.length + 1 + 1) = [] := by simp
  have hcheck : at8 (kind :: (body ++ [check])) (body.length + 1) = check := by simp [at8]
  have hwhole : ¬(kind :: (body ++ [check])).length < body.length + 1 + 1 := by simp
  rw [frontEndReceive_lead]
  simp only [hnat, hlength, htake, hdrop, hcheck, if_neg hwhole, Bool.true_eq_false, if_false]
  rfl

/-- R24, R25: what a record leads to leaves the bytes received. -/
theorem State.modemRecord_received (s : State) (kind : Byte) (body : List Byte) :
    (s.modemRecord kind body).intake.received = s.intake.received := by
  unfold State.modemRecord
  split <;> simp

/-- R24: a framed record of an allowed length is acted on, and nothing of it stays in the receiver. -/
theorem State.receiveFrontEnd_frame {s : State} (hr : s.intake.received = []) {body : List Byte}
    (hl : body.length + 1 ∈ [3, 6, 10, 17, 20]) (kind : Byte) :
    s.receiveFrontEnd (frontEndFrame kind body) = s.modemRecord kind body := by
  have hkept : (s.modemRecord kind body).intake.received = [] := by rw [s.modemRecord_received, hr]
  have hframe : frontEndFrame kind body =
      0xB5#8 :: byte (body.length + 1) :: kind :: (body ++ [crc8 (byte (body.length + 1) :: kind :: body)]) := rfl
  rw [State.receiveFrontEnd, hr, List.nil_append, hframe, frontEndReceive_whole hl, if_pos rfl, List.length_cons,
    frontEndReceive_of_no_lead (List.not_mem_nil), State.setIntake_received hkept]

/-- R24, R38: a check that does not match discards the record. -/
theorem State.receiveFrontEnd_bad_check {s : State} (hr : s.intake.received = []) {kind check : Byte} {body : List Byte}
    (hl : body.length + 1 ∈ [3, 6, 10, 17, 20]) (hcheck : crc8 (byte (body.length + 1) :: kind :: body) ≠ check)
    (hlead : 0xB5#8 ∉ kind :: (body ++ [check])) :
    s.receiveFrontEnd (0xB5#8 :: byte (body.length + 1) :: kind :: (body ++ [check])) = s.countCheckError := by
  have hkept : s.countCheckError.intake.received = [] := by simp [hr]
  have hnat := toNat_byte_of_modem hl
  have hno : 0xB5#8 ∉ byte (body.length + 1) :: kind :: (body ++ [check]) := by
    rw [List.mem_cons, not_or]
    refine ⟨fun heq => ?_, hlead⟩
    rw [← heq] at hnat
    rw [← hnat] at hl
    exact absurd hl (by decide)
  rw [State.receiveFrontEnd, hr, List.nil_append, frontEndReceive_whole hl, if_neg hcheck, List.length_cons,
    frontEndReceive_of_no_lead hno, State.setIntake_received hkept]

/-- R24, R38: a bad length behind a lead byte: the length byte may be a lead byte itself. -/
theorem State.receiveFrontEnd_bad_length {s : State} (hr : s.intake.received = []) {length : Byte}
    (hl : length.toNat ∉ [3, 6, 10, 17, 20]) :
    s.receiveFrontEnd [0xB5#8, length] =
      s.countCheckError.setIntake
        { s.countCheckError.intake with received := if length = 0xB5#8 then [0xB5#8] else [] } := by
  rw [State.receiveFrontEnd, hr, List.nil_append, frontEndReceive_bad_length hl]
  split
  · next heq =>
    rw [heq]
    rfl
  · next hne => exact frontEndReceive_of_no_lead (by simpa using Ne.symm hne) _ _

/-! ## The examination (R25) -/

/-- 12.1: the channel of a FRAME body. -/
theorem at16_eq (body : List Byte) (i : Nat) : at16 body i = 256 * (at8 body i).toNat + (at8 body (i + 1)).toNat := by
  simp [at16, natOfBytes, Nat.mul_comm]

/-- R25, 12.1: what a FRAME body that passes its examination meets. -/
theorem examineFrame_passes {body : List Byte} {f : Frame} (h : examineFrame body = some f) :
    body.length = frameBodyLength body ∧ at16 body 1 ≤ 1023 ∧ bits (at8 body 3) 6 2 ≠ 3
      ∧ (flag (at8 body 0) 4 = true ↔ bits (at8 body 3) 6 2 ≠ 0)
      ∧ (flag (at8 body 0) 6 = true ↔ bits (at8 body 3) 6 2 = 1)
      ∧ (flag (at8 body 0) 7 = true → bits (at8 body 3) 6 2 = 1) := by
  unfold examineFrame at h
  dsimp only at h
  split at h
  · next hpass => exact hpass
  · cases h

/-- R25, 12.1: a FRAME body that passes its examination has one of the lengths of a modem record: a control block comes with
frame check PASS, and so with a site fragment. -/
theorem examineFrame_length {body : List Byte} {f : Frame} (h : examineFrame body = some f) :
    body.length + 1 ∈ [3, 6, 10, 17, 20] := by
  obtain ⟨hlength, -, -, -, hfragment, hblock⟩ := examineFrame_passes h
  rw [hlength, frameBodyLength]
  cases hb : flag (at8 body 0) 7 with
  | false => cases flag (at8 body 0) 6 <;> simp
  | true =>
    simp only [hfragment.2 (hblock hb), if_true]
    split <;> simp

/-- R25: the examination of a FRAME body of fewer than five bytes fails, since it is shorter than any its parts call for. -/
theorem five_le_frameBodyLength (body : List Byte) : 5 ≤ frameBodyLength body := by
  unfold frameBodyLength
  dsimp only
  repeat' split
  all_goals omega

/-- R25, 12.1: what fails the examination of a FRAME body, byte by byte. -/
def frameFails (b0 ch cl b3 : Byte) (rest : List Byte) : Prop :=
  1023 < 256 * ch.toNat + cl.toNat
    ∨ b3.toNat / 64 = 3
    ∨ (b0.getLsbD 4 = true ∧ b3.toNat / 64 = 0)
    ∨ (b0.getLsbD 4 = false ∧ b3.toNat / 64 ≠ 0)
    ∨ (b0.getLsbD 6 = true ∧ b3.toNat / 64 ≠ 1)
    ∨ (b0.getLsbD 6 = false ∧ b3.toNat / 64 = 1)
    ∨ (b0.getLsbD 7 = true ∧ b3.toNat / 64 ≠ 1)
    ∨ rest.length ≠
        (if b0.getLsbD 6 = true then 4 else 0)
          + (if b0.getLsbD 7 = true then
              (if (rest.getD (if b0.getLsbD 6 = true then 4 else 0) 0#8).toNat / 64 = 2 then 7 else 10)
            else 0)

/-- Two bits of a byte from bit 6 on. -/
theorem bits_top (b : Byte) : bits b 6 2 = b.toNat / 64 := by
  have hlt := b.isLt
  simp only [bits]
  omega

theorem frameBodyLength_cons (b0 ch cl b3 level : Byte) (rest : List Byte) :
    frameBodyLength (b0 :: ch :: cl :: b3 :: level :: rest) =
      5 + ((if b0.getLsbD 6 = true then 4 else 0)
          + (if b0.getLsbD 7 = true then
              (if (rest.getD (if b0.getLsbD 6 = true then 4 else 0) 0#8).toNat / 64 = 2 then 7 else 10)
            else 0)) := by
  simp only [frameBodyLength, flag, bits_top, at8, List.getD_cons_zero]
  cases b0.getLsbD 6 <;> cases b0.getLsbD 7 <;> simp
  all_goals omega

/-- A body of at least five bytes, by its first five. -/
theorem exists_cons_of_five_le {body : List Byte} (h : 5 ≤ body.length) :
    ∃ b0 ch cl b3 level rest, body = b0 :: ch :: cl :: b3 :: level :: rest := by
  obtain ⟨b0, l, rfl⟩ := List.exists_cons_of_length_pos (l := body) (by omega)
  obtain ⟨ch, l, rfl⟩ := List.exists_cons_of_length_pos (l := l) (by simp at h; omega)
  obtain ⟨cl, l, rfl⟩ := List.exists_cons_of_length_pos (l := l) (by simp at h; omega)
  obtain ⟨b3, l, rfl⟩ := List.exists_cons_of_length_pos (l := l) (by simp at h; omega)
  obtain ⟨level, l, rfl⟩ := List.exists_cons_of_length_pos (l := l) (by simp at h; omega)
  exact ⟨b0, ch, cl, b3, level, l, rfl⟩

theorem examineFrame_eq_none {body : List Byte}
    (h : ∀ b0 ch cl b3 level rest, body = b0 :: ch :: cl :: b3 :: level :: rest → frameFails b0 ch cl b3 rest) :
    examineFrame body = none := by
  cases hexamined : examineFrame body with
  | none => rfl
  | some f =>
  obtain ⟨hlength, hchannel, hthree, hsync, hfragment, hblock⟩ := examineFrame_passes hexamined
  obtain ⟨b0, ch, cl, b3, level, rest, rfl⟩ := exists_cons_of_five_le (hlength ▸ five_le_frameBodyLength body)
  have hfails := h b0 ch cl b3 level rest rfl
  rw [frameBodyLength_cons] at hlength
  rw [at16_eq] at hchannel
  simp only [flag, bits_top, at8, List.getD_cons_zero, List.getD_cons_succ, List.length_cons] at *
  obtain hf | hf | ⟨hbit, hf⟩ | ⟨hbit, hf⟩ | ⟨hbit, hf⟩ | ⟨hbit, hf⟩ | ⟨hbit, hf⟩ | hf := hfails
  · omega
  · exact absurd hf hthree
  · exact absurd hf (hsync.1 hbit)
  · exact absurd (hbit.symm.trans (hsync.2 hf)) Bool.false_ne_true
  · exact absurd (hfragment.1 hbit) hf
  · exact absurd (hbit.symm.trans (hfragment.2 hf)) Bool.false_ne_true
  · exact absurd (hblock hbit) hf
  · omega

/-- R25, 12.1: a BURST DONE body of other than two bytes, or of another outcome than SENT and MISSED, fails. -/
theorem examineBurstDone_eq_none {body : List Byte}
    (h : ∀ position outcome : Byte, body = [position, outcome] → outcome ≠ 1#8 ∧ outcome ≠ 2#8) :
    examineBurstDone body = none := by
  unfold examineBurstDone
  refine if_neg fun hpass => ?_
  obtain ⟨hlength, houtcome⟩ := hpass
  obtain ⟨position, outcome, rfl⟩ := List.length_eq_two.1 hlength
  obtain ⟨hsent, hmissed⟩ := h position outcome rfl
  obtain hone | htwo := houtcome
  · exact hsent (BitVec.eq_of_toNat_eq hone)
  · exact hmissed (BitVec.eq_of_toNat_eq htwo)

/-! ## BURST DONE (R27, R117, R124) -/

/-- R27, 12.1: a BURST DONE record names a position and an outcome. -/
theorem examineBurstDone_eq {p : Nat} (hp : p < 16) {outcome : Byte} (h : outcome = 1#8 ∨ outcome = 2#8) :
    examineBurstDone [BitVec.ofNat 8 p, outcome] = some (p, decide (outcome = 2#8)) := by
  have hposition : bits (BitVec.ofNat 8 p) 0 4 = p := by
    simp only [bits, BitVec.toNat_ofNat]
    omega
  obtain rfl | rfl := h <;> simp [examineBurstDone, at8, hposition]

/-- R27: the receiver hands a BURST DONE record to the Access Unit. -/
theorem exec_burstDone {s : State} (hs : s.pins.supply = .running) (hr : s.intake.received = []) {p : Nat} (hp : p < 16)
    {outcome : Byte} (h : outcome = 1#8 ∨ outcome = 2#8) :
    exec (.burstDone (frontEndFrame 0x02#8 [BitVec.ofNat 8 p, outcome])) s =
      .next (s.burstDone p (decide (outcome = 2#8))) := by
  have hrecord : s.modemRecord 0x02#8 [BitVec.ofNat 8 p, outcome] = s.burstDone p (decide (outcome = 2#8)) := by
    have hexamined : examine 0x02#8 [BitVec.ofNat 8 p, outcome] = some (.burstDone p (decide (outcome = 2#8))) := by
      simp [examine, examineBurstDone_eq hp h]
    rw [State.modemRecord, hexamined]
  have hexec : exec (.burstDone (frontEndFrame 0x02#8 [BitVec.ofNat 8 p, outcome])) s =
      .next (whileRunning (fun t => t.receiveFrontEnd (frontEndFrame 0x02#8 [BitVec.ofNat 8 p, outcome])) s) := rfl
  rw [hexec, whileRunning_of_running hs, State.receiveFrontEnd_frame hr (by simp), hrecord]

/-- R117: no burst is outstanding for the position. -/
theorem State.burstDone_of_other {s : State} {p : Nat} (h : ∀ b, s.access.outstanding = some b → b.position ≠ p)
    (missed : Bool) : s.burstDone p missed = s := by
  unfold State.burstDone
  split
  · next b hb => exact if_neg (h b hb)
  · rfl

/-- R117, R124: the burst outstanding has been sent. -/
theorem State.burstDone_sent {s : State} {b : Burst} (h : s.access.outstanding = some b) :
    s.burstDone b.position false =
      if s.access.state = .continuing then s.setAccess { s.access with outstanding := none } else s := by
  simp [State.burstDone, h]

/-- R137: the entries that a burst carried return, in the terms of the statements. -/
theorem State.returnCarried_eq (s : State) (carried : List Nat) :
    s.returnCarried carried = s.setGroups (s.groupsReturned carried) := by
  have hentry (i : Nat) (g : Group) : (if carried.contains i then g.returned else g) =
      if i ∈ carried ∧ g.delivery = .sent then { g with delivery := .unsent } else g := by
    by_cases hi : i ∈ carried <;> by_cases hg : g.delivery = .sent <;> simp [hi, hg, Group.returned]
  simp only [State.returnCarried, State.setGroupList, State.groupsReturned, hentry]

/-- R115: a draw with a seeded generator under known access parameters. -/
theorem State.draw_seeded {s : State} {g : BitVec 16} {w : AccessParams} (hg : s.access.generator = some g)
    (hw : s.access.params = some w) :
    s.draw =
      s.setAccess
        { s.access with generator := some (generatorStep g), backoff := (generatorStep g).toNat % w.window + 1 } := by
  simp [State.draw, State.window, hg, hw]

/-- R117, R124, R137: the burst outstanding has been missed. -/
theorem State.burstDone_missed {s : State} {b : Burst} {g : BitVec 16} {w : AccessParams}
    (h : s.access.outstanding = some b) (hg : s.access.generator = some g) (hw : s.access.params = some w) :
    s.burstDone b.position true =
      (s.setGroups (s.groupsReturned b.carried)).setAccess
        (if s.access.state = .continuing then
          { s.access with outstanding := none, missedSlots := min (s.access.missedSlots + 1) 65535 }
        else
          { s.access with
            outstanding := none
            missedSlots := min (s.access.missedSlots + 1) 65535
            attempts := s.access.attempts - 1
            generator := some (generatorStep g)
            backoff := (generatorStep g).toNat % w.window + 1 }) := by
  have hlost : s.burstLost b = (s.setGroups (s.groupsReturned b.carried)).setAccess { s.access with outstanding := none } := by
    rw [State.burstLost, State.returnCarried_eq]
    rfl
  have hdone : s.burstDone b.position true = s.burstMissed b := by simp [State.burstDone, h]
  rw [hdone, State.burstMissed, hlost]
  split
  · rfl
  · exact State.draw_seeded hg hw

end Sys2Proof.Machine
end

section
/-! PROOFS. The Front-End Link and the intake queue. -/

namespace Sys2Proof.Proofs

open Sys2Proof Sys2Proof.Machine

/-- Settles O9: a framed FRAME record has an allowed length, and its placing has the three cases of R29. -/
theorem frameRecordIsPlaced : Obligations.FrameRecordIsPlaced := by
  intro s body f hs hr hf
  have hrecord : s.modemRecord 0x01#8 body = s.placeFrame f := by
    have hexamined : examine 0x01#8 body = some (.frame f) := by simp [examine, hf]
    rw [State.modemRecord, hexamined]
  have hexec : exec (.frameRecordComplete (frontEndFrame 0x01#8 body)) s =
      .next (whileRunning (fun t => t.receiveFrontEnd (frontEndFrame 0x01#8 body)) s) := rfl
  rw [hexec, whileRunning_of_running hs, State.receiveFrontEnd_frame hr (examineFrame_length hf), hrecord]
  cases hheld : s.intake.held with
  | some held => simp [State.placeFrame, hheld, sat16]
  | none =>
    by_cases hroom : s.intake.queue.length < 4 <;> simp [State.placeFrame, hheld, hroom]

/-- Settles O10: the three ways in which the receiver discards a record. -/
theorem frontEndLengthDiscardIsCounted : Obligations.FrontEndLengthDiscardIsCounted := by
  intro s hs hr discarded
  have hdiscarded : discarded [] = s.countCheckError := by
    simp only [discarded, State.countCheckError, sat16, ← hr]
  refine ⟨fun length hl => ?_, fun kind check body hl hcheck hlead => ?_, fun kind body hl hfails => ?_⟩
  · refine congrArg Host.Outcome.next ((whileRunning_of_running hs).trans ?_)
    exact State.receiveFrontEnd_bad_length hr hl
  · refine congrArg Host.Outcome.next ((whileRunning_of_running hs).trans ?_)
    rw [hdiscarded]
    exact State.receiveFrontEnd_bad_check hr hl hcheck hlead
  · have hexamined : examine kind body = none := by
      unfold examine
      obtain ⟨h1, h2⟩ | ⟨rfl, h⟩ | ⟨rfl, h⟩ := hfails
      · rw [if_neg h1, if_neg h2]
      · simp [examineBurstDone_eq_none h]
      · simp [examineFrame_eq_none h]
    refine congrArg Host.Outcome.next ((whileRunning_of_running hs).trans ?_)
    rw [hdiscarded, State.receiveFrontEnd_frame hr hl, State.modemRecord, hexamined]

/-- Settles O11: BURST DONE for another position, SENT, and MISSED. -/
theorem burstDoneActsOnTheOutstandingBurst : Obligations.BurstDoneActsOnTheOutstandingBurst := by
  intro s p hs hr hp
  refine ⟨fun outcome houtcome hother => ?_, fun b hb hposition => ⟨?_, fun g w hg hw => ?_⟩⟩
  · rw [exec_burstDone hs hr hp houtcome, State.burstDone_of_other hother]
  · rw [exec_burstDone hs hr hp (.inl rfl), ← hposition]
    exact congrArg Host.Outcome.next (State.burstDone_sent hb)
  · rw [exec_burstDone hs hr hp (.inr rfl), ← hposition]
    exact congrArg Host.Outcome.next (State.burstDone_missed hb hg hw)

end Sys2Proof.Proofs
end


section
/-! SUPPORT. What a taken record leaves of the Frame Intake and the parameters (R30, R31, R32, R34, R162). -/

namespace Sys2Proof.Machine

/-! ## The Frame Intake -/

/-- R30: the taking moves nothing but the Frame Intake. -/
@[simp] theorem State.frameTaken_frame (s : State) (r : Frame) (rest : List Frame) :
    (s.frameTaken r rest).table = s.table ∧ (s.frameTaken r rest).scan = s.scan ∧ (s.frameTaken r rest).roam = s.roam
      ∧ (s.frameTaken r rest).access = s.access ∧ (s.frameTaken r rest).groups = s.groups
      ∧ (s.frameTaken r rest).host = s.host :=
  ⟨rfl, rfl, rfl, rfl, rfl, rfl⟩

/-- R31, R34, R77: the work up to the naming of a record leaves the queue, the receiver and the counters as the taking left them. -/
theorem State.recordNamed_intake (s : State) (r : Frame) (rest : List Frame) :
    let t := (s.recordNamed r rest).1.intake
    let u := (s.frameTaken r rest).intake
    t.queue = u.queue ∧ t.held = u.held ∧ t.counter = u.counter ∧ t.slips = u.slips ∧ t.lostFrames = u.lostFrames
      ∧ t.checkErrors = u.checkErrors ∧ t.received = u.received ∧ t.silenceRunning = u.silenceRunning := by
  by_cases h : (s.frameTaken r rest).atMultiframe <;> simp [State.recordNamed, h]

/-- R32: the counter after a record decides whether it is a multiframe start. -/
theorem State.frameTaken_atMultiframe (s : State) (r : Frame) (rest : List Frame) :
    (s.frameTaken r rest).atMultiframe
      = decide ((if s.servingSync r then r.position else (s.intake.counter + 1) % 16) = 0) :=
  beq_eq_decide _ _

/-! ## The serving loss counter -/

/-- R32, R34: the records of the serving channel with settling clear either carry the serving pair or miss it. -/
theorem State.servingMissed_of_not_sync {s : State} {r : Frame} {v : Nat} (hv : s.serving = some v)
    (h : s.servingSync r = false) :
    s.servingMissed r = decide (r.settling = false ∧ r.channel = (s.entry v).channel) := by
  have hcolour : r.settling = false → r.channel = (s.entry v).channel → r.sync ≠ some (s.entry v).colour := by
    simpa [State.servingSync, hv, Frame.carries, Entry.pair] using h
  rw [Bool.eq_iff_iff]
  simp only [State.servingMissed, hv, Bool.and_eq_true, Bool.not_eq_true', beq_iff_eq, bne_iff_ne, decide_eq_true_eq]
  exact ⟨fun h => h.1, fun h => ⟨h, hcolour h.1 h.2⟩⟩

/-- R34: in CAMPED a serving sync record sets the loss counter to 0. -/
theorem State.lossUpdate_of_sync {s : State} {r : Frame} (he : s.roam.engine = .camped) (h : s.servingSync r = true) :
    s.lossUpdate r = (s.setIntake { s.intake with loss := 0 }, false) := by
  simp [State.lossUpdate, he, h]

/-- R34: in CAMPED a record that is neither a serving sync record nor a missed one leaves the loss counter. -/
theorem State.lossUpdate_of_not_missed {s : State} {r : Frame} (h : s.servingSync r = false)
    (hm : s.servingMissed r = false) : s.lossUpdate r = (s, false) := by
  simp [State.lossUpdate, h, hm]

/-- R34: in CAMPED a missed record raises the loss counter or, at the loss limit, SERVING LOST. -/
theorem State.lossUpdate_of_missed {s : State} {r : Frame} (he : s.roam.engine = .camped) (h : s.servingSync r = false)
    (hm : s.servingMissed r = true) :
    s.lossUpdate r =
      if s.par .lossLimit ≤ s.intake.loss + 1 then
        (s.setIntake { s.intake with loss := 0, timing := .holdover }, true)
      else (s.setIntake { s.intake with loss := s.intake.loss + 1 }, false) := by
  simp only [State.lossUpdate, he, h, hm, if_true, Bool.false_eq_true, if_false]
  rfl

/-! ## The parameters -/

/-- R162: the parameters after an activation. -/
def State.withParamsActive (s : State) : State :=
  s.setHost
    { s.host with
      active := List.zipWith (fun a p => p.getD a) s.host.active s.host.pendingParams
      pendingParams := s.host.pendingParams.map fun _ => none }

/-- R68, R71, R73, R86, R162: the whole effect of an activation. -/
theorem State.activate_eq (s : State) :
    s.activate =
      { s.withParamsActive with
        table :=
          { s.table with
            entries := s.table.entries.map fun e => { e with dwell := min e.dwell (s.withParamsActive.par .dwellLimit) } }
        ranking :=
          { s.ranking with
            weakCount := min s.ranking.weakCount (s.withParamsActive.par .weakCountLimit)
            reportCount := if s.withParamsActive.par .reportInterval = 0 then 0 else s.ranking.reportCount }
        frontEnd :=
          if s.roam.engine = .direct ∧ s.scan.hunt = none ∧ s.scan.listen = none
              ∧ s.withParamsActive.par .directChannel ≠ s.par .directChannel then
            s.frontEnd ++ [FrontEndRecord.tune (s.withParamsActive.par .directChannel)]
          else s.frontEnd } := by
  have hunfold : s.activate =
      let u :=
        { s.withParamsActive with
          table :=
            { s.table with
              entries := s.table.entries.map fun e => { e with dwell := min e.dwell (s.withParamsActive.par .dwellLimit) } }
          ranking :=
            { s.ranking with
              weakCount := min s.ranking.weakCount (s.withParamsActive.par .weakCountLimit)
              reportCount := if s.withParamsActive.par .reportInterval = 0 then 0 else s.ranking.reportCount } }
      if s.roam.engine = .direct ∧ s.scan.hunt = none ∧ s.scan.listen = none
          ∧ s.withParamsActive.par .directChannel ≠ s.par .directChannel then
        u.tune (s.withParamsActive.par .directChannel)
      else u := rfl
  rw [hunfold]
  dsimp only
  split <;> rfl

/-- R162: an activation makes every pending value active. -/
theorem State.activate_params (s : State) :
    s.activate.host.active = List.zipWith (fun a p => p.getD a) s.host.active s.host.pendingParams
      ∧ s.activate.host.pendingParams = s.host.pendingParams.map fun _ => none := by
  rw [State.activate_eq]
  exact ⟨rfl, rfl⟩

/-- R31, R162: of a taken record's work only the activation touches the parameters. -/
theorem State.recordNamed_params (s : State) (r : Frame) (rest : List Frame) :
    let t := (s.recordNamed r rest).1.host
    let u := (if (s.frameTaken r rest).atMultiframe then (s.frameTaken r rest).activate else s.frameTaken r rest).host
    t.active = u.active ∧ t.pendingParams = u.pendingParams := by
  by_cases h : (s.frameTaken r rest).atMultiframe <;> simp [State.recordNamed, h]

/-! ## A settling record -/

/-- R111: what the Access Unit is given of a settling record: whether it is a multiframe start. -/
def AccessInput.uncarried (multiframe : Bool) : AccessInput :=
  { echo := none, grant := none, ack := false, beacon := none, sync := false, multiframe := multiframe }

section

variable {r : Frame} (hset : r.settling = true)

include hset

/-- R19, R32, R109: a settling record carries no pair. -/
theorem Frame.carries_of_settling (p : Pair) : r.carries p = false := by
  simp [Frame.carries, hset]

/-- R32: it is no serving sync record. -/
theorem State.servingSync_of_settling (s : State) : s.servingSync r = false := by
  unfold State.servingSync
  split
  · exact Frame.carries_of_settling hset _
  · rfl

/-- R109: nor a site sync record of the target. -/
theorem State.accessSync_of_settling (s : State) : s.accessSync r = false := by
  have htarget : s.targetSync r = false := by
    unfold State.targetSync
    split
    · rw [Frame.carries_of_settling hset, Bool.and_false]
    · exact Bool.and_false _
  simp [State.accessSync, htarget, State.servingSync_of_settling hset]

/-- R34: the loss counter stands at it. -/
theorem State.lossUpdate_of_settling (s : State) : s.lossUpdate r = (s, false) := by
  have hmissed : s.servingMissed r = false := by
    unfold State.servingMissed
    split
    · simp [hset]
    · rfl
  exact State.lossUpdate_of_not_missed (State.servingSync_of_settling hset s) hmissed

/-- R84: it finds no site. -/
theorem State.listenIfFound_of_settling (s : State) : s.listenIfFound r = s := by
  unfold State.listenIfFound
  split
  · next h _ =>
    have hfinds : h.finds r = none := by simp [HuntVisit.finds, hset]
    rw [hfinds]
  · rfl

/-- R43: it brings no fragment. -/
theorem State.beaconRecord_of_settling (s : State) : s.beaconRecord r = (s, BeaconReport.nothing) := by
  unfold State.beaconRecord
  split
  · rw [if_pos (.inl hset)]
  · rfl

/-- R129: nor a control block. -/
theorem State.filterRecord_of_settling (s : State) : s.filterRecord r = (s, FilterOutput.nothing) := by
  have hread : s.readRecord r = none := by
    unfold State.readRecord
    split
    · rw [if_pos (.inl hset)]
    · rfl
  simp only [State.filterRecord, hread]

/-- R58, R73: the Ranking Unit has nothing of it but, in CAMPED, the report counter's multiframe start. -/
theorem State.rankRecord_of_settling {s : State} (role : Role) {multiframe : Bool}
    (h : multiframe = true → s.roam.engine ≠ .camped) : s.rankRecord r role multiframe = (s, []) := by
  have hplain : s.rankRecord r role false = (s, []) := by
    have hsamples : givesSamples r role = false := by simp [givesSamples, hset]
    rw [State.rankRecord_without_samples hsamples, State.heardNotice_of_settling hset]
  cases multiframe with
  | false => exact hplain
  | true => rw [State.rankRecord_multiframe, if_neg (h rfl), hplain]

/-- R36: the hunt timer, the Access Unit and the Scan Sequencer alone count it. -/
theorem State.blocksHandle_of_settling {s : State} (base : State) (role : Role) {multiframe : Bool}
    (h : multiframe = true → s.roam.engine ≠ .camped) :
    s.blocksHandle base r role multiframe false =
      (((s.huntWork base.roam.huntRuns multiframe).accessRecord r base.roam.engine
        (AccessInput.uncarried multiframe)).scanRecord base.roam.engine base.scan.listen.isSome multiframe).nextFree := by
  have hranked : s.rankRecord r role multiframe = (s, []) := State.rankRecord_of_settling hset role h
  obtain ⟨u, late, -, hnot, hblocks⟩ := s.blocksInOrder_cases base r role multiframe false (Config.triggersLate s.free)
    (Config.identityFirst s.free) (Config.lateTriggers s.free) (Config.lossOrder s.free)
  obtain ⟨rfl, rfl⟩ : u = s ∧ late = [] := by simpa [hranked, State.takeTriggers] using hnot
  have hfilter (first : Bool) (place : Nat) :
      u.filterWithIdentity r BeaconReport.nothing.identityLost first [] place = (u, FilterOutput.nothing) := by
    rw [BeaconReport.nothing, State.filterWithIdentity_of_not_lost, State.filterRecord_of_settling hset]
    rfl
  rw [State.blocksHandle, hblocks]
  simp only [State.afterRanking, State.listenIfFound_of_settling hset, State.beaconRecord_of_settling hset, hfilter,
    State.accessSync_of_settling hset]
  rfl

/-- R30, R31: its taking advances the counter by one. -/
theorem State.frameTaken_of_settling (s : State) (rest : List Frame) :
    s.frameTaken r rest =
      s.setIntake
        { s.intake with
          queue := rest ++ s.intake.held.toList, held := none, counter := (s.intake.counter + 1) % 16 } := by
  simp [State.frameTaken, State.servingSync_of_settling hset]

/-- R31: whether it is a multiframe start. -/
theorem State.atMultiframe_of_settling (s : State) (rest : List Frame) :
    (s.frameTaken r rest).atMultiframe = decide ((s.intake.counter + 1) % 16 = 0) := by
  simp [State.frameTaken_atMultiframe, State.servingSync_of_settling hset]

end

/-- In STOPPED the hunt timer, the Access Unit and the Scan Sequencer are idle. -/
theorem State.blocksHandle_settling_of_stopped {s base : State} {r : Frame} (role : Role) (multiframe : Bool)
    (hset : r.settling = true) (hs : s.roam.engine = .stopped) (hbase : base.roam.engine = .stopped) :
    s.blocksHandle base r role multiframe false = s.nextFree := by
  have hwork : s.huntWork base.roam.huntRuns multiframe = s := by simp [State.huntWork, RoamEngine.huntRuns_eq, hbase]
  have haccess (x : AccessInput) : s.accessRecord r .stopped x = s := by simp only [State.accessRecord, hs]
  rw [State.blocksHandle_of_settling hset base role (by simp [hs]), hwork, hbase, haccess]
  rfl

/-- R18, R21, R22, R55, R162: a settling record that is a multiframe start, up to its naming, outside CAMPED. -/
theorem State.recordNamed_settling_multiframe {s : State} {r : Frame} (rest : List Frame) (hset : r.settling = true)
    (hm : (s.intake.counter + 1) % 16 = 0) :
    s.recordNamed r rest = ((s.frameTaken r rest).activate.multiframeWork.nameRecord, false) := by
  have hmulti : (s.frameTaken r rest).atMultiframe = true := by simp [State.atMultiframe_of_settling hset, hm]
  simp only [State.recordNamed, hmulti, if_true, State.lossUpdate_of_settling hset]

/-- R77: the rotation offset stands but in CAMPED. -/
theorem State.multiframeWork_scan {s : State} (h : s.roam.engine ≠ .camped) : s.multiframeWork.scan = s.scan := by
  rw [State.multiframeWork_eq, if_neg h]
  simp only [State.tableMultiframe_frame]

/-- R77: the naming of a record leaves the rotation offset. -/
theorem State.nameRecord_rotation (s : State) : s.nameRecord.scan.rotation = s.scan.rotation := rfl

/-- R18, R21, R22, R55, R68: the table of a multiframe start with an activation. -/
theorem State.activate_multiframeWork_table {s : State} (ht : s.tableSound) :
    s.activate.multiframeWork.table =
      { s.table with
        decay := if s.withParamsActive.par .decayInterval ≤ s.table.decay + 1 then 0 else s.table.decay + 1
        entries := s.table.entries.map fun e =>
          ({ e with dwell := min e.dwell (s.withParamsActive.par .dwellLimit) } : Entry).afterMultiframe
            (s.withParamsActive.par .heardAgeLimit) (s.withParamsActive.par .digestAgeLimit)
            (decide (s.withParamsActive.par .decayInterval ≤ s.table.decay + 1)) } := by
  have hsound : s.activate.tableSound := by simpa [State.tableSound] using ht
  have hpar (p : Param) : s.activate.par p = s.withParamsActive.par p := by rw [State.activate_eq]; rfl
  have htable : s.activate.table =
      { s.table with
        entries := s.table.entries.map fun e => { e with dwell := min e.dwell (s.withParamsActive.par .dwellLimit) } } := by
    rw [State.activate_eq]
  rw [State.multiframeWork_table hsound, htable]
  simp only [hpar, List.map_map]
  rfl

end Sys2Proof.Machine
end

section
/-! PROOFS. RECORD TAKEN (O12, O13). -/

namespace Sys2Proof.Proofs

open Sys2Proof Sys2Proof.Machine

/-- Settles O12: the blocks behind the naming leave the Frame Intake's queue and counters alone, and the loss counter's cases are
those of R34. -/
theorem recordTakenMovesTheQueueAndTheCounter : Obligations.RecordTakenMovesTheQueueAndTheCounter := by
  unfold Obligations.RecordTakenMovesTheQueueAndTheCounter
  refine ⟨fun s r rest hs hq => ⟨_, exec_recordTaken hs hq, ?_⟩, fun s r => ⟨State.lossUpdate_of_not_camped r,
    State.lossUpdate_of_sync, fun he hsync v hv => ?_⟩⟩
  · obtain ⟨hqueue, hheld, hcounter, hslips, hlost, hcheck, hreceived, hsilence⟩ := s.recordNamed_intake r rest
    simp [State.handleRecord_eq, hqueue, hheld, hcounter, hslips, hlost, hcheck, hreceived, hsilence, State.frameTaken]
  · have hmissed := State.servingMissed_of_not_sync hv hsync
    refine ⟨fun hother => State.lossUpdate_of_not_missed hsync ?_, fun hset hch =>
      State.lossUpdate_of_missed he hsync ?_⟩
    · rw [hmissed]
      exact decide_eq_false fun ⟨hset, hch⟩ => hother.elim (by simp [hset]) (· hch)
    · rw [hmissed]
      exact decide_eq_true ⟨hset, hch⟩

/-- Settles O13: of a taken record only the activation touches the parameters; in STOPPED a settling record leaves the blocks
behind the table's multiframe work idle. -/
theorem recordTakenActivatesTheParameters : Obligations.RecordTakenActivatesTheParameters := by
  unfold Obligations.RecordTakenActivatesTheParameters
  refine ⟨fun s t r rest hs hq hexec => ?_, fun s r rest hs hq he hset hm _ ht => ⟨_, exec_recordTaken hs hq, ?_⟩,
    State.activate_eq⟩
  · obtain rfl : s.handleRecord r rest = t := by simpa [exec_recordTaken hs hq] using hexec
    obtain ⟨hactive, hpending⟩ := s.recordNamed_params r rest
    obtain ⟨hnew, hnone⟩ := (s.frameTaken r rest).activate_params
    simp only [State.handleRecord_eq, State.blocksHandle_frame, hactive, hpending, State.frameTaken_atMultiframe,
      decide_eq_true_eq]
    generalize (if s.servingSync r then r.position else (s.intake.counter + 1) % 16) = counter
    by_cases hc : counter = 0
    · simp only [if_pos hc, hnew, hnone]
      exact ⟨rfl, by simp⟩
    · simp only [if_neg hc]
      exact ⟨rfl, rfl⟩
  · have hsound : (s.frameTaken r rest).tableSound := ht
    rw [State.handleRecord_eq, State.recordNamed_settling_multiframe rest hset hm,
      State.blocksHandle_settling_of_stopped _ _ hset (by simp [he]) he]
    have hscan : (s.frameTaken r rest).activate.multiframeWork.scan = s.scan := by
      rw [State.multiframeWork_scan (by simp [he])]
      simp
    have htable : (s.frameTaken r rest).activate.multiframeWork.nameRecord.nextFree.table
        = (s.frameTaken r rest).activate.multiframeWork.table := by simp [State.nextFree]
    rw [htable, State.activate_multiframeWork_table hsound]
    refine ⟨rfl, rfl, rfl, rfl, ?_⟩
    simp [State.nextFree, State.nameRecord_rotation, hscan]

end Sys2Proof.Proofs
end


section
/-! SUPPORT. A settling record at no multiframe start in each engine state (R36, R75, R77, R84, R86, R113, R119). -/

namespace Sys2Proof.Machine

/-! ## Its naming -/

/-- R30, R31, R77: the counting of a record moves the Frame Intake and the decision records alone. -/
@[simp] theorem State.counted_frame (s : State) (rest : List Frame) :
    (s.counted rest).table = s.table ∧ (s.counted rest).beacon = s.beacon ∧ (s.counted rest).roam = s.roam
      ∧ (s.counted rest).access = s.access ∧ (s.counted rest).host = s.host :=
  ⟨rfl, rfl, rfl, rfl, rfl⟩

/-- R36, R77, R84: the state in which the blocks find a settling record that is no multiframe start, with no visit in progress. -/
def State.settled (s : State) (rest : List Frame) : State :=
  (s.counted rest).setScan
    { (s.counted rest).scan with hunt := s.scan.hunt.map fun h => { h with stage := h.stage.next } }

/-- With no hunt visit in progress either it is the counted state. -/
theorem State.settled_of_no_hunt {s : State} (rest : List Frame) (h : s.scan.hunt = none) : s.settled rest = s.counted rest := by
  have hcounted : (s.counted rest).scan.hunt = none := h
  rw [State.settled, h, Option.map_none, ← hcounted]
  rfl

/-- R31, R34, R77: a settling record at no multiframe start, up to the Ranking Unit. -/
theorem State.recordNamed_settling {s : State} {r : Frame} (rest : List Frame) (hset : r.settling = true)
    (hm : (s.intake.counter + 1) % 16 ≠ 0) (hv : s.scan.visit = none) :
    s.recordNamed r rest = (s.settled rest, false) := by
  have hmulti : (s.frameTaken r rest).atMultiframe = false := by simp [State.atMultiframe_of_settling hset, hm]
  have hcounter : (s.frameTaken r rest).intake.counter = (s.intake.counter + 1) % 16 := by
    rw [State.frameTaken_of_settling hset, State.setIntake_intake]
  simp only [State.recordNamed, hmulti, Bool.false_eq_true, if_false, State.lossUpdate_of_settling hset]
  rw [State.nameRecord_eq _ hcounter, State.frameTaken_of_settling hset, if_neg hm]
  simp only [State.setIntake_scan, hv, Option.map_none]
  rw [← hv]
  rfl

/-- R36: a settling record at no multiframe start reaches the Access Unit and the Scan Sequencer. -/
theorem State.handleRecord_settling {s : State} {r : Frame} (rest : List Frame) (hset : r.settling = true)
    (hm : (s.intake.counter + 1) % 16 ≠ 0) (hv : s.scan.visit = none) :
    s.handleRecord r rest =
      (((s.settled rest).accessRecord r s.roam.engine (AccessInput.uncarried false)).scanRecord s.roam.engine
        s.scan.listen.isSome false).nextFree := by
  have hmulti : (s.frameTaken r rest).atMultiframe = false := by simp [State.atMultiframe_of_settling hset, hm]
  have hwork (b : Bool) : (s.settled rest).huntWork b false = s.settled rest := by simp [State.huntWork]
  rw [State.handleRecord_eq, State.recordNamed_settling rest hset hm hv, hmulti,
    State.blocksHandle_of_settling hset s _ (fun h => absurd h Bool.false_ne_true), hwork]

/-- R107: in STOPPED, HUNT and DIRECT the Access Unit has nothing of a record. -/
theorem State.accessRecord_of_idle_engine {s : State} (r : Frame) (engine0 : Engine) (input : AccessInput)
    (hr : s.roam.engine ≠ .registering) (hc : s.roam.engine ≠ .camped) : s.accessRecord r engine0 input = s := by
  unfold State.accessRecord
  split
  · next h => exact absurd h hr
  · next h => exact absurd h hc
  · rfl

/-! ## In CAMPED -/

/-- R125: an idle Access Unit begins no exchange but at a multiframe start. -/
theorem State.accessRecord_of_idle {s : State} (r : Frame) (engine0 : Engine) (he : s.roam.engine = .camped)
    (hidle : s.access.state = .idle) : s.accessRecord r engine0 (AccessInput.uncarried false) = s := by
  simp [State.accessRecord, he, hidle, State.multiframeExchange, AccessInput.uncarried]

/-- R75: a start that is decided begins at most a visit that waits for its settle record. -/
theorem State.decideStart_visit {s : State} (h : s.scan.visit = none) :
    ∀ v, s.decideStart.scan.visit = some v → v.stage = .settle := by
  have hbegun (t : State) (i p : Nat) : ∀ v, (t.beginVisit i p).scan.visit = some v → v.stage = .settle := by
    have hvisit : (t.beginVisit i p).scan.visit =
        some
          { code := (t.entry i).code, channel := (t.entry i).channel, colour := (t.entry i).colour, objectGone := false
            start := p, stage := .settle } := by
      unfold State.beginVisit
      dsimp only
      repeat' split
      all_goals rfl
    rw [hvisit]
    rintro _ ⟨⟩
    rfl
  unfold State.decideStart
  split
  · simp [h]
  · dsimp only
    split
    · simp [h]
    · split
      · simp [h]
      · split
        · simp [h]
        · exact hbegun _ _ _

/-- R75: a visit that waits for its settle record goes on. -/
theorem State.endVisit_of_settle {s : State} (h : ∀ v, s.scan.visit = some v → v.stage = .settle) : s.endVisit = s := by
  unfold State.endVisit
  split
  · next v hv => simp [h v hv]
  · rfl

/-- The model's counter of free values plays no part in a visit's begin. -/
theorem State.beginVisit_nextFree (s : State) (i p : Nat) : s.nextFree.beginVisit i p = (s.beginVisit i p).nextFree := by
  have hserving : s.nextFree.serving = s.serving := rfl
  have hentry : s.nextFree.entry = s.entry := rfl
  unfold State.beginVisit
  dsimp only
  rw [hserving, hentry]
  cases s.serving with
  | none => rfl
  | some v => by_cases h : (s.entry v).channel = (s.entry i).channel <;> simp only [h, if_true, if_false] <;> rfl

/-- R77: the start at p is spent. -/
def State.spendStart (s : State) (p : Nat) : State := s.setScan { s.scan with spent := s.scan.spent ++ [p] }

/-- R80: the visit of a start that is neither beyond the budget nor excluded. -/
def State.startVisit (s : State) (p : Nat) : State :=
  match s.chooseObject with
  | none => s
  | some (i, pointer, turn) => (s.setScan { s.scan with pointer := pointer, watchTurn := turn }).beginVisit i p

/-- R77: the decision of a start, at the decision record of one. -/
theorem State.decideStart_of_start {s : State} {p j : Nat} (h : s.startHere = some (p, j)) :
    s.decideStart =
      if s.scan.spent.contains p then s
      else if s.roam.engine ≠ .camped ∨ s.budget ≤ j ∨ s.scan.visit.isSome = true ∨ s.excluded p = true then
        s.spendStart p
      else (s.spendStart p).startVisit p := by
  simp only [State.decideStart, h]
  rfl

/-- The counter of free values plays no part in the choice of an object. -/
theorem State.startVisit_nextFree (s : State) (p : Nat) : s.nextFree.startVisit p = (s.startVisit p).nextFree := by
  have hchoose : s.nextFree.chooseObject = s.chooseObject := rfl
  unfold State.startVisit
  rw [hchoose]
  cases s.chooseObject with
  | none => rfl
  | some choice => exact State.beginVisit_nextFree (s.setScan _) _ _

/-- Nor in the decision of a start. -/
theorem State.decideStart_nextFree (s : State) : s.nextFree.decideStart = s.decideStart.nextFree := by
  have hhere : s.nextFree.startHere = s.startHere := rfl
  cases h : s.startHere with
  | none => simp only [State.decideStart, hhere, h]
  | some start =>
    have hspent : s.nextFree.scan.spent.contains start.1 = s.scan.spent.contains start.1 := rfl
    have hskip : (s.nextFree.roam.engine ≠ .camped ∨ s.nextFree.budget ≤ start.2 ∨ s.nextFree.scan.visit.isSome = true
        ∨ s.nextFree.excluded start.1 = true) ↔ (s.roam.engine ≠ .camped ∨ s.budget ≤ start.2
          ∨ s.scan.visit.isSome = true ∨ s.excluded start.1 = true) := Iff.rfl
    rw [State.decideStart_of_start h, State.decideStart_of_start (hhere.trans h), hspent]
    simp only [hskip]
    split_ifs
    · rfl
    · rfl
    · exact (s.spendStart start.1).startVisit_nextFree start.1

/-! ## In a registration -/

/-- R113, R119: in READING or AWAITING GRANT the next count of the wait stays below its limit. -/
def AccessUnit.waits (a : AccessUnit) : Prop :=
  (a.state = .reading ∧ a.wait + 1 < a.readLimit) ∨ (a.state = .awaitingGrant ∧ a.wait + 1 < a.grantWait)

/-- R113, R119: a wait that stays below its limit is counted. -/
theorem State.registrationPhase_of_waiting {s : State} (h : s.access.waits) :
    s.registrationPhase (AccessInput.uncarried false) = s.countWait := by
  obtain ⟨hstate, hlimit⟩ | ⟨hstate, hlimit⟩ := h
  · have hbelow : ¬ s.countWait.access.readLimit ≤ s.countWait.access.wait := Nat.not_le.2 hlimit
    simp only [State.registrationPhase, hstate, AccessInput.uncarried, if_neg hbelow]
  · have hbelow : ¬ s.countWait.access.grantWait ≤ s.countWait.access.wait := Nat.not_le.2 hlimit
    simp only [State.registrationPhase, hstate, AccessInput.uncarried, State.awaitGrant, if_neg hbelow]

/-- R109, R113, R119: and the site position advances. -/
theorem State.registrationRecord_of_waiting {s : State} (r : Frame) (h : s.access.waits)
    (hlong : s.access.multiframes < s.access.registrationLimit) :
    s.registrationRecord r (AccessInput.uncarried false) =
      s.setAccess
        { s.access with
          wait := s.access.wait + 1, sitePosition := s.access.sitePosition.map fun p => (p + 1) % 16 } := by
  have htuning : s.inTuning = false := by
    obtain ⟨hstate, -⟩ | ⟨hstate, -⟩ := h <;> simp [State.inTuning, hstate]
  have hunfold : s.registrationRecord r (AccessInput.uncarried false) =
      ((if s.inTuning then s else s.trackSite r false).registrationPhase (AccessInput.uncarried false)).checkTooLong := rfl
  have hlimit : ¬ (s.trackSite r false).countWait.access.registrationLimit
      ≤ (s.trackSite r false).countWait.access.multiframes := Nat.not_le.2 hlong
  have hphase := State.registrationPhase_of_waiting (s := s.trackSite r false) h
  rw [hunfold, htuning, if_neg Bool.false_ne_true, hphase, State.checkTooLong, if_neg fun hlate => hlimit hlate.2]
  rfl

/-! ## In HUNT and DIRECT -/

/-- R83, R84: where the cursor goes. -/
theorem State.moveCursor_scan (s : State) :
    (s.scan.cursor + 1 < s.scan.huntList.length →
        s.moveCursor.scan = { s.scan with cursor := s.scan.cursor + 1 })
      ∧ (s.scan.huntList.length ≤ s.scan.cursor + 1 →
        s.moveCursor.scan = { s.scan with huntList := s.huntSources, cursor := 0 }) := by
  refine ⟨fun h => ?_, fun h => ?_⟩
  · rw [State.moveCursor, if_pos h, State.setScan_scan]
  · rw [State.moveCursor, if_neg (by omega)]
    rfl

/-- R84: with no hunt visit in progress one begins at the channel at the cursor, if there is one. -/
theorem State.beginHuntVisit_hunt {s : State} (h : s.scan.hunt = none) :
    s.beginHuntVisit.scan.hunt =
      s.scan.huntList[s.scan.cursor]?.map fun channel => { channel := channel, stage := .settle } := by
  unfold State.beginHuntVisit
  split
  · next channel hc => rw [hc]; rfl
  · next hc => rw [hc, h]; rfl

/-- R84, R85: the cursor's move behind a hunt visit or a hunt-listen. -/
def State.huntMoved (s : State) : State := (s.setScan { s.scan with hunt := none, listen := none }).moveCursor

/-- R84, R86: the hunt visits that begin and the tunings behind a hunt visit without a site or a hunt-listen, in HUNT and DIRECT. -/
theorem State.huntOn_cases {s : State} (he : s.roam.engine = .hunt ∨ s.roam.engine = .direct) :
    s.huntOn =
      if s.roam.engine = .hunt then s.huntMoved.beginHuntVisit else s.huntMoved.tune (s.par .directChannel) := by
  rcases he with h | h <;> simp [State.huntOn, State.huntMoved, h]

/-- R83, R84: the cursor's move leaves the hunt visit as it was. -/
theorem State.moveCursor_hunt (s : State) : s.moveCursor.scan.hunt = s.scan.hunt := by
  unfold State.moveCursor
  split <;> rfl

/-- R84, R86: what follows a hunt visit that found no site. -/
theorem State.huntOn_effect {s : State} (he : s.roam.engine = .hunt ∨ s.roam.engine = .direct) :
    (s.scan.cursor + 1 < s.scan.huntList.length →
        s.huntOn.scan.cursor = s.scan.cursor + 1 ∧ s.huntOn.scan.huntList = s.scan.huntList)
      ∧ (s.scan.huntList.length ≤ s.scan.cursor + 1 →
        s.huntOn.scan.cursor = 0 ∧ s.huntOn.scan.huntList = s.huntSources)
      ∧ s.huntOn.scan.hunt =
          (if s.roam.engine = .hunt then
            s.huntOn.scan.huntList[s.huntOn.scan.cursor]?.map fun channel => { channel := channel, stage := .settle }
          else none)
      ∧ s.huntOn.frontEnd =
          s.frontEnd ++
            (if s.roam.engine = .hunt then
              (s.huntOn.scan.huntList[s.huntOn.scan.cursor]?.map FrontEndRecord.tune).toList
            else [FrontEndRecord.tune (s.par .directChannel)]) := by
  obtain ⟨hnext, hlast⟩ := (s.setScan { s.scan with hunt := none, listen := none }).moveCursor_scan
  have hsources : (s.setScan { s.scan with hunt := none, listen := none }).huntSources = s.huntSources :=
    State.huntSources_congr rfl rfl rfl
  have hfront : s.huntMoved.frontEnd = s.frontEnd := by simp [State.huntMoved]
  have hnone : s.huntMoved.scan.hunt = none := State.moveCursor_hunt _
  obtain ⟨x, hscan⟩ : ∃ x, s.huntOn.scan = { s.huntMoved.scan with hunt := x } := by
    rw [State.huntOn_cases he]
    split
    · exact State.beginHuntVisit_scan _
    · exact ⟨s.huntMoved.scan.hunt, rfl⟩
  have hlist : s.huntOn.scan.huntList = s.huntMoved.scan.huntList := by rw [hscan]
  have hcursor : s.huntOn.scan.cursor = s.huntMoved.scan.cursor := by rw [hscan]
  rw [hlist, hcursor]
  refine ⟨fun h => ?_, fun h => ?_, ?_, ?_⟩
  · rw [State.huntMoved, hnext h]
    exact ⟨rfl, rfl⟩
  · rw [State.huntMoved, hlast h, hsources]
    exact ⟨rfl, rfl⟩
  · rw [State.huntOn_cases he]
    split
    · exact State.beginHuntVisit_hunt hnone
    · exact hnone
  · rw [State.huntOn_cases he]
    split
    · rw [State.beginHuntVisit_frontEnd, hfront]
    · rw [← hfront]
      rfl

/-- R84: a hunt visit that waits for its measure record goes on. -/
theorem State.huntVisitOver_of_running {s : State} {h : HuntVisit} (hh : s.scan.hunt = some h) (hs : h.stage ≠ .ended) :
    s.huntVisitOver = s := by
  simp only [State.huntVisitOver, hh, if_neg hs]

/-- R84: a hunt visit whose measure record has been taken is over. -/
theorem State.huntVisitOver_of_ended {s : State} {h : HuntVisit} (hh : s.scan.hunt = some h) (hs : h.stage = .ended) :
    s.huntVisitOver = s.huntOn := by
  simp only [State.huntVisitOver, hh, if_pos hs]

/-- R84, R86: with no hunt-listen in progress the Scan Sequencer ends the hunt visit that is over. -/
theorem State.scanRecord_of_hunting {s : State} {engine0 : Engine} (he : s.roam.engine = engine0)
    (h : engine0 = .hunt ∨ engine0 = .direct) : s.scanRecord engine0 false false = s.huntVisitOver := by
  rcases h with rfl | rfl <;> simp [State.scanRecord, he]

/-- R36, R84, R86: of a settling record in HUNT or DIRECT with no hunt-listen in progress the hunt visit alone has its part. -/
theorem State.settled_hunting (s : State) (r : Frame) (rest : List Frame)
    (he : s.roam.engine = .hunt ∨ s.roam.engine = .direct) (hl : s.scan.listen = none) :
    (((s.settled rest).accessRecord r s.roam.engine (AccessInput.uncarried false)).scanRecord s.roam.engine
        s.scan.listen.isSome false).nextFree = (s.settled rest).huntVisitOver.nextFree := by
  have hroam : (s.settled rest).roam.engine = s.roam.engine := rfl
  have haccess : (s.settled rest).accessRecord r s.roam.engine (AccessInput.uncarried false) = s.settled rest := by
    refine State.accessRecord_of_idle_engine r _ _ ?_ ?_ <;> rw [hroam] <;> rcases he with he | he <;> simp [he]
  rw [haccess, hl, Option.isSome_none, State.scanRecord_of_hunting hroam he]

end Sys2Proof.Machine
end

section
/-! PROOFS. RECORD TAKEN of a settling record (O14). -/

namespace Sys2Proof.Proofs

open Sys2Proof Sys2Proof.Machine

/-- Settles O14: only the Access Unit and the Scan Sequencer count a settling record, each in its own engine states. -/
theorem settlingRecordIsSetAside : Obligations.SettlingRecordIsSetAside := by
  unfold Obligations.SettlingRecordIsSetAside
  intro s r rest hs hq hset hm hv counter base
  have hbase : base = (s.counted rest).nextFree := rfl
  clear_value base
  subst hbase
  have hexec := (exec_recordTaken hs hq).trans (congrArg _ (State.handleRecord_settling rest hset hm hv))
  refine ⟨fun he hh => ?_, fun he hh hidle => ?_, fun he hh hwait hlong => ?_, fun he hl h hh => ?_⟩
  · rw [hexec, State.settled_of_no_hunt rest hh, he,
      State.accessRecord_of_idle_engine r _ _ (by simp [he]) (by simp [he])]
    rfl
  · have hdecided : (s.counted rest).decideStart.endVisit = (s.counted rest).decideStart :=
      State.endVisit_of_settle (State.decideStart_visit hv)
    rw [hexec, State.settled_of_no_hunt rest hh, he, State.accessRecord_of_idle (s := s.counted rest) r _ he hidle,
      State.scanRecord, hdecided, ← State.decideStart_nextFree]
  · have hregistering : (s.counted rest).accessRecord r .registering (AccessInput.uncarried false) =
        (s.counted rest).registrationRecord r (AccessInput.uncarried false) := by
      simp [State.accessRecord, he]
    rw [hexec, State.settled_of_no_hunt rest hh, he, hregistering,
      State.registrationRecord_of_waiting (s := s.counted rest) r hwait hlong]
    rfl
  · have hhunting := hexec.trans (congrArg _ (s.settled_hunting r rest he hl))
    have hnamed : (s.settled rest).scan.hunt = some { h with stage := h.stage.next } := by
      rw [State.settled, State.setScan_scan, hh]
      rfl
    rw [hhunting]
    refine ⟨fun hstage => ?_, fun hstage => ⟨(s.settled rest).huntOn.nextFree, ?_, ?_⟩⟩
    · rw [State.huntVisitOver_of_running hnamed (by simp [hstage, Stage.next]), State.settled, hh, Option.map_some, hstage]
      rfl
    · rw [State.huntVisitOver_of_ended hnamed (by simp [hstage, Stage.next])]
    · obtain ⟨hnext, hlast, hvisit, hfront⟩ := State.huntOn_effect (s := s.settled rest) he
      have hsources : (s.settled rest).huntSources = s.huntSources := State.huntSources_congr rfl rfl rfl
      refine ⟨hnext, hsources ▸ hlast, hvisit, hfront, ?_⟩
      simp [State.nextFree, State.settled]

end Sys2Proof.Proofs
end


section
/-! SUPPORT. The loss of the serving site (R34, R35, R96). -/

namespace Sys2Proof.Machine

/-! ## Events -/

/-- R159: an event moves the Host Link alone. -/
theorem State.event_eq (s : State) (e : Event) : s.event e = s.setHost (s.host.offer e) := by
  simp only [State.event, State.roomForEvent, maxEvents, decide_eq_true_eq, HostLink.offer, sat16]
  split <;> rfl

/-- R159: an event leaves the active parameters. -/
theorem HostLink.offer_active (h : HostLink) (e : Event) : (h.offer e).active = h.active := by
  unfold HostLink.offer
  split <;> rfl

/-! ## Eligible entries -/

/-- R63: the score is read from the parameters and the call state. -/
theorem State.score_congr {s t : State} (ha : s.host.active = t.host.active) (hc : s.call = t.call) : s.score = t.score := by
  funext e
  simp only [State.score, State.par, ha, hc]

/-- R65: the choice by score is read from the table, the parameters and the call state. -/
theorem State.highest_congr {s t : State} (ht : s.table = t.table) (ha : s.host.active = t.host.active)
    (hc : s.call = t.call) (l : List Nat) : s.highest l = t.highest l := by
  induction l with
  | nil => rfl
  | cons i rest ih => simp only [State.highest, ih, State.score_congr ha hc, State.entry_congr ht]

/-- R65: the best eligible entry likewise. -/
theorem State.bestEligible_congr {s t : State} (ht : s.table = t.table) (ha : s.host.active = t.host.active)
    (hc : s.call = t.call) (lost : Option Nat) : s.bestEligible lost = t.bestEligible lost := by
  have heligible : s.eligible = t.eligible := by
    funext e
    simp only [State.eligible, State.par, ha, hc]
    rfl
  rw [State.bestEligible, State.bestEligible, State.highest_congr ht ha hc, heligible, State.entry_congr ht]

/-! ## What a loss clears -/

/-- R17, R50, R68, R71, R96, R105, R126, R137: the state in which a loss looks for the next site. -/
def State.servingCleared (s : State) : State :=
  (((s.setPins { s.pins with txinh := true }).abandonWork.endServing 0).clearServingWork).restartHunt

/-- R17: the end of serving, entry by entry. -/
theorem State.endServing_table (s : State) (penalty : Nat) :
    (s.endServing penalty).table =
      { s.table with
        entries :=
          s.table.entries.mapIdx fun i e =>
            if s.serving = some i then { e with status := .heard, barred := 0, penalty := penalty } else e } := by
  unfold State.endServing
  split
  · next v hv =>
    have hentries : s.table.entries.set v { s.entry v with status := .heard, barred := 0, penalty := penalty } =
        s.table.entries.mapIdx fun i e =>
          if s.serving = some i then { e with status := .heard, barred := 0, penalty := penalty } else e := by
      refine List.ext_getElem (by simp) fun i hi _ => ?_
      have hi' : i < s.table.entries.length := by simpa using hi
      by_cases h : v = i
      · subst h
        simp [hv, State.entry_eq_getElem hi']
      · simp [hv, h]
    exact congrArg (fun entries => { s.table with entries := entries }) hentries
  · next hv =>
    have hid : (s.table.entries.mapIdx fun _ e => e) = s.table.entries := List.ext_getElem (by simp) (by simp)
    simp [hv, hid]

/-- R17, R68: the entry just lost becomes HEARD, and every dwell count 0. -/
theorem State.servingCleared_table (s : State) :
    s.servingCleared.table =
      { s.table with
        entries :=
          s.table.entries.mapIdx fun i e =>
            if s.serving = some i then { e with status := .heard, barred := 0, penalty := 0, dwell := 0 }
            else { e with dwell := 0 } } := by
  have hcleared (t : State) : t.clearServingWork.table = (t.mapEntries fun e => { e with dwell := 0 }).table := by
    simp [State.clearServingWork, State.clearAllDwell]
  have hserving : (s.setPins { s.pins with txinh := true }).abandonWork.serving = s.serving := by
    simp [State.serving]
  simp only [State.servingCleared, State.restartHunt_frame, hcleared, State.mapEntries_table, State.endServing_table,
    hserving, State.abandonWork_frame, State.setPins_table]
  congr 1
  refine List.ext_getElem (by simp) fun i hi _ => ?_
  by_cases h : s.serving = some i <;> simp [h]

/-- R96: what the clearing leaves, and TXINH. -/
theorem State.servingCleared_frame (s : State) :
    s.servingCleared.intake = s.intake ∧ s.servingCleared.scan = s.scan
      ∧ s.servingCleared.roam = { s.roam with huntTimer := 0, expired := false }
      ∧ s.servingCleared.call = s.call ∧ s.servingCleared.recallArea = s.recallArea ∧ s.servingCleared.host = s.host
      ∧ s.servingCleared.pins = { s.pins with txinh := true } ∧ s.servingCleared.frontEnd = s.frontEnd := by
  have hroam (t : State) : t.restartHunt.roam = { t.roam with huntTimer := 0, expired := false } := rfl
  simp [State.servingCleared, hroam]

/-- R126: an exchange in progress is abandoned. -/
theorem State.abandonWork_exchange (s : State) : s.abandonWork.access.state.exchange = false := by
  unfold State.abandonWork
  split
  · rfl
  · next h => simpa using h

/-- R50, R71, R92: what the clearing of the serving work does besides the table. -/
theorem State.clearServingWork_effect (s : State) :
    s.clearServingWork.ranking =
        { watch := none, weakCount := 0, weakReported := false, reportCount := s.ranking.reportCount }
      ∧ s.clearServingWork.beacon.servingStore = Store.cleared ∧ s.clearServingWork.beacon.lastServing = none
      ∧ s.clearServingWork.groups =
          { s.groups with groups := s.groups.groups.map fun g => { g with delivery := .unsent } } := by
  simp [State.clearServingWork, State.allUnsent, State.setGroupList, State.clearAllDwell]

/-- R126, R137: the work abandoned touches the delivery states alone. -/
theorem State.abandonWork_unsent (s : State) :
    (s.abandonWork.groups.groups.map fun g => ({ g with delivery := .unsent } : Group)) =
      s.groups.groups.map fun g => { g with delivery := .unsent } := by
  have hreturned (g : Group) : ({ g.returned with delivery := .unsent } : Group) = { g with delivery := .unsent } := by
    unfold Group.returned
    split <;> rfl
  unfold State.abandonWork
  split
  · simpa [State.returnSent, State.setGroupList] using fun g _ => hreturned g
  · rfl

/-- R50, R71, R126, R137: what the clearing does besides the table. -/
theorem State.servingCleared_effect (s : State) :
    s.servingCleared.access.state.exchange = false
      ∧ s.servingCleared.ranking =
          { watch := none, weakCount := 0, weakReported := false, reportCount := s.ranking.reportCount }
      ∧ s.servingCleared.beacon.servingStore = Store.cleared ∧ s.servingCleared.beacon.lastServing = none
      ∧ s.servingCleared.groups =
          { s.groups with groups := s.groups.groups.map fun g => { g with delivery := .unsent } } := by
  obtain ⟨hranking, hstore, hlast, hgroups⟩ :=
    (((s.setPins { s.pins with txinh := true }).abandonWork).endServing 0).clearServingWork_effect
  have hunsent := (s.setPins { s.pins with txinh := true }).abandonWork_unsent
  unfold State.servingCleared
  simp [hranking, hstore, hlast, hgroups, State.abandonWork_exchange, hunsent]

/-! ## Where a loss leads -/

/-- R99, R100, R108, R141: a registration's start but for its ENGINE STATE event. -/
def State.registrationStarted (s : State) (i : Nat) (reason : Reason) (previous : Option Nat) : State :=
  let s1 := s.abandonWork.scanIdle
  let s2 :=
    (s1.setRoam
      { s1.roam with
        engine := .registering, previous := previous, reason := some reason, enteredFrom := s.roam.engine }).setPins
      { s1.pins with txinh := true }
  let s3 := s2.setOwner (some (s.entry i).pair)
  let skip := reason == .hunt || reason == .move || s.alreadyRead (s.entry i)
  (s3.setAccess (s3.registrationContext (s.entry i).code (previous.getD 0) skip)).tune (s.entry i).channel

/-- R44: the Watch Store's owner does not lie in the Host Link. -/
theorem State.setOwner_setHost (s : State) (h : HostLink) (owner : Option Pair) :
    (s.setHost h).setOwner owner = (s.setOwner owner).setHost h := by
  have howner : (s.setHost h).beacon.owner = s.beacon.owner := rfl
  unfold State.setOwner
  rw [howner]
  split <;> rfl

/-- R108: the registration context is read from the active parameters alone of the Host Link. -/
theorem State.registrationContext_setHost {s : State} {h : HostLink} (ha : h.active = s.host.active)
    (target previous : Nat) (skip : Bool) :
    (s.setHost h).registrationContext target previous skip = s.registrationContext target previous skip := by
  simp only [State.registrationContext, State.par, State.setHost_access, State.setHost_host, ha]

/-- R90, R99: a registration's start, with its one event. -/
theorem State.startRegistration_eq (s : State) (i : Nat) (reason : Reason) (previous : Option Nat) (cause : EngineCause) :
    s.startRegistration i reason previous cause =
      (s.registrationStarted i reason previous).setHost
        (s.host.offer (.engineState s.roam.engine .registering cause true)) := by
  have hhost : s.abandonWork.scanIdle.host = s.host := by simp
  have hengine : s.abandonWork.scanIdle.roam.engine = s.roam.engine := by simp
  unfold State.startRegistration State.registrationStarted State.enterEngine
  dsimp only
  rw [State.event_eq, State.setOwner_setHost, State.registrationContext_setHost]
  · simp only [State.setPins_host, State.setRoam_host, State.setRoam_roam, hhost, hengine]
    rfl
  · simp [HostLink.offer_active]

/-- R84, R87, R141: the entry to HUNT but for its ENGINE STATE event. -/
def State.huntStarted (s : State) : State :=
  let s1 := s.scanIdle.setOwner none
  ((s1.setRoam { s1.roam with engine := .hunt }).setPins { s1.pins with txinh := true }).buildHuntList.beginHuntVisit

/-- R84: a hunt visit's begin does not lie in the Host Link. -/
theorem State.beginHuntVisit_setHost (s : State) (h : HostLink) :
    (s.setHost h).beginHuntVisit = s.beginHuntVisit.setHost h := by
  have hscan : (s.setHost h).scan = s.scan := rfl
  unfold State.beginHuntVisit
  rw [hscan]
  split <;> rfl

/-- R83: nor does the hunt list. -/
theorem State.buildHuntList_setHost (s : State) (h : HostLink) :
    (s.setHost h).buildHuntList = s.buildHuntList.setHost h := by
  have hsources : (s.setHost h).huntSources = s.huntSources := State.huntSources_congr rfl rfl rfl
  rw [State.buildHuntList, hsources]
  rfl

/-- R84, R90: the entry to HUNT, with its one event. -/
theorem State.enterHunt_eq (s : State) (cause : EngineCause) :
    s.enterHunt cause = s.huntStarted.setHost (s.host.offer (.engineState s.roam.engine .hunt cause true)) := by
  have hhost : (s.scanIdle.setOwner none).host = s.host := by simp
  have hengine : (s.scanIdle.setOwner none).roam.engine = s.roam.engine := by simp
  rw [State.enterHunt, State.enterEngine, State.event_eq, State.buildHuntList_setHost, State.beginHuntVisit_setHost]
  simp only [State.setPins_host, State.setRoam_host, hhost, hengine]
  rfl

/-- R96: the whole effect of a loss in CAMPED but for its ENGINE STATE event. -/
def State.lossTaken (s : State) : State :=
  match s.servingCleared.bestEligible s.serving with
  | some i => s.servingCleared.registrationStarted i .loss none
  | none => s.servingCleared.huntStarted

/-- R96: outside CAMPED a loss is discarded. -/
theorem State.takeLost_of_not_camped {s : State} (cause : EngineCause) (he : s.roam.engine ≠ .camped) :
    s.takeLost cause = s := if_neg he

/-- R90: the engine state a loss leads to. -/
theorem State.lossTaken_engine (s : State) :
    s.lossTaken.roam.engine =
      if (s.servingCleared.bestEligible s.serving).isSome then .registering else .hunt := by
  unfold State.lossTaken
  split
  · next h => simp [h, State.registrationStarted]
  · next h => simp [h, State.huntStarted]

/-- R96: the cause of a loss enters its ENGINE STATE event alone. -/
theorem State.takeLost_of_camped {s : State} (cause : EngineCause) (he : s.roam.engine = .camped) :
    s.takeLost cause =
      s.lossTaken.setHost (s.host.offer (.engineState .camped s.lossTaken.roam.engine cause true)) := by
  obtain ⟨-, -, hroam, -, -, hhost, -, -⟩ := s.servingCleared_frame
  have hengine : s.servingCleared.roam.engine = .camped := by rw [hroam, he]
  have htaken : s.takeLost cause =
      match s.servingCleared.bestEligible s.serving with
      | some i => s.servingCleared.startRegistration i .loss none cause
      | none => s.servingCleared.enterHunt cause := if_pos he
  rw [htaken, State.lossTaken_engine, State.lossTaken]
  cases s.servingCleared.bestEligible s.serving with
  | some i => simp [State.startRegistration_eq, hhost, hengine]
  | none => simp [State.enterHunt_eq, hhost, hengine]

/-- R44: the Serving Store and the last serving beacon do not follow the Watch Store's owner. -/
theorem State.setOwner_serving (s : State) (owner : Option Pair) :
    (s.setOwner owner).beacon.servingStore = s.beacon.servingStore
      ∧ (s.setOwner owner).beacon.lastServing = s.beacon.lastServing := by
  unfold State.setOwner
  split <;> exact ⟨rfl, rfl⟩

/-- R126: with no exchange in progress no work is abandoned. -/
theorem State.abandonWork_of_no_exchange {s : State} (h : s.access.state.exchange = false) : s.abandonWork = s := by
  simp [State.abandonWork, h]

/-- R99, R108, R141: what a registration's start moves. -/
theorem State.registrationStarted_effect {s : State} (i : Nat) (reason : Reason) (previous : Option Nat)
    (h : s.access.state.exchange = false) :
    (s.registrationStarted i reason previous).roam =
        { s.roam with
          engine := .registering, previous := previous, reason := some reason, enteredFrom := s.roam.engine }
      ∧ (s.registrationStarted i reason previous).access.state = .tuning
      ∧ (s.registrationStarted i reason previous).access.target = (s.entry i).code
      ∧ (s.registrationStarted i reason previous).frontEnd =
          s.frontEnd ++ [FrontEndRecord.tune (s.entry i).channel] := by
  simp [State.registrationStarted, State.abandonWork_of_no_exchange h, State.registrationContext, State.tune, State.issue]

/-- R83, R84, R87, R141: what the entry to HUNT moves. -/
theorem State.huntStarted_effect (s : State) :
    s.huntStarted.roam = { s.roam with engine := .hunt } ∧ s.huntStarted.access = s.access
      ∧ s.huntStarted.scan.huntList = s.huntSources ∧ s.huntStarted.scan.cursor = 0
      ∧ s.huntStarted.frontEnd = s.frontEnd ++ (s.huntSources.head?.map FrontEndRecord.tune).toList := by
  obtain ⟨-, -, hcursor, hlist, hfront⟩ := s.enterHunt_scan .loss
  obtain ⟨hroam, -⟩ := s.enterHunt_engine .loss
  rw [State.enterHunt_eq] at hcursor hlist hfront hroam
  exact ⟨hroam, by simp [State.huntStarted], hlist, hcursor, hfront⟩

/-- R96: what a loss leaves as its clearing left it. -/
theorem State.lossTaken_frame (s : State) :
    s.lossTaken.table = s.servingCleared.table ∧ s.lossTaken.pins = { s.pins with txinh := true }
      ∧ s.lossTaken.intake = s.intake ∧ s.lossTaken.ranking = s.servingCleared.ranking
      ∧ s.lossTaken.beacon.servingStore = s.servingCleared.beacon.servingStore
      ∧ s.lossTaken.beacon.lastServing = s.servingCleared.beacon.lastServing
      ∧ s.lossTaken.groups = s.servingCleared.groups ∧ s.lossTaken.call = s.call
      ∧ s.lossTaken.recallArea = s.recallArea := by
  obtain ⟨hintake, -, -, hcall, hrecall, -, hpins, -⟩ := s.servingCleared_frame
  obtain ⟨hexchange, -⟩ := s.servingCleared_effect
  unfold State.lossTaken
  split
  · simp [State.registrationStarted, State.abandonWork_of_no_exchange hexchange, State.setOwner_serving, hintake, hcall,
      hrecall, hpins]
  · simp [State.huntStarted, State.setOwner_serving, hintake, hcall, hrecall, hpins]

/-- R83, R96, R99: where a loss leads: REGISTERING with the best eligible entry, or HUNT. -/
def State.leadsTo (s t : State) (next : Option Nat) : Prop :=
  match next with
  | some i =>
    t.roam =
        { s.roam with
          engine := .registering, huntTimer := 0, expired := false, previous := none
          reason := some .loss, enteredFrom := .camped }
      ∧ t.access.state = .tuning ∧ t.access.target = (t.entry i).code
      ∧ t.frontEnd = s.frontEnd ++ [FrontEndRecord.tune (t.entry i).channel]
  | none =>
    t.roam = { s.roam with engine := .hunt, huntTimer := 0, expired := false }
      ∧ t.access.state.exchange = false
      ∧ t.scan.huntList = (s.setTable t.table).huntSources ∧ t.scan.cursor = 0
      ∧ t.frontEnd = s.frontEnd ++ (t.scan.huntList.head?.map FrontEndRecord.tune).toList

/-- R96: a loss in CAMPED leads there from the table it leaves, whatever has become of the Frame Intake and the Host Link. -/
theorem State.lossTaken_leadsTo {s p : State} {x : FrameIntake} {h : HostLink} {next : Option Nat}
    (hp : p = (s.setIntake x).setHost h) (ha : h.active = s.host.active) (he : s.roam.engine = .camped)
    (hnext : (s.setTable p.lossTaken.table).bestEligible s.serving = next) : s.leadsTo p.lossTaken next := by
  obtain ⟨-, hscan, hroam, hcall, hrecall, hhost, -, hfront⟩ := p.servingCleared_frame
  obtain ⟨hexchange, -⟩ := p.servingCleared_effect
  obtain ⟨htable, -⟩ := p.lossTaken_frame
  obtain ⟨hserving, hpscan, hproam, hpcall, hprecall, hphost, hpfront⟩ : p.serving = s.serving ∧ p.scan = s.scan
      ∧ p.roam = s.roam ∧ p.call = s.call ∧ p.recallArea = s.recallArea ∧ p.host.active = s.host.active
      ∧ p.frontEnd = s.frontEnd := by
    subst hp
    exact ⟨rfl, rfl, rfl, rfl, rfl, ha, rfl⟩
  have hsame : (s.setTable p.lossTaken.table).bestEligible s.serving = p.servingCleared.bestEligible p.serving := by
    rw [hserving]
    exact State.bestEligible_congr (by simpa using htable) (by simp [hhost, hphost]) (by simp [hcall, hpcall]) _
  have hbest : p.servingCleared.bestEligible p.serving = next := hsame.symm.trans hnext
  have hentry : p.lossTaken.entry = p.servingCleared.entry := State.entry_congr htable
  cases next with
  | some i =>
    have htaken : p.lossTaken = p.servingCleared.registrationStarted i .loss none := by
      simp only [State.lossTaken, hbest]
    obtain ⟨hroam', hstate, htarget, hfront'⟩ := State.registrationStarted_effect i .loss none hexchange
    rw [State.leadsTo, hentry, htaken]
    exact ⟨by simp [hroam', hroam, hproam, he], hstate, htarget, by simp [hfront', hfront, hpfront]⟩
  | none =>
    have htaken : p.lossTaken = p.servingCleared.huntStarted := by simp only [State.lossTaken, hbest]
    obtain ⟨hroam', haccess, hlist, hcursor, hfront'⟩ := p.servingCleared.huntStarted_effect
    have hsources : (s.setTable p.lossTaken.table).huntSources = p.servingCleared.huntSources := by
      exact State.huntSources_congr htable (by simp [hrecall, hprecall]) (by simp [hscan, hpscan])
    rw [State.leadsTo, hsources, htaken, hlist]
    exact ⟨by simp [hroam', hroam, hproam], by rw [haccess, hexchange], rfl, hcursor, by simp [hfront', hfront, hpfront]⟩

/-- The Host Link plays no part in where a loss leads. -/
theorem State.leadsTo_setHost {s t : State} (h : HostLink) {next : Option Nat} (hl : s.leadsTo t next) :
    s.leadsTo (t.setHost h) next := by
  cases next <;> exact hl

/-- R17, R34, R50, R68, R96, R137: a loss in CAMPED, whatever has become of the Frame Intake and the Host Link before it. -/
theorem State.takeLost_effect {s p t : State} {x : FrameIntake} {h : HostLink} {cause : EngineCause}
    (hp : p = (s.setIntake x).setHost h) (ha : h.active = s.host.active) (he : s.roam.engine = .camped)
    (ht : p.takeLost cause = t) :
    t.table =
        { s.table with
          entries :=
            s.table.entries.mapIdx fun i e =>
              if s.serving = some i then { e with status := .heard, barred := 0, penalty := 0, dwell := 0 }
              else { e with dwell := 0 } }
      ∧ (∀ next, (s.setTable t.table).bestEligible s.serving = next → s.leadsTo t next)
      ∧ t.pins = { s.pins with txinh := true }
      ∧ t.host = h.offer (.engineState .camped t.roam.engine cause true)
      ∧ t.intake = x
      ∧ t.ranking = { watch := none, weakCount := 0, weakReported := false, reportCount := s.ranking.reportCount }
      ∧ t.beacon.servingStore = Store.cleared ∧ t.beacon.lastServing = none
      ∧ t.groups = { s.groups with groups := s.groups.groups.map fun g => { g with delivery := .unsent } }
      ∧ t.call = s.call ∧ t.recallArea = s.recallArea := by
  obtain ⟨htable, hpins, hintake, hranking, hstore, hlast, hgroups, hcall, hrecall⟩ := p.lossTaken_frame
  obtain ⟨-, hcranking, hcstore, hclast, hcgroups⟩ := p.servingCleared_effect
  have hctable := p.servingCleared_table
  have hpe : p.roam.engine = .camped := by rw [hp]; exact he
  have hpserving : p.serving = s.serving := by rw [hp]; rfl
  rw [State.takeLost_of_camped cause hpe] at ht
  refine ⟨?_, fun next hnext => ?_, ?_⟩
  · rw [← ht, State.setHost_table, htable, hctable, hpserving, hp]
    rfl
  · rw [← ht, State.setHost_table] at hnext
    exact ht ▸ State.leadsTo_setHost _ (State.lossTaken_leadsTo hp ha he hnext)
  · rw [← ht]
    obtain ⟨hpintake, hphost, hppins, hpranking, hpgroups, hpcall, hprecall⟩ : p.intake = x ∧ p.host = h
        ∧ p.pins = s.pins ∧ p.ranking = s.ranking ∧ p.groups = s.groups ∧ p.call = s.call
        ∧ p.recallArea = s.recallArea := by
      rw [hp]
      exact ⟨rfl, rfl, rfl, rfl, rfl, rfl, rfl⟩
    simp [hpins, hintake, hranking, hstore, hlast, hgroups, hcall, hrecall, hcranking, hcstore, hclast, hcgroups,
      hpintake, hphost, hppins, hpranking, hpgroups, hpcall, hprecall]

/-! ## The rows -/

/-- R34: the loss limit's row in CAMPED. -/
theorem exec_servingLossLimit {s : State} (hs : s.pins.supply = .running) (he : s.roam.engine = .camped)
    (hlimit : s.par .lossLimit ≤ s.intake.loss + 1) :
    exec .servingLossLimit s = .next ((s.setIntake { s.intake with loss := 0, timing := .holdover }).takeLost .loss) :=
  congrArg Host.Outcome.next ((whileRunning_of_running hs).trans (if_pos ⟨he, hlimit⟩))

/-- R35: what a silence does before the loss. -/
def State.silenced (s : State) : State :=
  (s.setIntake { s.intake with silenceRunning := false, timing := .holdover }).setHost (s.host.offer .frontEndSilent)

/-- R35: the silence timer's row. -/
theorem exec_silenceTimeout {s : State} (hs : s.pins.supply = .running) (hr : s.intake.silenceRunning = true) :
    exec .silenceTimeout s =
      .next (if s.roam.engine = .camped then s.silenced.raiseLost.takeLost .silence else s.silenced) := by
  have hsilenced : (s.setIntake { s.intake with silenceRunning := false, timing := .holdover }).event .frontEndSilent
      = s.silenced := State.event_eq _ _
  refine congrArg Host.Outcome.next ((whileRunning_of_running hs).trans ?_)
  rw [State.silenceTimeout, if_pos hr, hsilenced]
  rfl

end Sys2Proof.Machine
end

section
/-! PROOFS. The loss of the serving site (O56). -/

namespace Sys2Proof.Proofs

open Sys2Proof Sys2Proof.Machine

/-- Settles O56: both rows are the loss of R96 behind what the Frame Intake has done, and its cause enters one event alone. -/
theorem lossOfTheServingSite : Obligations.LossOfTheServingSite := by
  unfold Obligations.LossOfTheServingSite
  refine ⟨fun s hs => ⟨?_, fun hrunning he => ?_⟩, fun s hs he hlimit => ?_, fun s cause =>
    ⟨State.takeLost_of_not_camped cause, fun he => ?_⟩⟩
  · rintro row hrow he hlimit hsilence
    rcases List.mem_pair.1 hrow with rfl | rfl
    · obtain ⟨htable, hleads, hpins, hhost, hintake, hrest⟩ := State.takeLost_effect (s := s)
        (x := { s.intake with loss := 0, timing := .holdover }) rfl rfl he (Eq.refl _)
      refine ⟨_, exec_servingLossLimit hs he (hlimit rfl), htable, ?_, hpins, hhost, ?_, hrest⟩
      · generalize hnext : State.bestEligible _ _ = next
        exact hleads next hnext
      · exact hintake.trans (by simp)
    · obtain ⟨htable, hleads, hpins, hhost, hintake, hrest⟩ := State.takeLost_effect (s := s) (cause := .silence)
        (x := { s.intake with loss := 0, timing := .holdover, silenceRunning := false })
        (h := s.host.offer .frontEndSilent) rfl (HostLink.offer_active _ _) he (Eq.refl _)
      refine ⟨_, (exec_silenceTimeout hs (hsilence rfl)).trans (congrArg _ (if_pos he)), htable, ?_, hpins, hhost, ?_, hrest⟩
      · generalize hnext : State.bestEligible _ _ = next
        exact hleads next hnext
      · exact hintake.trans (by simp)
  · rw [exec_silenceTimeout hs hrunning, if_neg he]
    rfl
  · exact exec_servingLossLimit hs he hlimit
  · rw [State.takeLost_of_camped cause he, State.takeLost_of_camped .loss he]
    rfl

end Sys2Proof.Proofs
end

section
/-! SUPPORT. The Beacon Assembler: its stores, the neighbour import, and accepted serving and watch beacons (R9, R10, R43 to R53). -/

namespace Sys2Proof.Machine

/-! ## Stores (R45, R46) -/

/-- R45: the store takes the fragment's edition. -/
theorem Store.place_edition (st : Store) (position : Nat) (f : Fragment) :
    (st.place position f).edition = some f.edition := by
  unfold Store.place
  by_cases h : st.edition = some f.edition
  · rw [if_pos h]
    exact h
  · rw [if_neg h]

/-- R45: the positions behind a fragment: those of the store under its own edition, else empty ones. -/
theorem Store.place_places (st : Store) (position : Nat) (f : Fragment) :
    (st.place position f).places =
      (if st.edition = some f.edition then st.places else List.replicate 16 none).set position
        (some [f.byte0, f.byte1, f.byte2]) := by
  unfold Store.place
  split <;> rfl

/-- R45: a fragment fills its position. -/
theorem Store.place_getElem?_same {st : Store} {position : Nat} (f : Fragment) (hp : position < 16)
    (hlength : st.places.length = 16) :
    (st.place position f).places[position]? = some (some [f.byte0, f.byte1, f.byte2]) := by
  rw [Store.place_places, List.getElem?_set_self]
  split
  · rw [hlength]
    exact hp
  · rw [List.length_replicate]
    exact hp

/-- R45: the other positions hold what they held under the same edition, and nothing under another. -/
theorem Store.place_getElem?_other (st : Store) {position q : Nat} (f : Fragment) (hq : q < 16) (hne : q ≠ position) :
    (st.place position f).places[q]? = if st.edition = some f.edition then st.places[q]? else some none := by
  rw [Store.place_places, List.getElem?_set_ne hne.symm]
  split
  · rfl
  · rw [List.getElem?_replicate_of_lt hq]

/-- R45: a store is complete when no position is empty. -/
theorem Store.complete_iff (st : Store) : st.complete = true ↔ none ∉ st.places := by
  rw [Store.complete, List.all_eq_true]
  refine ⟨fun h hnone => Bool.false_ne_true (h none hnone), fun h x hx => ?_⟩
  cases x with
  | some bytes => rfl
  | none => exact absurd hx h

/-- R46: which beacons are accepted. -/
theorem Store.accepted_iff (st : Store) :
    st.accepted = true ↔
      (crc16 (st.bytes.take 46)).toNat = 256 * (st.bytes.getD 46 0#8).toNat + (st.bytes.getD 47 0#8).toNat
        ∧ st.summary.code ≠ 0 ∧ neighbourCount st.bytes ≤ 10 ∧ st.summary.window ≠ 0 := by
  have hvalue : at16 st.bytes 46 = 256 * (st.bytes.getD 46 0#8).toNat + (st.bytes.getD 47 0#8).toNat :=
    natOfBytes_pair _ _
  simp only [Store.accepted, beaconCheckMatches, beaconUsable, hvalue, Bool.and_eq_true, beq_iff_eq, bne_iff_ne,
    decide_eq_true_eq, and_assoc]
  rfl

/-! ## One neighbour item (R9, R10, R15) -/

section
variable {s : State} {item : Neighbour} (kept : List Nat)

/-- R9: an item without a site code is skipped. -/
theorem State.importItem_no_code (h : item.code = 0) : s.importItem kept item = (s.countSkip, kept) := by
  simp only [State.importItem, if_pos h]

/-- R9: an item for the SERVING entry changes nothing. -/
theorem State.importItem_serving {i : Nat} (hc : item.code ≠ 0) (hf : s.findCode item.code = some i)
    (hs : (s.entry i).status = .serving) : s.importItem kept item = (s, kept) := by
  simp only [State.importItem, if_neg hc, hf, if_pos hs]

/-- R9: an item with the entry's own channel and colour, or for the target of a registration, writes its digest alone. -/
theorem State.importItem_digest {i : Nat} (hc : item.code ≠ 0) (hf : s.findCode item.code = some i)
    (hs : (s.entry i).status ≠ .serving)
    (hp : (s.entry i).pair = { channel := item.channel, colour := item.colour } ∨ s.isTarget (s.entry i) = true) :
    s.importItem kept item = (s.writeDigest i (neighbourDigest item), kept) := by
  simp only [State.importItem, if_neg hc, hf, if_neg hs, if_pos hp]

section
variable {i : Nat} (hc : item.code ≠ 0) (hf : s.findCode item.code = some i) (hs : (s.entry i).status ≠ .serving)
  (hp : (s.entry i).pair ≠ { channel := item.channel, colour := item.colour }) (ht : s.isTarget (s.entry i) = false)
include hc hf hs hp ht

/-- R9: an item that would move an entry onto another's channel and colour counts as a conflict. -/
theorem State.importItem_clash (hclash : s.clashes (some i) { channel := item.channel, colour := item.colour }) :
    s.importItem kept item = (s.countConflict, kept) := by
  have hmoves := not_or.2 ⟨hp, Bool.eq_false_iff.1 ht⟩
  simp only [State.importItem, if_neg hc, hf, if_neg hs, if_neg hmoves, if_pos ((s.pairClash_iff _ _).2 hclash)]

/-- R6, R9: else the entry takes the channel and colour, and the digest. -/
theorem State.importItem_moved (hclash : ¬s.clashes (some i) { channel := item.channel, colour := item.colour }) :
    s.importItem kept item =
      ((s.takePair i { channel := item.channel, colour := item.colour }).writeDigest i (neighbourDigest item), kept) := by
  have hmoves := not_or.2 ⟨hp, Bool.eq_false_iff.1 ht⟩
  simp only [State.importItem, if_neg hc, hf, if_neg hs, if_neg hmoves, State.pairClash_eq_false hclash]
  rfl

end

section
variable (hc : item.code ≠ 0) (hf : s.findCode item.code = none)
include hc hf

/-- R10: a new site whose channel and colour are taken counts as a conflict. -/
theorem State.importItem_new_clash (hclash : s.clashes none { channel := item.channel, colour := item.colour }) :
    s.importItem kept item = (s.countConflict, kept) := by
  simp only [State.importItem, if_neg hc, hf, if_pos ((s.pairClash_iff _ _).2 hclash)]

/-- R10: a new site for which there is no place counts as a skip. -/
theorem State.importItem_no_place (hclash : ¬s.clashes none { channel := item.channel, colour := item.colour })
    (hplace : s.hasNoPlace kept) : s.importItem kept item = (s.countSkip, kept) := by
  simp only [State.importItem, if_neg hc, hf, State.pairClash_eq_false hclash, State.placeFor_of_hasNoPlace hplace]
  rfl

/-- R10, R15: any other new site is admitted and kept for the rest of this import. -/
theorem State.importItem_admitted {i : Nat}
    (hclash : ¬s.clashes none { channel := item.channel, colour := item.colour }) (hplace : s.takesNew kept i) :
    s.importItem kept item =
      ((s.withoutObject i).setTable
          (s.withEntry i
            (admittedEntry item.code { channel := item.channel, colour := item.colour } .neighbour 0
              (some (neighbourDigest item)))),
        i :: kept) := by
  simp only [State.importItem, if_neg hc, hf, State.pairClash_eq_false hclash, State.placeFor_of_takesNew hplace,
    State.replaceEntry_eq]
  rfl

end

end

/-- R6, R9: the table behind an entry that has taken a channel and colour and a digest. -/
theorem State.takePair_writeDigest_table {s : State} {i : Nat} (p : Pair) (d : Digest) (hi : i < s.table.entries.length) :
    ((s.takePair i p).writeDigest i d).table = s.withEntry i { (s.entry i).repaired p with digest := some d } := by
  have htable : ((s.takePair i p).writeDigest i d).table =
      (s.takePair i p).withEntry i { (s.takePair i p).entry i with digest := some d } := rfl
  rw [htable, State.takePair_entry p hi, State.withEntry, State.takePair_table]
  simp only [State.withEntry, List.set_set]

/-- R6, R70: an entry that takes another channel and colour takes the watch with it. -/
theorem State.takePair_ranking {s : State} {i : Nat} {p : Pair} (hp : (s.entry i).pair ≠ p) :
    (s.takePair i p).ranking =
      { s.ranking with watch := if s.ranking.watch = some i then none else s.ranking.watch } := by
  rw [State.takePair, if_neg hp, State.fallToListed, State.dwellCleared_ranking]
  simp

/-! ## What an import leaves (R9, R14) -/

/-- The Serving Store and the last serving beacon do not follow the watch. -/
theorem State.takePair_serving (s : State) (i : Nat) (p : Pair) :
    (s.takePair i p).beacon.servingStore = s.beacon.servingStore
      ∧ (s.takePair i p).beacon.lastServing = s.beacon.lastServing := by
  have hcleared (t : State) : (t.dwellCleared i).beacon.servingStore = t.beacon.servingStore
      ∧ (t.dwellCleared i).beacon.lastServing = t.beacon.lastServing := by
    unfold State.dwellCleared State.clearWatch
    split
    · split
      · exact State.setOwner_serving _ none
      · exact ⟨rfl, rfl⟩
    · exact ⟨rfl, rfl⟩
  unfold State.takePair
  split
  · exact ⟨rfl, rfl⟩
  · exact hcleared _

/-- R9: the neighbour import leaves the Serving Store and the last serving beacon. -/
theorem State.importItem_beacon (s : State) (kept : List Nat) (item : Neighbour) :
    (s.importItem kept item).1.beacon.servingStore = s.beacon.servingStore
      ∧ (s.importItem kept item).1.beacon.lastServing = s.beacon.lastServing := by
  simp only [State.importItem]
  repeat' split
  all_goals simp [State.takePair_serving]

/-- R9: so does the import of a whole list. -/
theorem State.importItems_beacon (s : State) (kept : List Nat) (items : List Neighbour) :
    (s.importItems kept items).beacon.servingStore = s.beacon.servingStore
      ∧ (s.importItems kept items).beacon.lastServing = s.beacon.lastServing := by
  induction items generalizing s kept with
  | nil => exact ⟨rfl, rfl⟩
  | cons item rest ih =>
    obtain ⟨hstore, hlast⟩ := s.importItem_beacon kept item
    obtain ⟨hstore', hlast'⟩ := ih (s.importItem kept item).1 (s.importItem kept item).2
    exact ⟨hstore'.trans hstore, hlast'.trans hlast⟩

/-- R8, R14: the place for a new site is never the SERVING entry's. -/
theorem State.status_of_placeFor {s : State} {kept : List Nat} {i : Nat} (h : s.placeFor kept = some i) :
    (s.entry i).status ≠ .serving := by
  unfold State.placeFor at h
  split at h
  · next j hj =>
    obtain rfl : j = i := by simpa using h
    have hfree := List.find?_some hj
    simp only [Entry.occupied, Bool.not_eq_true', bne_eq_false_iff_eq] at hfree
    simp [hfree]
  · rcases s.victim_cases kept with ⟨hnone, -⟩ | ⟨j, hj, -, hev, -⟩
    · simp [hnone] at h
    · obtain rfl : j = i := by simpa [hj] using h
      rcases State.status_of_evictable hev with hst | hst <;> simp [hst]

/-- Writing a digest leaves every other entry. -/
theorem State.writeDigest_entry_other (s : State) {i j : Nat} (d : Digest) (h : j ≠ i) :
    (s.writeDigest i d).entry j = s.entry j := State.entry_setEntry_other s _ h

/-- R6: taking a channel and colour leaves every other entry. -/
theorem State.takePair_entry_other (s : State) {i j : Nat} (p : Pair) (h : j ≠ i) :
    (s.takePair i p).entry j = s.entry j := by
  simp [State.entry, State.takePair_table, State.withEntry, List.getElem?_set_ne h.symm]

/-- R9, R10, R14: no neighbour item changes the SERVING entry. -/
theorem State.importItem_entry_serving {s : State} (kept : List Nat) (item : Neighbour) {i : Nat}
    (hs : (s.entry i).status = .serving) : (s.importItem kept item).1.entry i = s.entry i := by
  have hne {j : Nat} (hj : (s.entry j).status ≠ .serving) : i ≠ j := fun h => hj (h ▸ hs)
  simp only [State.importItem]
  split
  · rfl
  · split
    · next j _ =>
      split
      · rfl
      · next hj =>
        split
        · exact State.writeDigest_entry_other s _ (hne hj)
        · split
          · rfl
          · rw [State.writeDigest_entry_other _ _ (hne hj), State.takePair_entry_other s _ (hne hj)]
    · split
      · rfl
      · split
        · next j hj => exact State.entry_setEntry_other (s.loseObject j) _ (hne (State.status_of_placeFor hj))
        · rfl

/-- R9, R10, R14: nor does a whole list. -/
theorem State.importItems_entry_serving {s : State} (kept : List Nat) (items : List Neighbour) {i : Nat}
    (hs : (s.entry i).status = .serving) : (s.importItems kept items).entry i = s.entry i := by
  induction items generalizing s kept with
  | nil => rfl
  | cons item rest ih =>
    have hitem := State.importItem_entry_serving kept item hs
    exact (ih (s := (s.importItem kept item).1) _ (by rw [hitem, hs])).trans hitem

/-! ## Serving beacons (R47, R48, R49) -/

/-- R49: what the comparison compares. -/
theorem Summary.sameAs_iff (a b : Summary) :
    a.sameAs b = true ↔
      a.edition = b.edition ∧ a.isolated = b.isolated ∧ a.closed = b.closed ∧ a.emergencyOnly = b.emergencyOnly := by
  simp only [Summary.sameAs, Bool.and_eq_true, beq_iff_eq, and_assoc]

/-- R49: the new beacon becomes the last serving beacon; the stores stand. -/
theorem State.compareServing_beacon (s : State) (i : Nat) (b : Summary) :
    (s.compareServing i b).beacon = { s.beacon with lastServing := some b } := by
  unfold State.compareServing
  split
  · split
    · rfl
    · simp
  · rfl

/-- R49: the first serving beacon is compared with none. -/
theorem State.compareServing_host_first {s : State} (i : Nat) (b : Summary) (h : s.beacon.lastServing = none) :
    (s.compareServing i b).host = s.host := by
  simp only [State.compareServing, h, State.setBeacon_host]

/-- R49: a later one raises BEACON CHANGED where it differs from the last. -/
theorem State.compareServing_host_later {s : State} {old : Summary} (i : Nat) (b : Summary)
    (h : s.beacon.lastServing = some old) :
    (s.compareServing i b).host =
      if old.edition = b.edition ∧ old.isolated = b.isolated ∧ old.closed = b.closed ∧ old.emergencyOnly = b.emergencyOnly
      then s.host
      else s.host.offer (.beaconChanged i b.code old.edition b.edition b.isolated b.closed b.emergencyOnly) := by
  simp only [State.compareServing, h, State.setBeacon_host, ← Summary.sameAs_iff]
  split
  · rfl
  · exact State.event_host s _

section
variable {s : State} {i position : Nat} {f : Fragment}

/-- R45: a fragment that leaves the Serving Store short of one. -/
theorem State.servingFragment_placed (h : (s.beacon.servingStore.place position f).complete = false) :
    s.servingFragment i position f =
      (s.setBeacon { s.beacon with servingStore := s.beacon.servingStore.place position f }, BeaconReport.nothing) := by
  simp only [State.servingFragment, h]
  rfl

section
variable (hfull : (s.beacon.servingStore.place position f).complete = true)
include hfull

/-- R46: a full Serving Store that fails. -/
theorem State.servingFragment_failed (h : (s.beacon.servingStore.place position f).accepted = false) :
    s.servingFragment i position f =
      (s.setBeacon
          { s.beacon with servingStore := Store.cleared, failures := min (s.beacon.failures + 1) 65535 },
        BeaconReport.nothing) := by
  simp only [State.servingFragment, hfull, h]
  rfl

/-- R47: an accepted beacon of another site. -/
theorem State.servingFragment_other (hacc : (s.beacon.servingStore.place position f).accepted = true)
    (hcode : (s.beacon.servingStore.place position f).summary.code ≠ (s.entry i).code) :
    s.servingFragment i position f =
      if s.roam.engine = .camped then
        ((s.setBeacon { s.beacon with servingStore := Store.cleared }).setIntake
            { s.intake with loss := 0, timing := .holdover },
          { identityLost := true, accepted := none })
      else (s.setBeacon { s.beacon with servingStore := Store.cleared }, BeaconReport.nothing) := by
  simp only [State.servingFragment, hfull, hacc, if_neg hcode]
  rfl

/-- R48: an accepted beacon of the SERVING site. -/
theorem State.servingFragment_accepted (hacc : (s.beacon.servingStore.place position f).accepted = true)
    (hcode : (s.beacon.servingStore.place position f).summary.code = (s.entry i).code) :
    s.servingFragment i position f =
      ((s.setBeacon { s.beacon with servingStore := Store.cleared }).acceptServing i
          (s.beacon.servingStore.place position f).summary
          (readNeighbours (s.beacon.servingStore.place position f).bytes),
        BeaconReport.nothing) := by
  simp only [State.servingFragment, hfull, hacc, if_pos hcode]
  rfl

end

end

/-- R48: of the table an accepted serving beacon writes the digest and imports the neighbours, and the SERVING entry keeps the
digest through the import. -/
theorem State.acceptServing_table {s : State} {i : Nat} (b : Summary) (neighbours : List Neighbour)
    (hi : s.serving = some i) :
    (s.acceptServing i b neighbours).entry i = { s.entry i with digest := some (ownDigest b) }
      ∧ (s.acceptServing i b neighbours).table =
          ((s.setTable (s.withEntry i { s.entry i with digest := some (ownDigest b) })).importItems [] neighbours).table := by
  obtain ⟨hlt, hstatus⟩ := State.serving_eq_some hi
  have hwritten : (s.writeDigest i (ownDigest b)).entry i = { s.entry i with digest := some (ownDigest b) } :=
    State.entry_setEntry_same _ hlt
  have htable : (s.acceptServing i b neighbours).table =
      ((s.writeDigest i (ownDigest b)).importItems [] neighbours).table := by
    rw [State.acceptServing]
    simp only [State.compareServing_frame]
  refine ⟨?_, htable⟩
  rw [State.entry_congr htable, State.importItems_entry_serving [] neighbours (by rw [hwritten, hstatus]), hwritten]

/-- R48, R49: the beacon accepted is compared with the last serving beacon as it stood before the import. -/
theorem State.acceptServing_compared (s : State) (i : Nat) (b : Summary) (neighbours : List Neighbour) :
    (s.acceptServing i b neighbours).beacon.servingStore = s.beacon.servingStore
      ∧ (s.acceptServing i b neighbours).beacon.lastServing = some b
      ∧ (s.acceptServing i b neighbours).host = (s.compareServing i b).host := by
  obtain ⟨hstore, hlast⟩ := (s.writeDigest i (ownDigest b)).importItems_beacon [] neighbours
  have hhost : ((s.writeDigest i (ownDigest b)).importItems [] neighbours).host = s.host := by
    simp only [State.importItems_frame, State.writeDigest_frame]
  rw [State.acceptServing, State.compareServing_beacon]
  refine ⟨hstore, rfl, ?_⟩
  cases h : s.beacon.lastServing with
  | none => rw [State.compareServing_host_first i b (hlast.trans h), State.compareServing_host_first i b h, hhost]
  | some old => rw [State.compareServing_host_later i b (hlast.trans h), State.compareServing_host_later i b h, hhost]

/-! ## Watch beacons (R51, R52, R53) -/

section
variable {s : State} {position : Nat} {f : Fragment}

/-- R45: a fragment that leaves the Watch Store short of one. -/
theorem State.watchFragment_placed (h : (s.beacon.watchStore.place position f).complete = false) :
    s.watchFragment position f =
      (s.setBeacon { s.beacon with watchStore := s.beacon.watchStore.place position f }, BeaconReport.nothing) := by
  simp only [State.watchFragment, h]
  rfl

section
variable (hfull : (s.beacon.watchStore.place position f).complete = true)
include hfull

/-- R46: a full Watch Store that fails. -/
theorem State.watchFragment_failed (h : (s.beacon.watchStore.place position f).accepted = false) :
    s.watchFragment position f =
      (s.setBeacon { s.beacon with watchStore := Store.cleared, failures := min (s.beacon.failures + 1) 65535 },
        BeaconReport.nothing) := by
  simp only [State.watchFragment, hfull, h]
  rfl

/-- R51: an accepted watch beacon becomes the last watch beacon before it is acted on. -/
theorem State.watchFragment_accepted (h : (s.beacon.watchStore.place position f).accepted = true) :
    s.watchFragment position f =
      (s.setBeacon
          { s.beacon with
            watchStore := Store.cleared
            lastWatch := some (s.beacon.watchStore.place position f).summary }).acceptWatch
        (s.beacon.watchStore.place position f).summary := by
  simp only [State.watchFragment, hfull, h]
  rfl

end

end

/-- R51: in REGISTERING an accepted watch beacon is reported, and writes the target's digest when it names it. -/
theorem State.acceptWatch_registering {s : State} {i : Nat} (b : Summary) (he : s.roam.engine = .registering)
    (hf : s.findCode s.access.target = some i) :
    s.acceptWatch b =
      (s.setTable
          (if (s.entry i).code = b.code then s.withEntry i { s.entry i with digest := some (ownDigest b) } else s.table),
        { identityLost := false, accepted := some b }) := by
  simp only [State.acceptWatch, he, State.targetAccepted, hf]
  split <;> rfl

/-- R51: in CAMPED a beacon of the watch candidate writes its digest. -/
theorem State.acceptWatch_candidate {s : State} {w : Nat} {b : Summary} (he : s.roam.engine = .camped)
    (hw : s.ranking.watch = some w) (hcode : (s.entry w).code = b.code) :
    s.acceptWatch b =
      (s.setTable (s.withEntry w { s.entry w with digest := some (ownDigest b) }), BeaconReport.nothing) := by
  simp only [State.acceptWatch, he, State.watchAccepted, hw, if_pos hcode]
  rfl

/-- R52: in CAMPED a beacon of another site demotes the watch candidate. -/
theorem State.acceptWatch_mismatch {s : State} {w : Nat} {b : Summary} (he : s.roam.engine = .camped)
    (hw : s.ranking.watch = some w) (hcode : (s.entry w).code ≠ b.code) :
    s.acceptWatch b = ((s.fallToListed w).countConflict, BeaconReport.nothing) := by
  simp only [State.acceptWatch, he, State.watchAccepted, hw, if_neg hcode]

/-- R52, R70: the demotion takes the watch and the Watch Store's owner with it and counts a conflict. -/
theorem State.demotedWatch_effect {s : State} {w : Nat} (he : s.roam.engine = .camped) (hw : s.ranking.watch = some w) :
    (s.fallToListed w).countConflict.ranking = { s.ranking with watch := none }
      ∧ (s.fallToListed w).countConflict.beacon.owner = none
      ∧ (s.fallToListed w).countConflict.table =
          { s.withEntry w { s.entry w with status := .listed, level := 0, samples := 0, dwell := 0 } with
            conflicts := min (s.table.conflicts + 1) 65535 } := by
  have hwatch : (s.setEntry w (s.entry w).fallen).ranking.watch = some w := hw
  have hcamped : (s.setEntry w (s.entry w).fallen).roam.engine = .camped := he
  obtain ⟨howner, -⟩ := State.dwellCleared_beacon_of_watch hwatch hcamped
  refine ⟨?_, howner, ?_⟩
  · simp [State.fallToListed, State.dwellCleared_ranking, hw]
  · simp only [State.countConflict, State.setTable_table, State.fallToListed, State.dwellCleared_frame]
    rfl

/-- R53: in a hunt-listen an accepted beacon goes to hunt acceptance. -/
theorem State.acceptWatch_listening {s : State} {l : Listen} (b : Summary)
    (he : s.roam.engine = .hunt ∨ s.roam.engine = .direct) (hl : s.scan.listen = some l) :
    s.acceptWatch b = (s.huntAccept b l, BeaconReport.nothing) := by
  rcases he with he | he <;> simp only [State.acceptWatch, he, hl]

/-! ## The fragment of a record (R43) -/

/-- R43: a record that carries no fragment to place. -/
theorem State.beaconRecord_of_nothing {s : State} {r : Frame}
    (h : r.settling = true ∨ r.check ≠ .pass ∨ r.fragment = none ∨ r.sync = none) :
    s.beaconRecord r = (s, BeaconReport.nothing) := by
  unfold State.beaconRecord
  split
  · next hfragment hsync => exact if_pos (by simpa [hfragment, hsync] using h)
  · rfl

section
variable {s : State} {r : Frame} {f : Fragment} {colour : Nat} (hset : r.settling = false) (hsync : r.sync = some colour)
include hset hsync

/-- R32: which channel and colour a synced record with settling clear carries. -/
theorem Frame.carries_iff (e : Entry) : r.carries e.pair = true ↔ e.channel = r.channel ∧ e.colour = colour := by
  simp [Frame.carries, hset, hsync, Entry.pair, eq_comm (a := r.channel), eq_comm (a := colour)]

/-- R32: a serving sync record is on the SERVING entry's channel with its colour. -/
theorem State.servingSync_iff :
    s.servingSync r = true ↔ ∃ i, s.serving = some i ∧ (s.entry i).channel = r.channel ∧ (s.entry i).colour = colour := by
  cases hserving : s.serving with
  | none => simp [State.servingSync, hserving]
  | some i => simp [State.servingSync, hserving, Frame.carries_iff hset hsync]

variable (hcheck : r.check = .pass) (hf : r.fragment = some f)
include hcheck hf

/-- R43: a fragment of a serving sync record goes to the Serving Store. -/
theorem State.beaconRecord_serving {i : Nat} (hi : s.serving = some i) (hchannel : (s.entry i).channel = r.channel)
    (hcolour : (s.entry i).colour = colour) : s.beaconRecord r = s.servingFragment i r.position f := by
  have hserving : s.servingSync r = true := (State.servingSync_iff hset hsync).2 ⟨i, hi, hchannel, hcolour⟩
  have hplaced : ¬(r.settling = true ∨ r.check ≠ .pass) := by simp [hset, hcheck]
  simp only [State.beaconRecord, hf, hsync, if_neg hplaced, if_pos hserving, hi]

/-- R43: any other goes to the Watch Store where its owner is the record's channel and colour, else to none. -/
theorem State.beaconRecord_not_serving
    (hnot : ∀ i, s.serving = some i → ¬((s.entry i).channel = r.channel ∧ (s.entry i).colour = colour)) :
    s.beaconRecord r =
      if s.beacon.owner = some { channel := r.channel, colour := colour } then s.watchFragment r.position f
      else (s, BeaconReport.nothing) := by
  have hserving : ¬s.servingSync r = true := by
    rw [State.servingSync_iff hset hsync]
    rintro ⟨i, hi, hpair⟩
    exact hnot i hi hpair
  have hplaced : ¬(r.settling = true ∨ r.check ≠ .pass) := by simp [hset, hcheck]
  simp only [State.beaconRecord, hf, hsync, if_neg hplaced, if_neg hserving]

end

end Sys2Proof.Machine
end

section
/-! PROOFS. The Beacon Assembler (O21). -/

namespace Sys2Proof.Proofs

open Sys2Proof Sys2Proof.Machine

/-- Settles O21: the stores, the beacons accepted from each, the neighbour import, and the store a record's fragment goes to. -/
theorem fragmentFillsItsPosition : Obligations.FragmentFillsItsPosition := by
  unfold Obligations.FragmentFillsItsPosition
  refine ⟨fun st p f hp hlength => ?_, fun st => ⟨st.complete_iff, st.accepted_iff⟩, fun s i p f hi => ?_, fun s p f => ?_,
    fun s kept item rest => ⟨rfl, rfl⟩, fun s kept item _ => ?_, fun s p f l hfull hacc he hl => ?_, fun s r => ?_⟩
  · exact ⟨st.place_edition p f, Store.place_length hlength p f, Store.place_getElem?_same f hp hlength,
      fun q hq hne => st.place_getElem?_other f hq hne⟩
  · refine ⟨State.servingFragment_placed, State.servingFragment_failed, State.servingFragment_other,
      fun hfull hacc hcode => ?_⟩
    rw [State.servingFragment_accepted hfull hacc hcode]
    obtain ⟨hentry, htable⟩ := State.acceptServing_table (s := s.setBeacon { s.beacon with servingStore := Store.cleared })
      (s.beacon.servingStore.place p f).summary (readNeighbours (s.beacon.servingStore.place p f).bytes) hi
    obtain ⟨hstore, hlast, hhost⟩ := (s.setBeacon { s.beacon with servingStore := Store.cleared }).acceptServing_compared i
      (s.beacon.servingStore.place p f).summary (readNeighbours (s.beacon.servingStore.place p f).bytes)
    refine ⟨rfl, hentry, htable, hstore, hlast, hhost.trans ?_⟩
    split
    · next hnone => exact State.compareServing_host_first i _ hnone
    · next old hsome => exact State.compareServing_host_later i _ hsome
  · refine ⟨State.watchFragment_placed, State.watchFragment_failed, fun hfull hacc he i hf => ?_,
      fun hfull hacc he w hw => ⟨fun hcode => ?_, fun hcode => ?_⟩⟩
    · exact (State.watchFragment_accepted hfull hacc).trans (State.acceptWatch_registering _ he hf)
    · exact (State.watchFragment_accepted hfull hacc).trans (State.acceptWatch_candidate he hw hcode)
    · have hmismatch := (State.watchFragment_accepted hfull hacc).trans
        (State.acceptWatch_mismatch (s := s.setBeacon _) he hw hcode)
      rw [hmismatch]
      exact ⟨rfl, State.demotedWatch_effect (s := s.setBeacon _) he hw⟩
  · refine ⟨State.importItem_no_code kept, fun hc i hf => ⟨State.importItem_serving kept hc hf, fun hs hp => ?_,
      fun hs ht hp => ⟨fun hclash => ?_, fun hclash => ?_⟩⟩, fun hc hf => ⟨State.importItem_new_clash kept hc hf,
      State.importItem_no_place kept hc hf, fun hclash i hplace => State.importItem_admitted kept hc hf hclash hplace⟩⟩
    · exact State.importItem_digest kept hc hf hs (hp.imp_left ((Entry.pair_eq_iff _ _).2))
    · exact State.importItem_clash kept hc hf hs (mt (Entry.pair_eq_iff _ _).1 hp) ht hclash
    · have hpair := mt (Entry.pair_eq_iff _ _).1 hp
      rw [State.importItem_moved kept hc hf hs hpair ht hclash]
      obtain ⟨hi, -⟩ := State.findCode_eq_some hf
      exact ⟨rfl, State.takePair_writeDigest_table _ _ hi, State.takePair_ranking hpair⟩
  · exact (State.watchFragment_accepted hfull hacc).trans (State.acceptWatch_listening _ he hl)
  · exact ⟨State.beaconRecord_of_nothing, fun f colour hset hcheck hf hsync =>
      ⟨fun i hi => State.beaconRecord_serving hset hsync hcheck hf hi,
        State.beaconRecord_not_serving hset hsync hcheck hf⟩⟩

end Sys2Proof.Proofs
end

section
/-! SUPPORT. The hunt: the cursor's move, hunt visits, hunt-listens and the hunt timer (R44, R83, R84, R85, R86, R105). -/

namespace Sys2Proof.Machine

/-! ## The cursor and the next hunt visit (R83, R84) -/

/-- R84: the cursor behind its move. -/
def State.nextCursor (s : State) : Nat :=
  if s.scan.cursor + 1 < s.scan.huntList.length then s.scan.cursor + 1 else 0

/-- R83: the hunt list behind the cursor's move: past the last item it is built again. -/
def State.nextHuntList (s : State) : List Nat :=
  if s.scan.cursor + 1 < s.scan.huntList.length then s.scan.huntList else s.huntSources

/-- R83, R84: the cursor's move behind a hunt visit or a hunt-listen, as a whole. -/
theorem State.huntMoved_eq (s : State) :
    s.huntMoved =
      s.setScan
        { s.scan with hunt := none, listen := none, huntList := s.nextHuntList, cursor := s.nextCursor } := by
  have hsources : (s.setScan { s.scan with hunt := none, listen := none }).huntSources = s.huntSources :=
    State.huntSources_congr rfl rfl rfl
  rw [State.nextHuntList, State.nextCursor]
  by_cases h : s.scan.cursor + 1 < s.scan.huntList.length
  · rw [if_pos h, if_pos h]
    exact if_pos h
  · rw [if_neg h, if_neg h, ← hsources]
    exact if_neg h

/-- R84: a hunt visit that begins with none in progress, as a whole. -/
theorem State.beginHuntVisit_eq {s : State} (h : s.scan.hunt = none) :
    s.beginHuntVisit =
      { s with
        scan :=
          { s.scan with
            hunt := s.scan.huntList[s.scan.cursor]?.map fun channel => { channel := channel, stage := .settle } }
        frontEnd := s.frontEnd ++ (s.scan.huntList[s.scan.cursor]?.map FrontEndRecord.tune).toList } := by
  unfold State.beginHuntVisit
  split
  · next channel hc =>
    rw [hc]
    rfl
  · next hc => simp [hc, ← h]

/-- R84, R85, R86: what follows a hunt visit without a site or a hunt-listen, as a whole and in every engine state. -/
theorem State.huntOn_eq (s : State) :
    s.huntOn =
      { s with
        scan :=
          { s.scan with
            listen := none, huntList := s.nextHuntList, cursor := s.nextCursor
            hunt :=
              if s.roam.engine = .hunt then
                s.nextHuntList[s.nextCursor]?.map fun channel => { channel := channel, stage := .settle }
              else none }
        frontEnd :=
          s.frontEnd ++
            (if s.roam.engine = .hunt then (s.nextHuntList[s.nextCursor]?.map FrontEndRecord.tune).toList
            else if s.roam.engine = .direct then [FrontEndRecord.tune (s.par .directChannel)]
            else []) } := by
  by_cases hhunt : s.roam.engine = .hunt
  · rw [State.huntOn_cases (.inl hhunt), if_pos hhunt, State.beginHuntVisit_eq (State.moveCursor_hunt _),
      State.huntMoved_eq, if_pos hhunt, if_pos hhunt]
    rfl
  · by_cases hdirect : s.roam.engine = .direct
    · rw [State.huntOn_cases (.inr hdirect), if_neg hhunt, State.huntMoved_eq, if_neg hhunt, if_neg hhunt, if_pos hdirect]
      rfl
    · have hmoved : s.huntOn = s.huntMoved := by
        unfold State.huntOn
        split
        · next h => exact absurd h hhunt
        · next h => exact absurd h hdirect
        · rfl
      rw [hmoved, State.huntMoved_eq, if_neg hhunt, if_neg hhunt, if_neg hdirect, List.append_nil]
      rfl

/-! ## The end of a hunt-listen (R44, R85) -/

/-- R44: the owner's change moves the Beacon Assembler alone. -/
theorem State.setOwner_eq (s : State) (owner : Option Pair) : s.setOwner owner = s.setBeacon (s.setOwner owner).beacon := by
  unfold State.setOwner
  split <;> rfl

/-- R44: the Beacon Assembler under another owner, and under the same. -/
theorem State.setOwner_beacon (s : State) (owner : Option Pair) :
    (s.setOwner owner).beacon =
      if s.beacon.owner = owner then s.beacon
      else { s.beacon with owner := owner, watchStore := Store.cleared, lastWatch := none } := by
  unfold State.setOwner
  split <;> rfl

/-- R83: what follows a hunt-listen does not lie in the Beacon Assembler. -/
theorem State.huntOn_setBeacon (s : State) (x : BeaconAssembler) : (s.setBeacon x).huntOn = s.huntOn.setBeacon x := by
  have hlist : (s.setBeacon x).nextHuntList = s.nextHuntList := by
    have hsources : (s.setBeacon x).huntSources = s.huntSources := State.huntSources_congr rfl rfl rfl
    rw [State.nextHuntList, hsources]
    rfl
  rw [State.huntOn_eq, State.huntOn_eq, hlist]
  rfl

/-- R44, R85: a hunt-listen that ends is followed as a hunt visit is, and its owner goes. -/
theorem State.endListen_eq (s : State) : s.endListen = s.huntOn.setBeacon (s.setOwner none).beacon := by
  rw [State.endListen, State.setOwner_eq, State.huntOn_setBeacon]
  rfl

/-- R85: the read limit's row. -/
theorem exec_huntListenReadLimit {s : State} {l : Listen} (hs : s.pins.supply = .running) (hl : s.scan.listen = some l)
    (hlimit : l.limit ≤ l.count + 1) : exec .huntListenReadLimit s = .next s.endListen := by
  refine congrArg Host.Outcome.next ((whileRunning_of_running hs).trans ?_)
  simp only [State.huntListenReadLimit, hl, if_pos hlimit]

/-- R83, R84: where the cursor goes behind a hunt-listen. -/
theorem State.endListen_cursor (s : State) :
    (s.scan.cursor + 1 < s.scan.huntList.length →
        s.endListen.scan.cursor = s.scan.cursor + 1 ∧ s.endListen.scan.huntList = s.scan.huntList)
      ∧ (s.scan.huntList.length ≤ s.scan.cursor + 1 →
        s.endListen.scan.cursor = 0 ∧ s.endListen.scan.huntList = s.huntSources) := by
  rw [State.endListen_eq, State.huntOn_eq]
  refine ⟨fun h => ⟨if_pos h, if_pos h⟩, fun h => ⟨if_neg (Nat.not_lt.2 h), if_neg (Nat.not_lt.2 h)⟩⟩

/-- R84, R86: the hunt visit and the tuning behind a hunt-listen. -/
theorem State.endListen_hunt (s : State) :
    (s.roam.engine = .direct →
        s.endListen.scan.hunt = none
          ∧ s.endListen.frontEnd = s.frontEnd ++ [FrontEndRecord.tune (s.par .directChannel)])
      ∧ (s.roam.engine = .hunt →
        s.endListen.scan.hunt =
            (s.endListen.scan.huntList[s.endListen.scan.cursor]?.map fun channel =>
              { channel := channel, stage := .settle })
          ∧ s.endListen.frontEnd =
              s.frontEnd ++ (s.endListen.scan.huntList[s.endListen.scan.cursor]?.map FrontEndRecord.tune).toList) := by
  rw [State.endListen_eq, State.huntOn_eq]
  exact ⟨fun h => by simp [h], fun h => by simp [h]⟩

/-! ## The hunt limit (R86, R105) -/

/-- R105: the hunt timer's next value. -/
def State.nextHuntTimer (s : State) : Nat := min (s.roam.huntTimer + 1) 255

/-- R105: the hunt timer at the hunt limit, with the expiry flag set. -/
def State.huntExpired (s : State) : State := s.setRoam { s.roam with huntTimer := s.nextHuntTimer, expired := true }

/-- R105: below the hunt limit the hunt timer counts. -/
theorem State.huntTick_below {s : State} (h : s.nextHuntTimer < s.par .huntLimit) :
    s.huntTick = s.setRoam { s.roam with huntTimer := s.nextHuntTimer } := if_neg (Nat.not_le.2 h)

/-- R105: at the hunt limit the expiry flag is set, and HUNT becomes DIRECT. -/
theorem State.huntTick_at_limit {s : State} (h : s.par .huntLimit ≤ s.nextHuntTimer) :
    s.huntTick = if s.roam.engine = .hunt then s.huntExpired.enterDirect .huntLimit else s.huntExpired := if_pos h

/-- R105: the hunt limit's row. -/
theorem exec_huntLimit {s : State} (hs : s.pins.supply = .running) (hruns : s.roam.huntRuns = true)
    (hlimit : s.par .huntLimit ≤ s.nextHuntTimer) : exec .huntLimit s = .next s.huntTick :=
  congrArg Host.Outcome.next ((whileRunning_of_running hs).trans (if_pos ⟨hruns, hlimit⟩))

/-- R86, R90, R141: the engine, TXINH, the event and the Watch Store's owner at the entry to DIRECT. -/
theorem State.enterDirect_engine (s : State) (cause : EngineCause) :
    (s.enterDirect cause).roam = { s.roam with engine := .direct }
      ∧ (s.enterDirect cause).pins = { s.pins with txinh := false }
      ∧ (s.enterDirect cause).host = s.host.offer (.engineState s.roam.engine .direct cause false)
      ∧ (s.enterDirect cause).beacon.owner = none := by
  simp [State.enterDirect, State.enterEngine_host, Engine.inhibits]

/-- R83, R86, R87: what the entry to DIRECT does to the Scan Sequencer and sends on the Front-End Link. -/
theorem State.enterDirect_scan (s : State) (cause : EngineCause) :
    (s.enterDirect cause).scan =
        { s.scan with
          visit := none, hunt := none, listen := none, pace := false, huntList := s.huntSources, cursor := 0 }
      ∧ (s.enterDirect cause).frontEnd = s.frontEnd ++ [FrontEndRecord.tune (s.par .directChannel)] := by
  have hsources : ((s.scanIdle.setOwner none).enterEngine .direct cause).huntSources = s.huntSources :=
    State.huntSources_congr (by simp) (by simp) (by simp)
  have hscan : s.scanIdle.scan = { s.scan with visit := none, hunt := none, listen := none } := rfl
  simp [State.enterDirect, State.buildHuntList, hsources, hscan, State.tune, State.issue, State.par]

/-- R86, R87, R90, R105, R141: the hunt limit in HUNT. -/
theorem State.huntTick_in_hunt {s : State} (he : s.roam.engine = .hunt) (hlimit : s.par .huntLimit ≤ s.nextHuntTimer) :
    s.huntTick.roam = { s.roam with engine := .direct, huntTimer := s.nextHuntTimer, expired := true }
      ∧ s.huntTick.pins = { s.pins with txinh := false }
      ∧ s.huntTick.host = s.host.offer (.engineState .hunt .direct .huntLimit false)
      ∧ s.huntTick.scan =
          { s.scan with
            visit := none, hunt := none, listen := none, pace := false, huntList := s.huntSources, cursor := 0 }
      ∧ s.huntTick.beacon.owner = none
      ∧ s.huntTick.frontEnd = s.frontEnd ++ [FrontEndRecord.tune (s.par .directChannel)] := by
  obtain ⟨hroam, hpins, hhost, howner⟩ := s.huntExpired.enterDirect_engine .huntLimit
  obtain ⟨hscan, hfront⟩ := s.huntExpired.enterDirect_scan .huntLimit
  have hsources : s.huntExpired.huntSources = s.huntSources := State.huntSources_congr rfl rfl rfl
  have hfrom : s.huntExpired.roam.engine = .hunt := he
  rw [State.huntTick_at_limit hlimit, if_pos he]
  rw [hfrom] at hhost
  rw [hsources] at hscan
  exact ⟨hroam, hpins, hhost, hscan, howner, hfront⟩

/-- R105: when the hunt timer runs. -/
theorem RoamEngine.huntRuns_iff (e : RoamEngine) :
    e.huntRuns = true ↔ e.engine = .hunt ∨ (e.engine = .registering ∧ e.enteredFrom = .hunt) := by
  rw [RoamEngine.huntRuns_eq, decide_eq_true_iff]

/-! ## The record that finds a site (R84, R85) -/

/-- R85: a hunt-listen begins at the measure record that finds a site. -/
theorem State.listenIfFound_of_found {s : State} {r : Frame} {h : HuntVisit} {colour : Nat} (hh : s.scan.hunt = some h)
    (hfinds : h.finds r = some colour) :
    s.listenIfFound r =
      (s.setScan
        { s.scan with
          hunt := none
          listen :=
            some
              { channel := h.channel, colour := colour, limit := s.par .readLimit, count := 0
                level := r.level } }).setOwner (some { channel := h.channel, colour := colour }) := by
  simp only [State.listenIfFound, hh, hfinds]

/-- R84: where no measure record of a hunt visit finds a site, none begins. -/
theorem State.listenIfFound_of_not_found {s : State} {r : Frame} (h : ∀ v, s.scan.hunt = some v → v.finds r = none) :
    s.listenIfFound r = s := by
  unfold State.listenIfFound
  split
  · next v hv => rw [h v hv]
  · rfl

/-- R84: what keeps a record from finding a site. -/
theorem HuntVisit.finds_eq_none {h : HuntVisit} {r : Frame}
    (hnot : h.stage ≠ .ended ∨ r.settling = true ∨ r.channel ≠ h.channel ∨ r.check ≠ .pass ∨ r.sync = none) :
    h.finds r = none := by
  unfold HuntVisit.finds
  split
  · next hall =>
    obtain ⟨hstage, hsettling, hchannel, hcheck⟩ := hall
    simpa [hstage, hsettling, hchannel, hcheck] using hnot
  · rfl

/-! ## The Scan Sequencer at the end of a record (R83, R84, R85, R86) -/

/-- R84: without a hunt visit whose measure record has been taken none is over. -/
theorem State.huntVisitOver_of_not_ended {s : State} (h : ∀ v, s.scan.hunt = some v → v.stage ≠ .ended) :
    s.huntVisitOver = s := by
  cases hv : s.scan.hunt with
  | some v => exact State.huntVisitOver_of_running hv (h v hv)
  | none => simp only [State.huntVisitOver, hv]

/-- R85: without a hunt-listen none is counted. -/
theorem State.listenFrame_of_none {s : State} (h : s.scan.listen = none) : s.listenFrame = s := by
  simp only [State.listenFrame, h]

/-- R85: below the read limit a hunt-listen counts the frame. -/
theorem State.listenFrame_below {s : State} {l : Listen} (h : s.scan.listen = some l) (hlimit : l.count + 1 < l.limit) :
    s.listenFrame = s.setScan { s.scan with listen := some { l with count := l.count + 1 } } := by
  simp only [State.listenFrame, h, if_neg (Nat.not_le.2 hlimit)]

/-- R85: at the read limit it ends. -/
theorem State.listenFrame_at_limit {s : State} {l : Listen} (h : s.scan.listen = some l) (hlimit : l.limit ≤ l.count + 1) :
    s.listenFrame = s.endListen := by
  simp only [State.listenFrame, h, if_pos hlimit]

/-- R84, R85: the end of a record in HUNT or DIRECT, apart from what a multiframe start adds. -/
def State.huntRecord (s : State) (listening : Bool) : State :=
  if listening then s.huntVisitOver.listenFrame else s.huntVisitOver

/-- R84, R86: a hunt visit that is over leaves no hunt-listen to count. -/
theorem State.huntRecord_of_ended {s : State} (listening : Bool) {h : HuntVisit} (hh : s.scan.hunt = some h)
    (hs : h.stage = .ended) : s.huntRecord listening = s.huntOn := by
  have hlisten : s.huntOn.scan.listen = none := by rw [State.huntOn_eq]
  rw [State.huntRecord, State.huntVisitOver_of_ended hh hs, State.listenFrame_of_none hlisten, ite_self]

/-- R85: with no hunt visit over, the hunt-listen alone has its part. -/
theorem State.huntRecord_of_not_ended {s : State} (listening : Bool) (h : ∀ v, s.scan.hunt = some v → v.stage ≠ .ended) :
    s.huntRecord listening = if listening then s.listenFrame else s := by
  rw [State.huntRecord, State.huntVisitOver_of_not_ended h]

/-- R84, R85: a record that is no multiframe start, or that finds HUNT at work or with a list. -/
theorem State.scanRecord_of_plain {s : State} {engine : Engine} (listening : Bool) {multiframe : Bool}
    (h : engine = .hunt ∨ engine = .direct) (he : s.roam.engine = engine)
    (hplain : multiframe = false
      ∨ (engine = .hunt ∧ (s.scan.huntList ≠ [] ∨ s.scan.hunt ≠ none ∨ s.scan.listen ≠ none))) :
    s.scanRecord engine listening multiframe = s.huntRecord listening := by
  rcases h with rfl | rfl
  · have hkept : ¬(multiframe = true ∧ s.scan.huntList.isEmpty = true ∧ s.scan.hunt = none ∧ s.scan.listen = none) := by
      rintro ⟨hm, hlist, hhunt, hlisten⟩
      simp [hm, List.isEmpty_iff.1 hlist, hhunt, hlisten] at hplain
    simp only [State.scanRecord, if_pos he, if_neg hkept]
    rfl
  · obtain rfl : multiframe = false := by simpa using hplain
    simp only [State.scanRecord, if_pos he]
    rfl

/-- R83: a multiframe start at which HUNT has nothing in progress and no list. -/
theorem State.scanRecord_of_empty {s : State} (listening : Bool) (he : s.roam.engine = .hunt) (hlist : s.scan.huntList = [])
    (hhunt : s.scan.hunt = none) (hlisten : s.scan.listen = none) :
    s.scanRecord .hunt listening true = s.buildHuntList.beginHuntVisit := by
  have hbegun := State.beginHuntVisit_eq (s := s.buildHuntList) hhunt
  have hrunning (v : HuntVisit) (hv : s.buildHuntList.beginHuntVisit.scan.hunt = some v) : v.stage ≠ .ended := by
    rw [hbegun] at hv
    obtain ⟨channel, -, rfl⟩ := Option.map_eq_some_iff.1 hv
    exact Stage.noConfusion
  have hnone : s.buildHuntList.beginHuntVisit.scan.listen = none := by
    rw [hbegun]
    exact hlisten
  have hrecord : s.scanRecord .hunt listening true = s.buildHuntList.beginHuntVisit.huntRecord listening := by
    simp only [State.scanRecord, if_pos he, hlist, hhunt, hlisten]
    rfl
  rw [hrecord, State.huntRecord_of_not_ended listening hrunning, State.listenFrame_of_none hnone, ite_self]

/-- R86: at a multiframe start in DIRECT the list and the pace come first. -/
theorem State.scanRecord_of_direct_multiframe {s : State} (listening : Bool) (he : s.roam.engine = .direct) :
    s.scanRecord .direct listening true = (s.rebuildEmpty.directPace listening).scanRecord .direct listening false := by
  have hengine : (s.rebuildEmpty.directPace listening).roam.engine = .direct := by simpa using he
  simp only [State.scanRecord, if_pos he, if_pos hengine]
  rfl

/-- R83: the empty list built again, as a whole. -/
theorem State.rebuildEmpty_eq (s : State) :
    s.rebuildEmpty =
      s.setScan
        { s.scan with
          huntList := if s.scan.huntList = [] then s.huntSources else s.scan.huntList
          cursor := if s.scan.huntList = [] then 0 else s.scan.cursor } := by
  unfold State.rebuildEmpty
  by_cases h : s.scan.huntList = []
  · rw [if_pos (List.isEmpty_iff.2 h), if_pos h, if_pos h, State.buildHuntList]
  · rw [if_neg (mt List.isEmpty_iff.1 h), if_neg h, if_neg h]
    rfl

/-- R86: a hunt visit falls due at the multiframe start. -/
def State.visitDue (s : State) (listening : Bool) : Bool :=
  decide (s.scan.pace = true ∧ s.call.call = .idle ∧ s.scan.hunt = none ∧ s.scan.listen = none ∧ listening = false)

/-- R86: the pace and the visit that falls due, as a whole. -/
theorem State.directPace_eq (s : State) (listening : Bool) :
    s.directPace listening =
      { s with
        scan :=
          { s.scan with
            pace := !s.scan.pace
            hunt :=
              if s.visitDue listening then
                s.scan.huntList[s.scan.cursor]?.map fun channel => { channel := channel, stage := .settle }
              else s.scan.hunt }
        frontEnd :=
          s.frontEnd ++
            (if s.visitDue listening then (s.scan.huntList[s.scan.cursor]?.map FrontEndRecord.tune).toList else []) } := by
  by_cases hdue : s.scan.pace = true ∧ s.call.call = .idle ∧ s.scan.hunt = none ∧ s.scan.listen = none ∧ listening = false
  · have hvisit : s.visitDue listening = true := decide_eq_true hdue
    simp only [State.directPace, if_pos hdue, hvisit, if_true]
    obtain ⟨-, -, hhunt, -⟩ := hdue
    exact State.beginHuntVisit_eq hhunt
  · have hvisit : s.visitDue listening = false := decide_eq_false hdue
    simp only [State.directPace, if_neg hdue, hvisit, Bool.false_eq_true, if_false, List.append_nil]
    rfl

end Sys2Proof.Machine
end

section
/-! PROOFS. The hunt's limits (O57). -/

namespace Sys2Proof.Proofs

open Sys2Proof Sys2Proof.Machine

/-- Settles O57: both rows are what a taken record does at the limit, and the Scan Sequencer's work at a record falls apart into
the list, the pace, the hunt visit and the hunt-listen. -/
theorem huntLimitsAct : Obligations.HuntLimitsAct := by
  unfold Obligations.HuntLimitsAct
  refine ⟨fun s hs => ⟨fun l hl hlimit => ?_, fun he hfrom hlimit => ?_, fun he hlimit => ?_⟩,
    fun s ran multiframe => ⟨fun hidle => ?_, fun hran hm hruns => ⟨fun hbelow => ?_, fun hs hlimit => ?_⟩⟩,
    State.huntOn_eq,
    fun s r => ⟨fun h colour hh hstage hsettling hchannel hcheck hsync => ?_, fun h =>
      State.listenIfFound_of_not_found fun v hv => HuntVisit.finds_eq_none (h v hv)⟩,
    fun s engine listening multiframe hengine => ⟨fun hne => ?_, fun he => ⟨fun hplain => ?_, ?_, ?_⟩⟩⟩
  · obtain ⟨hnext, hlast⟩ := s.endListen_cursor
    obtain ⟨hdirect, hhunt⟩ := s.endListen_hunt
    refine ⟨_, exec_huntListenReadLimit hs hl hlimit, ?_, ?_, hnext, hlast, hdirect, hhunt, ?_⟩
    · rw [State.endListen_eq, State.huntOn_eq]
      rfl
    · rw [State.endListen_eq, State.setBeacon_beacon, State.setOwner_owner]
    · simp
  · have hruns := (RoamEngine.huntRuns_iff s.roam).2 (.inr ⟨he, hfrom⟩)
    rw [exec_huntLimit hs hruns hlimit, State.huntTick_at_limit hlimit, if_neg (by simp [he])]
    rfl
  · have hruns := (RoamEngine.huntRuns_iff s.roam).2 (.inl he)
    obtain ⟨hroam, hpins, hhost, hscan, howner, hfront⟩ := State.huntTick_in_hunt he hlimit
    exact ⟨_, exec_huntLimit hs hruns hlimit, hroam, hpins, hhost, hscan, howner, hfront, by simp⟩
  · rw [State.huntWork, if_neg]
    rintro ⟨hm, hran, hruns⟩
    rw [RoamEngine.huntRuns_iff] at hruns
    rcases hidle with h | h | ⟨hhunt, hregistering⟩
    · simp [hran] at h
    · simp [hm] at h
    · exact hruns.elim hhunt hregistering
  · rw [State.huntWork, if_pos ⟨hm, hran, (RoamEngine.huntRuns_iff _).2 hruns⟩, State.huntTick_below hbelow]
    rfl
  · rw [State.huntWork, if_pos ⟨hm, hran, (RoamEngine.huntRuns_iff _).2 hruns⟩,
      exec_huntLimit hs ((RoamEngine.huntRuns_iff _).2 hruns) hlimit]
  · have hfinds : h.finds r = some colour := by rw [HuntVisit.finds, if_pos ⟨hstage, hsettling, hchannel, hcheck⟩, hsync]
    rw [State.listenIfFound_of_found hh hfinds, State.setOwner_eq, State.setOwner_beacon]
    rfl
  · rcases hengine with rfl | rfl <;> simp only [State.scanRecord, if_neg hne]
  · rw [State.scanRecord_of_plain listening hengine he hplain]
    refine ⟨fun h hh hstage => State.huntRecord_of_ended listening hh hstage, fun hrunning => ?_⟩
    rw [State.huntRecord_of_not_ended listening hrunning]
    refine ⟨fun hquiet => ?_, fun hlistening l hl => ⟨fun hbelow => ?_, fun hs hlimit => ?_⟩⟩
    · rcases hquiet with rfl | hnone
      · rfl
      · rw [State.listenFrame_of_none hnone, ite_self]
    · rw [if_pos hlistening, State.listenFrame_below hl hbelow]
    · rw [if_pos hlistening, State.listenFrame_at_limit hl hlimit, exec_huntListenReadLimit hs hl hlimit]
  · rintro rfl rfl hlist hh hl
    rw [State.scanRecord_of_empty listening he hlist hh hl, State.beginHuntVisit_eq (s := s.buildHuntList) hh,
      List.head?_eq_getElem?]
    rfl
  · rintro rfl rfl
    rw [State.scanRecord_of_direct_multiframe listening he, State.directPace_eq, State.rebuildEmpty_eq]
    rfl

end Sys2Proof.Proofs
end

section
/-! SUPPORT. The filtered levels (R62): what every operation of the Site Table keeps of their bound. -/

namespace Sys2Proof.Machine

/-! ## The filter (R61, R62) -/

/-- R61: a quotient truncated toward zero lies between 0 and its dividend. -/
theorem tdiv_two_pow_bounds (d : Int) (k : Nat) :
    min d 0 ≤ d.tdiv (2 ^ k) ∧ d.tdiv (2 ^ k) ≤ max d 0 ∧ (d.tdiv (2 ^ k) = 0 ↔ d < 2 ^ k ∧ -d < 2 ^ k) := by
  have hpow : (0 : Int) < 2 ^ k := by positivity
  have hbound (n : Int) (hn : 0 ≤ n) :
      0 ≤ n.tdiv (2 ^ k) ∧ n.tdiv (2 ^ k) ≤ n ∧ (n.tdiv (2 ^ k) = 0 ↔ n < 2 ^ k) := by
    rw [Int.tdiv_eq_ediv_of_nonneg hn]
    refine ⟨Int.ediv_nonneg hn hpow.le, Int.ediv_le_self _ hn, fun hzero => ?_, Int.ediv_eq_zero_of_lt hn⟩
    rw [← Int.mul_ediv_add_emod n (2 ^ k), hzero, mul_zero, zero_add]
    exact Int.emod_lt_of_pos n hpow
  rcases le_total 0 d with hd | hd
  · obtain ⟨hlow, hhigh, hzero⟩ := hbound d hd
    exact ⟨by omega, by omega, hzero.trans (by omega)⟩
  · obtain ⟨hlow, hhigh, hzero⟩ := hbound (-d) (by omega)
    rw [Int.neg_tdiv] at hlow hhigh hzero
    exact ⟨by omega, by omega, by omega⟩

/-- R61: a first sample is taken whole. -/
theorem filtered_first (k level c : Nat) : filtered k 0 level c = 16 * c := rfl

/-- R61: a later sample moves F by the difference divided by 2^k. -/
theorem filtered_later {n : Nat} (hn : n ≠ 0) (k level c : Nat) :
    (filtered k n level c : Int) = level + (16 * (c : Int) - level).tdiv (2 ^ k) := by
  obtain ⟨hlow, -, -⟩ := tdiv_two_pow_bounds (16 * (c : Int) - level) k
  rw [filtered, if_neg hn]
  omega

/-- R61: a later sample moves F toward 16 times the sample and never past it. -/
theorem filtered_between {n : Nat} (hn : n ≠ 0) (k level c : Nat) :
    min level (16 * c) ≤ filtered k n level c ∧ filtered k n level c ≤ max level (16 * c) := by
  obtain ⟨hlow, hhigh, -⟩ := tdiv_two_pow_bounds (16 * (c : Int) - level) k
  have hmove := filtered_later hn k level c
  omega

/-- R61: F stands exactly when the difference is below 2^k. -/
theorem filtered_eq_self_iff {n : Nat} (hn : n ≠ 0) (k level c : Nat) :
    filtered k n level c = level ↔ (16 * c : Int) - level < 2 ^ k ∧ (level : Int) - 16 * c < 2 ^ k := by
  obtain ⟨-, -, hzero⟩ := tdiv_two_pow_bounds (16 * (c : Int) - level) k
  have hmove := filtered_later hn k level c
  rw [neg_sub] at hzero
  rw [← hzero]
  omega

/-- R61: with shift 0 F goes the whole way. -/
theorem filtered_zero_shift (n level c : Nat) : filtered 0 n level c = 16 * c := by
  rcases eq_or_ne n 0 with rfl | hn
  · rfl
  · have hmove := filtered_later hn 0 level c
    rw [pow_zero, Int.tdiv_one] at hmove
    omega

/-- R62: the filter keeps its bound. -/
theorem filtered_le (k n : Nat) {level c : Nat} (hl : level ≤ 4080) (hc : c ≤ 255) : filtered k n level c ≤ 4080 := by
  rcases eq_or_ne n 0 with rfl | hn
  · rw [filtered_first]
    omega
  · have := (filtered_between hn k level c).2
    omega

/-! ## The bound over the table (R62) -/

/-- R55: the ageing of a digest leaves the level. -/
theorem Entry.digestTick_level (limit : Nat) (e : Entry) : (e.digestTick limit).level = e.level := by
  unfold Entry.digestTick
  split
  · dsimp only
    split <;> rfl
  · rfl

/-- R18: nor does the heard age move it. -/
theorem Entry.aged_level (e : Entry) : e.aged.level = e.level := by
  unfold Entry.aged
  split <;> rfl

/-- R62: every filtered level lies within 0..4080. -/
def SiteTable.LevelsBounded (t : SiteTable) : Prop := ∀ e ∈ t.entries, e.level ≤ 4080

namespace SiteTable.LevelsBounded

variable {s : State}

/-- An operation that leaves the table keeps the bound. -/
theorem frame {t : State} (h : s.table.LevelsBounded) (ht : t.table = s.table) : t.table.LevelsBounded := by
  rwa [ht]

/-- An operation that acts or not. -/
theorem ite {c : Prop} [Decidable c] {u v : State} (hu : u.table.LevelsBounded) (hv : v.table.LevelsBounded) :
    (if c then u else v).table.LevelsBounded := by
  split
  · exact hu
  · exact hv

/-- Every entry read from the table is bounded, one beyond its end being FREE. -/
theorem entry (h : s.table.LevelsBounded) (i : Nat) : (s.entry i).level ≤ 4080 := by
  rcases lt_or_ge i s.table.entries.length with hi | hi
  · rw [State.entry_eq_getElem hi]
    exact h _ (List.getElem_mem hi)
  · rw [State.entry_of_length_le hi]
    exact Nat.zero_le _

theorem setEntry (h : s.table.LevelsBounded) (i : Nat) {e : Entry} (he : e.level ≤ 4080) :
    (s.setEntry i e).table.LevelsBounded := fun x hx =>
  (List.mem_or_eq_of_mem_set hx).elim (h x) fun heq => heq ▸ he

theorem replaceEntry (h : s.table.LevelsBounded) (i : Nat) {e : Entry} (he : e.level ≤ 4080) :
    (s.replaceEntry i e).table.LevelsBounded := (h.frame (t := s.loseObject i) (by simp)).setEntry i he

/-- One entry changed without its level. -/
theorem update (h : s.table.LevelsBounded) (i : Nat) {e : Entry} (he : e.level = (s.entry i).level) :
    (s.setEntry i e).table.LevelsBounded := h.setEntry i (he.trans_le (h.entry i))

/-- A change of every entry that leaves its level. -/
theorem mapEntries (h : s.table.LevelsBounded) (f : Entry → Entry) (hf : ∀ e, (f e).level = e.level) :
    (s.mapEntries f).table.LevelsBounded := by
  intro x hx
  obtain ⟨e, he, rfl⟩ := List.mem_map.1 hx
  exact (hf e).trans_le (h e he)

/-! ## The Site Table -/

theorem clearWatch (h : s.table.LevelsBounded) : s.clearWatch.table.LevelsBounded := h.frame (by simp)

theorem dwellCleared (h : s.table.LevelsBounded) (i : Nat) : (s.dwellCleared i).table.LevelsBounded := h.frame (by simp)

theorem fallToListed (h : s.table.LevelsBounded) (i : Nat) : (s.fallToListed i).table.LevelsBounded :=
  (h.setEntry i (Nat.zero_le _)).dwellCleared i

theorem countConflict (h : s.table.LevelsBounded) : s.countConflict.table.LevelsBounded := h

theorem countSkip (h : s.table.LevelsBounded) : s.countSkip.table.LevelsBounded := h

theorem takePair (h : s.table.LevelsBounded) (i : Nat) (p : Pair) : (s.takePair i p).table.LevelsBounded :=
  h.ite ((h.update i (by rfl)).fallToListed i)

theorem loadSite (h : s.table.LevelsBounded) (code : Nat) (p : Pair) (preference : Int) (pinned : Bool) :
    (s.loadSite code p preference pinned).1.table.LevelsBounded := by
  unfold State.loadSite
  dsimp only
  split
  · split
    · exact h
    · exact (h.takePair _ p).update _ (by rfl)
  · split
    · exact h
    · split
      · exact h.replaceEntry _ (Nat.zero_le _)
      · exact h

theorem writeDigest (h : s.table.LevelsBounded) (i : Nat) (d : Digest) : (s.writeDigest i d).table.LevelsBounded :=
  h.update i (by rfl)

theorem importItem (h : s.table.LevelsBounded) (kept : List Nat) (item : Neighbour) :
    (s.importItem kept item).1.table.LevelsBounded := by
  unfold State.importItem
  dsimp only
  split
  · exact h.countSkip
  · split
    · split
      · exact h
      · split
        · exact h.writeDigest _ _
        · split
          · exact h.countConflict
          · exact (h.takePair _ _).writeDigest _ _
    · split
      · exact h.countConflict
      · split
        · exact h.replaceEntry _ (Nat.zero_le _)
        · exact h.countSkip

theorem importItems (h : s.table.LevelsBounded) (kept : List Nat) (items : List Neighbour) :
    (s.importItems kept items).table.LevelsBounded := by
  induction items generalizing s kept with
  | nil => exact h
  | cons item rest ih => exact ih (h.importItem kept item) _

theorem admitFound (h : s.table.LevelsBounded) (code : Nat) (p : Pair) :
    (s.admitFound code p).1.table.LevelsBounded := by
  unfold State.admitFound
  split
  · dsimp only
    split
    · exact h.countConflict
    · split
      · exact h
      · exact (h.takePair _ p).update _ (by rfl)
  · split
    · exact h.countConflict
    · split
      · exact h.replaceEntry _ (Nat.zero_le _)
      · exact h

theorem recallItem (h : s.table.LevelsBounded) (kept : List Nat) (item : Site) :
    (s.recallItem kept item).1.table.LevelsBounded := by
  unfold State.recallItem
  dsimp only
  split
  · exact h
  · split
    · exact h.countConflict
    · split
      · exact h.replaceEntry _ (Nat.zero_le _)
      · exact h.countSkip

theorem recallItems (h : s.table.LevelsBounded) (kept : List Nat) (items : List Site) :
    (s.recallItems kept items).table.LevelsBounded := by
  induction items generalizing s kept with
  | nil => exact h
  | cons item rest ih => exact ih (h.recallItem kept item) _

theorem freeEntry (h : s.table.LevelsBounded) (i : Nat) : (s.freeEntry i).table.LevelsBounded :=
  (h.replaceEntry i (Nat.zero_le _)).dwellCleared i

theorem bar (h : s.table.LevelsBounded) (code requested : Nat) : (s.bar code requested).table.LevelsBounded := by
  unfold State.bar
  split
  · exact h.ite ((h.update _ (by rfl)).dwellCleared _)
  · exact h

theorem endServing (h : s.table.LevelsBounded) (penalty : Nat) : (s.endServing penalty).table.LevelsBounded := by
  unfold State.endServing
  split
  · exact h.update _ (by rfl)
  · exact h

theorem beginServing (h : s.table.LevelsBounded) (i : Nat) : (s.beginServing i).table.LevelsBounded :=
  h.update i (by rfl)

theorem clearAllDwell (h : s.table.LevelsBounded) : s.clearAllDwell.table.LevelsBounded :=
  (h.mapEntries _ (by exact fun _ => rfl)).clearWatch

/-! ## Multiframe starts -/

theorem ageEntry (h : s.table.LevelsBounded) (i : Nat) : (s.ageEntry i).table.LevelsBounded := by
  have haged : (s.setEntry i (s.entry i).aged).table.LevelsBounded := h.update i (Entry.aged_level _)
  exact (haged.fallToListed i).ite haged

theorem ageEntries (h : s.table.LevelsBounded) : s.ageEntries.table.LevelsBounded := by
  unfold State.ageEntries
  generalize allIndexes = indexes
  induction indexes generalizing s with
  | nil => exact h
  | cons i rest ih => exact ih (h.ageEntry i)

theorem decayTick (h : s.table.LevelsBounded) : s.decayTick.table.LevelsBounded := by
  have hdecayed : (s.setTable { s.table with decay := 0 }).table.LevelsBounded := h
  exact ite (hdecayed.mapEntries _ (by exact fun _ => rfl)) h

theorem tableMultiframe (h : s.table.LevelsBounded) : s.tableMultiframe.table.LevelsBounded :=
  (h.ageEntries.mapEntries _ (by exact fun _ => rfl)).decayTick.mapEntries _ (Entry.digestTick_level _)

theorem multiframeWork (h : s.table.LevelsBounded) : s.multiframeWork.table.LevelsBounded  := by
  unfold State.multiframeWork
  exact (h.tableMultiframe.frame (by simp)).ite h.tableMultiframe

/-- R68, R162: an activation cuts dwell counts alone. -/
theorem activate (h : s.table.LevelsBounded) : s.activate.table.LevelsBounded := by
  rw [State.activate_eq]
  intro x hx
  obtain ⟨e, he, rfl⟩ := List.mem_map.1 hx
  exact h e he

end SiteTable.LevelsBounded

end Sys2Proof.Machine
end

section
/-! SUPPORT. The bound of the filtered levels (R62) under the handling of a taken record. -/

namespace Sys2Proof.Machine

namespace SiteTable.LevelsBounded

variable {s : State}

/-! ## The Roam Engine -/

theorem clearServingWork (h : s.table.LevelsBounded) : s.clearServingWork.table.LevelsBounded :=
  h.clearAllDwell.frame (by simp [State.clearServingWork])

theorem takeLost (h : s.table.LevelsBounded) (cause : EngineCause) : (s.takeLost cause).table.LevelsBounded := by
  have habandoned : (s.setPins { s.pins with txinh := true }).abandonWork.table.LevelsBounded := h.frame (by simp)
  have hcleared := (habandoned.endServing 0).clearServingWork
  unfold State.takeLost
  refine ite ?_ h
  dsimp only
  split
  · exact hcleared.frame (by simp)
  · exact hcleared.frame (by simp)

theorem takeTriggers (h : s.table.LevelsBounded) (ts : List Trigger) : (s.takeTriggers ts).table.LevelsBounded :=
  h.frame (by simp)

theorem takeMove (h : s.table.LevelsBounded) (code : Nat) (p : Pair) : (s.takeMove code p).table.LevelsBounded := by
  have hadmit := h.admitFound code p
  unfold State.takeMove
  generalize s.admitFound code p = r at hadmit ⊢
  obtain ⟨s1, a⟩ := r
  replace hadmit : s1.table.LevelsBounded := hadmit
  refine ite ?_ h
  cases a with
  | admitted i => exact ite (hadmit.frame (by simp)) (ite (hadmit.frame (by simp)) (hadmit.frame (by simp)))
  | conflict => exact hadmit.frame (by simp)
  | full => exact hadmit.frame (by simp)

theorem huntAccept (h : s.table.LevelsBounded) (b : Summary) (l : Listen) : (s.huntAccept b l).table.LevelsBounded := by
  have hadmit := h.admitFound b.code { channel := l.channel, colour := l.colour }
  unfold State.huntAccept
  dsimp only
  generalize s.admitFound b.code { channel := l.channel, colour := l.colour } = r at hadmit ⊢
  obtain ⟨s1, a⟩ := r
  replace hadmit : s1.table.LevelsBounded := hadmit
  refine ite ?_ ((h.frame (by simp)).ite ((h.frame (by simp)).ite ((h.frame (by simp)).ite ?_)))
  · cases a with
    | admitted i => exact ((hadmit.writeDigest i (ownDigest b)).bar b.code b.hold).frame (by simp)
    | conflict => exact hadmit.frame (by simp)
    | full => exact hadmit.frame (by simp)
  · cases a with
    | admitted i => exact (hadmit.writeDigest i (ownDigest b)).frame (by simp)
    | conflict => exact hadmit.frame (by simp)
    | full => exact hadmit.frame (by simp)

theorem acceptRoam (h : s.table.LevelsBounded) (count : Nat) : (s.acceptRoam count).table.LevelsBounded := by
  unfold State.acceptRoam
  split
  · next i _ => exact ((h.endServing (s.par .departurePenalty)).beginServing i).clearAllDwell.frame (by simp)
  · exact h

theorem demoteTarget (h : s.table.LevelsBounded) (cause : FailureCause) (target : Option Nat) :
    (s.demoteTarget cause target).table.LevelsBounded := by
  unfold State.demoteTarget
  split
  · exact (h.fallToListed _).countConflict
  · exact h

theorem failRoam (h : s.table.LevelsBounded) (cause : FailureCause) (bar : Option Nat) :
    (s.failRoam cause bar).table.LevelsBounded := by
  have hdemoted := (h.frame (t := s.accessIdle) (by simp)).demoteTarget cause (s.accessIdle.findCode s.access.target)
  unfold State.failRoam
  cases bar with
  | none => exact hdemoted.frame (by simp)
  | some t => exact (hdemoted.bar s.access.target t).frame (by simp)

theorem startEngine (h : s.table.LevelsBounded) : s.startEngine.table.LevelsBounded :=
  (h.recallItems [] s.recallArea.list).frame (by simp [State.startEngine])

theorem stopEngine (h : s.table.LevelsBounded) : s.stopEngine.table.LevelsBounded :=
  ((h.frame (t := s.returnSent.accessIdle) (by simp)).endServing 0).clearServingWork.frame (by simp [State.stopEngine])

theorem huntWork (h : s.table.LevelsBounded) (ran multiframe : Bool) : (s.huntWork ran multiframe).table.LevelsBounded :=
  h.frame (by simp)

theorem scanRecord (h : s.table.LevelsBounded) (engine0 : Engine) (listening multiframe : Bool) :
    (s.scanRecord engine0 listening multiframe).table.LevelsBounded := h.frame (by simp)

/-! ## Registration -/

theorem judgeFlags (h : s.table.LevelsBounded) (closed emergencyOnly : Bool) (hold : Nat) :
    (s.judgeFlags closed emergencyOnly hold).table.LevelsBounded :=
  (h.failRoam _ _).ite ((h.failRoam _ _).ite (h.frame (by simp)))

theorem judgeBeacon (h : s.table.LevelsBounded) (b : Summary) : (s.judgeBeacon b).table.LevelsBounded := h.judgeFlags _ _ _

theorem judgeDigest (h : s.table.LevelsBounded) : s.judgeDigest.table.LevelsBounded := by
  unfold State.judgeDigest
  split
  · exact h.judgeFlags _ _ _
  · exact h.frame (by simp)

theorem judgeTarget (h : s.table.LevelsBounded) : s.judgeTarget.table.LevelsBounded := by
  unfold State.judgeTarget
  split
  · exact (h.judgeBeacon _).ite h.judgeDigest
  · exact h.judgeDigest

theorem takeRedirect (h : s.table.LevelsBounded) (code channel colour : Nat) :
    (s.takeRedirect code channel colour).table.LevelsBounded := by
  have hadmit := h.admitFound code { channel := channel, colour := colour }
  unfold State.takeRedirect
  generalize s.admitFound code { channel := channel, colour := colour } = r at hadmit ⊢
  obtain ⟨s1, a⟩ := r
  replace hadmit : s1.table.LevelsBounded := hadmit
  refine (h.failRoam _ _).ite ?_
  cases a with
  | admitted i => exact (hadmit.failRoam _ _).ite (hadmit.frame (by simp))
  | conflict => exact hadmit.failRoam _ _
  | full => exact hadmit.failRoam _ _

theorem takeGrant (h : s.table.LevelsBounded) (g : Grant) : (s.takeGrant g).table.LevelsBounded := by
  unfold State.takeGrant
  split
  · exact h.acceptRoam _
  · exact h.failRoam _ _
  · exact h.takeRedirect _ _ _
  · exact h
  · exact h

theorem grantTimeout (h : s.table.LevelsBounded) : s.grantTimeout.table.LevelsBounded :=
  (h.frame (by simp)).ite (h.failRoam _ _)

theorem awaitGrant (h : s.table.LevelsBounded) (input : AccessInput) : (s.awaitGrant input).table.LevelsBounded := by
  have hcounted : s.countWait.table.LevelsBounded := h.frame (by simp)
  unfold State.awaitGrant
  dsimp only
  split
  · exact (hcounted.takeGrant _).ite (hcounted.grantTimeout.ite hcounted)
  · exact hcounted.grantTimeout.ite hcounted

theorem echoLost (h : s.table.LevelsBounded) (b : Burst) : (s.echoLost b).table.LevelsBounded := by
  have hlost : (s.burstLost b).table.LevelsBounded := h.frame (by simp)
  exact (hlost.failRoam _ _).ite (hlost.frame (by simp))

theorem contend (h : s.table.LevelsBounded) (input : AccessInput) : (s.contend input).table.LevelsBounded := by
  have hwon : s.echoWon.table.LevelsBounded := h.frame (by simp)
  have hcollided : s.countCollision.table.LevelsBounded := h.frame (by simp)
  unfold State.contend
  split
  · exact h.frame (by simp)
  · refine ite ?_ h
    split
    · exact hwon
    · exact (hwon.takeGrant _).ite hwon
    · exact h.echoLost _
    · exact hcollided.echoLost _

theorem registrationPhase (h : s.table.LevelsBounded) (input : AccessInput) :
    (s.registrationPhase input).table.LevelsBounded := by
  have hcounted : s.countWait.table.LevelsBounded := h.frame (by simp)
  unfold State.registrationPhase
  split
  · split
    · exact h.judgeBeacon _
    · exact h.judgeTarget.ite (h.frame (by simp))
  · dsimp only
    split
    · exact hcounted.judgeBeacon _
    · exact (hcounted.failRoam _ _).ite hcounted
  · exact h.contend _
  · exact h.awaitGrant _
  · exact h

theorem checkTooLong (h : s.table.LevelsBounded) : s.checkTooLong.table.LevelsBounded := (h.failRoam _ _).ite h

theorem registrationRecord (h : s.table.LevelsBounded) (r : Frame) (input : AccessInput) :
    (s.registrationRecord r input).table.LevelsBounded := by
  have hcounted : (s.countMultiframe input.multiframe).table.LevelsBounded := h.frame (by simp)
  have htracked := hcounted.ite (c := (s.countMultiframe input.multiframe).inTuning = true)
    (hcounted.frame (t := (s.countMultiframe input.multiframe).trackSite r input.sync) (by simp))
  exact (htracked.failRoam _ _).ite (htracked.registrationPhase _).checkTooLong

/-- R124, R125: an exchange at the serving site leaves the table. -/
theorem accessRecord (h : s.table.LevelsBounded) (r : Frame) (engine0 : Engine) (input : AccessInput) :
    (s.accessRecord r engine0 input).table.LevelsBounded := by
  unfold State.accessRecord
  split
  · exact (h.registrationRecord _ _).ite ((h.failRoam _ _).ite h)
  · split
    · exact h.frame (by simp)
    · exact h.frame (by simp)
    · exact h.frame (by simp)
    · exact h
  · exact h

/-! ## The Address Filter -/

theorem deliver (h : s.table.LevelsBounded) (b : ControlBlock) (m : Message) : (s.deliver b m).1.table.LevelsBounded := by
  cases m with
  | move code channel colour => exact h.takeMove _ _
  | echo slot => exact h
  | grant g => exact h
  | affilAck count => exact h.frame (by simp [State.deliver])
  | page payload => exact h.frame (by simp [State.deliver])
  | groupNotice payload => exact h.frame (by simp [State.deliver])

theorem filterRecord (h : s.table.LevelsBounded) (r : Frame) : (s.filterRecord r).1.table.LevelsBounded := by
  unfold State.filterRecord
  split
  · exact h
  · split
    · exact h.deliver _ _
    · exact h
  · exact h

/-! ## The Beacon Assembler -/

theorem acceptServing (h : s.table.LevelsBounded) (i : Nat) (b : Summary) (neighbours : List Neighbour) :
    (s.acceptServing i b neighbours).table.LevelsBounded :=
  ((h.writeDigest i (ownDigest b)).importItems [] neighbours).frame (by simp [State.acceptServing])

theorem servingFragment (h : s.table.LevelsBounded) (i position : Nat) (f : Fragment) :
    (s.servingFragment i position f).1.table.LevelsBounded := by
  have hcleared : (s.setServingStore Store.cleared).table.LevelsBounded := h.frame (by simp)
  unfold State.servingFragment
  dsimp only
  split
  · split
    · split
      · exact hcleared.acceptServing _ _ _
      · split
        · exact hcleared.frame (by simp)
        · exact hcleared
    · exact hcleared.frame (by simp)
  · exact h.frame (by simp)

theorem watchAccepted (h : s.table.LevelsBounded) (b : Summary) : (s.watchAccepted b).table.LevelsBounded := by
  unfold State.watchAccepted
  split
  · exact (h.writeDigest _ _).ite (h.fallToListed _).countConflict
  · exact h

theorem targetAccepted (h : s.table.LevelsBounded) (b : Summary) : (s.targetAccepted b).table.LevelsBounded := by
  unfold State.targetAccepted
  split
  · exact (h.writeDigest _ _).ite h
  · exact h

theorem acceptWatch (h : s.table.LevelsBounded) (b : Summary) : (s.acceptWatch b).1.table.LevelsBounded := by
  unfold State.acceptWatch
  split
  · exact h.watchAccepted b
  · exact h.targetAccepted b
  · exact h
  · split
    · exact h.huntAccept b _
    · exact h

theorem watchFragment (h : s.table.LevelsBounded) (position : Nat) (f : Fragment) :
    (s.watchFragment position f).1.table.LevelsBounded := by
  have hcleared : (s.setWatchStore Store.cleared).table.LevelsBounded := h.frame (by simp)
  unfold State.watchFragment
  dsimp only
  split
  · split
    · exact (hcleared.frame (by simp)).acceptWatch _
    · exact hcleared.frame (by simp)
  · exact h.frame (by simp)

theorem beaconRecord (h : s.table.LevelsBounded) (r : Frame) : (s.beaconRecord r).1.table.LevelsBounded := by
  unfold State.beaconRecord
  split
  · split
    · exact h
    · split
      · split
        · exact h.servingFragment _ _ _
        · exact h
      · split
        · exact h.watchFragment _ _
        · exact h
  · exact h

/-! ## The Ranking Unit -/

/-- R61, R62: a sample moves a level within its bound. -/
theorem credit (h : s.table.LevelsBounded) (i : Nat) {c : Nat} (hc : c ≤ 255) : (s.credit i c).table.LevelsBounded :=
  h.setEntry i (filtered_le _ _ (h.entry i) hc)

theorem heardNotice (h : s.table.LevelsBounded) (r : Frame) : (s.heardNotice r).table.LevelsBounded := by
  unfold State.heardNotice
  split
  · exact h.update _ (by rfl)
  · exact h

variable {r : Frame} (hr : r.level ≤ 255)
include hr

theorem creditSamples (h : s.table.LevelsBounded) (role : Role) : (s.creditSamples r role).table.LevelsBounded := by
  have hheard : (s.creditHeard r).table.LevelsBounded := by
    unfold State.creditHeard
    split
    · exact h.credit _ hr
    · exact h
  rw [State.creditSamples_eq]
  cases s.unheardEntry r role with
  | none => exact hheard
  | some j => exact hheard.credit j (Nat.zero_le _)

omit hr in
theorem considerWatch (h : s.table.LevelsBounded) (i : Nat) : (s.considerWatch i).table.LevelsBounded := h.frame (by simp)

omit hr in
theorem dwellUpdate (h : s.table.LevelsBounded) (i serving : Nat) : (s.dwellUpdate i serving).1.table.LevelsBounded := by
  unfold State.dwellUpdate
  dsimp only
  split
  · exact ((h.update i (by rfl)).considerWatch i).ite (h.update i (by rfl))
  · exact (h.update i (by rfl)).dwellCleared i

theorem handleSamples (h : s.table.LevelsBounded) (role : Role) : (s.handleSamples r role).1.table.LevelsBounded := by
  have hcredited := h.creditSamples hr role
  unfold State.handleSamples
  dsimp only
  split
  · next v _ =>
    split
    · have hdwell : ((s.creditSamples r role).dwellAfter (s.visited r role) v).1.table.LevelsBounded := by
        cases s.visited r role with
        | none => exact hcredited
        | some i => exact hcredited.dwellUpdate i v
      split
      · exact hdwell.frame (State.weakUpdate_frame _ _).2.1
      · exact hdwell
    · exact hcredited
  · exact hcredited

theorem rankRecord (h : s.table.LevelsBounded) (role : Role) (multiframe : Bool) :
    (s.rankRecord r role multiframe).1.table.LevelsBounded := by
  have hplain : (s.rankRecord r role false).1.table.LevelsBounded := by
    cases hgives : givesSamples r role with
    | false =>
      rw [State.rankRecord_without_samples hgives]
      exact h.heardNotice r
    | true =>
      rw [State.rankRecord_with_samples hgives]
      exact (h.heardNotice r).handleSamples hr role
  cases multiframe with
  | false => exact hplain
  | true =>
    rw [State.rankRecord_multiframe]
    split
    · exact hplain.frame (by simp)
    · exact hplain

/-! ## A taken record -/

omit hr in
theorem filterWithIdentity (h : s.table.LevelsBounded) (lost first : Bool) (late : List Trigger) (place : Nat) :
    (s.filterWithIdentity r lost first late place).1.table.LevelsBounded := by
  cases lost with
  | false => exact (h.filterRecord r).takeTriggers late
  | true =>
    obtain ⟨x, -, heq | heq⟩ := s.filterWithIdentity_cases r first late place <;> rw [heq]
    · exact ((((h.takeTriggers _).takeLost _).takeTriggers _).filterRecord r).takeTriggers _
    · exact ((((h.takeTriggers _).filterRecord r).takeTriggers _).takeLost _).takeTriggers _

omit hr in
theorem afterRanking (h : s.table.LevelsBounded) (base : State) (multiframe first : Bool) (late : List Trigger)
    (place : Nat) : (s.afterRanking base r multiframe first late place).table.LevelsBounded := by
  have hlisten : (s.listenIfFound r).table.LevelsBounded := h.frame (by simp)
  have hfilter := (hlisten.beaconRecord r).filterWithIdentity (r := r) ((s.listenIfFound r).beaconRecord r).2.identityLost
    first late place
  exact ((hfilter.huntWork base.roam.huntRuns multiframe).accessRecord r _ _).scanRecord _ _ _

theorem blocksHandle (h : s.table.LevelsBounded) (base : State) (role : Role) (multiframe lossRaised : Bool) :
    (s.blocksHandle base r role multiframe lossRaised).table.LevelsBounded := by
  obtain ⟨u, late, hlost, hnot, heq⟩ := s.blocksInOrder_cases base r role multiframe lossRaised
    (Config.triggersLate s.free) (Config.identityFirst s.free) (Config.lateTriggers s.free) (Config.lossOrder s.free)
  rw [State.blocksHandle, heq]
  refine afterRanking ?_ _ _ _ _ _
  cases lossRaised with
  | true =>
    obtain ⟨-, rfl | rfl | rfl⟩ := hlost rfl
    · exact ((h.takeLost _).rankRecord hr _ _).takeTriggers _
    · exact ((h.rankRecord hr _ _).takeLost _).takeTriggers _
    · exact ((h.rankRecord hr _ _).takeTriggers _).takeLost _
  | false =>
    obtain ⟨rfl, -⟩ | ⟨rfl, -⟩ := hnot rfl
    · exact (h.rankRecord hr _ _).takeTriggers _
    · exact h.rankRecord hr _ _

theorem handleRecord (h : s.table.LevelsBounded) (rest : List Frame) :
    (s.handleRecord r rest).table.LevelsBounded := by
  have hactive : (if (s.frameTaken r rest).atMultiframe then (s.frameTaken r rest).activate
      else s.frameTaken r rest).table.LevelsBounded := (activate (s := s.frameTaken r rest) h).ite h
  have hloss := hactive.frame (State.lossUpdate_frame _ r).2.2.2.2.2.2.2.2.1
  rw [State.handleRecord_eq]
  exact ((hloss.multiframeWork.ite hloss).frame (State.nameRecord_frame _).2.1).blocksHandle hr _ _ _ _

end SiteTable.LevelsBounded

end Sys2Proof.Machine
end

section
/-! SUPPORT. The levels (R62) under every row of the table. -/

namespace Sys2Proof.Machine

/-! ## The level codes that wait (R26, R29, R30) -/

/-- R25, 12.1: the level code of a record that passes its examination is a byte. -/
theorem examineFrame_level {body : List Byte} {f : Frame} (h : examineFrame body = some f) : f.level ≤ 255 := by
  unfold examineFrame at h
  dsimp only at h
  split at h
  · obtain rfl := Option.some.inj h
    exact Nat.le_of_lt_succ (at8 body 4).isLt
  · cases h

/-- R25: so is that of a FRAME record. -/
theorem examine_level {kind : Byte} {body : List Byte} {f : Frame} (h : examine kind body = some (.frame f)) :
    f.level ≤ 255 := by
  unfold examine at h
  split at h
  · obtain ⟨g, hg, heq⟩ := Option.map_eq_some_iff.1 h
    obtain rfl := ModemRecord.frame.inj heq
    exact examineFrame_level hg
  · split at h
    · obtain ⟨g, -, heq⟩ := Option.map_eq_some_iff.1 h
      cases heq
    · cases h

namespace State.levelsSound

variable {s : State}

/-- An operation that keeps the bound of the filtered levels and leaves the records that wait. -/
theorem of_table (h : s.levelsSound) {t : State} (ht : t.table.LevelsBounded)
    (hwaiting : t.intake.queue = s.intake.queue ∧ t.intake.held = s.intake.held) : t.levelsSound :=
  ⟨ht, by rw [hwaiting.1, hwaiting.2]; exact h.2⟩

/-- An operation that leaves the table and the records that wait. -/
theorem frame (h : s.levelsSound) {t : State}
    (ht : t.table = s.table ∧ t.intake.queue = s.intake.queue ∧ t.intake.held = s.intake.held) : t.levelsSound :=
  h.of_table (SiteTable.LevelsBounded.frame h.1 ht.1) ht.2

/-- An operation that acts or not. -/
theorem ite {c : Prop} [Decidable c] {u v : State} (hu : u.levelsSound) (hv : v.levelsSound) :
    (if c then u else v).levelsSound := by
  split
  · exact hu
  · exact hv

/-! ## The Front-End receiver -/

/-- R29: a record that is placed waits with a level code of one byte. -/
theorem placeFrame (h : s.levelsSound) {f : Frame} (hf : f.level ≤ 255) : (s.placeFrame f).levelsSound := by
  obtain ⟨htable, hwaiting⟩ := h
  unfold State.placeFrame
  dsimp only
  split
  · exact ⟨htable, hwaiting⟩
  · next hheld =>
    have hnone : s.intake.held = none := by simpa using hheld
    have hcodes : ∀ g ∈ s.intake.queue ++ [f], g.level ≤ 255 := by
      simpa [hnone, or_imp, forall_and, hf] using hwaiting
    split
    · exact ⟨htable, by simpa [hnone] using hcodes⟩
    · exact ⟨htable, hcodes⟩

theorem modemRecord (h : s.levelsSound) (kind : Byte) (body : List Byte) : (s.modemRecord kind body).levelsSound := by
  unfold State.modemRecord
  split
  · next hframe => exact h.placeFrame (examine_level hframe)
  · exact h.frame (by simp)
  · exact h.frame (by simp)

theorem frontEndReceive (h : s.levelsSound) (n : Nat) (bytes : List Byte) :
    (Machine.frontEndReceive n bytes s).levelsSound := by
  induction n generalizing bytes s with
  | zero => exact h
  | succ n ih =>
    have hcounted : s.countCheckError.levelsSound := h.frame (by simp)
    unfold Machine.frontEndReceive
    split
    · exact h
    · exact h
    · exact (ih hcounted _).ite (ite h ((ih (h.modemRecord _ _) _).ite (ih hcounted _)))

theorem receiveFrontEnd (h : s.levelsSound) (bytes : List Byte) : (s.receiveFrontEnd bytes).levelsSound :=
  h.frontEndReceive _ _

/-! ## A taken record -/

/-- R30: the records that wait behind the one taken. -/
theorem takeRecord (h : s.levelsSound) : s.takeRecord.levelsSound := by
  unfold State.takeRecord
  split
  · next r rest hq =>
    obtain ⟨htable, hwaiting⟩ := h
    rw [hq, List.cons_append, List.forall_mem_cons] at hwaiting
    obtain ⟨hr, hrest⟩ := hwaiting
    obtain ⟨hqueue, hheld, -⟩ := s.recordNamed_intake r rest
    refine ⟨SiteTable.LevelsBounded.handleRecord hr htable rest, ?_⟩
    simpa [State.handleRecord_eq, hqueue, hheld, State.frameTaken] using hrest
  · exact h

/-! ## The limit rows -/

theorem takeLost (h : s.levelsSound) (cause : EngineCause) : (s.takeLost cause).levelsSound :=
  h.of_table (SiteTable.LevelsBounded.takeLost h.1 cause) (by simp)

theorem failRoam (h : s.levelsSound) (cause : FailureCause) (bar : Option Nat) : (s.failRoam cause bar).levelsSound :=
  h.of_table (SiteTable.LevelsBounded.failRoam h.1 cause bar) (by simp)

theorem update (h : s.levelsSound) (i : Nat) {e : Entry} (he : e.level = (s.entry i).level) :
    (s.setEntry i e).levelsSound := h.of_table (SiteTable.LevelsBounded.update h.1 i he) (by simp)

theorem heardAgeLimit (h : s.levelsSound) (i : Nat) : (s.heardAgeLimit i).levelsSound :=
  (h.of_table (SiteTable.LevelsBounded.ageEntry h.1 i) (by simp)).ite h

theorem barEnd (h : s.levelsSound) (i : Nat) : (s.barEnd i).levelsSound := (h.update i (by rfl)).ite h

theorem departureDecay (h : s.levelsSound) : s.departureDecay.levelsSound :=
  (h.of_table (SiteTable.LevelsBounded.decayTick h.1) (by simp)).ite h

theorem digestAgeLimit (h : s.levelsSound) (i : Nat) : (s.digestAgeLimit i).levelsSound := (h.update i (by rfl)).ite h

theorem servingReport (h : s.levelsSound) : s.servingReport.levelsSound := (h.frame (by simp)).ite h

theorem servingLossLimit (h : s.levelsSound) : s.servingLossLimit.levelsSound :=
  ((h.frame (t := s.raiseLost) (by simp)).takeLost _).ite h

theorem huntListenReadLimit (h : s.levelsSound) : s.huntListenReadLimit.levelsSound := by
  unfold State.huntListenReadLimit
  split
  · exact (h.frame (by simp)).ite h
  · exact h

theorem huntLimit (h : s.levelsSound) : s.huntLimit.levelsSound := (h.frame (by simp)).ite h

theorem readingUnreadable (h : s.levelsSound) : s.readingUnreadable.levelsSound :=
  ((h.frame (t := s.countWait) (by simp)).failRoam _ _).ite h

theorem grantWaitTimeout (h : s.levelsSound) : s.grantWaitTimeout.levelsSound :=
  (h.of_table (SiteTable.LevelsBounded.grantTimeout (s := s.countWait) h.1) (by simp)).ite h

theorem tooLong (h : s.levelsSound) : s.tooLong.levelsSound :=
  ((h.frame (t := s.countMultiframe true) (by simp)).failRoam _ _).ite h

theorem affilAckWaitTimeout (h : s.levelsSound) : s.affilAckWaitTimeout.levelsSound := by
  unfold State.affilAckWaitTimeout
  refine ite ?_ h
  split
  · exact h.frame (by simp)
  · exact h.frame (by simp)
  · exact h

theorem silenceTimeout (h : s.levelsSound) : s.silenceTimeout.levelsSound := by
  have hsilent : ((s.setIntake { s.intake with silenceRunning := false, timing := .holdover }).event
      .frontEndSilent).levelsSound := h.frame (by simp)
  exact (((hsilent.frame (by simp)).takeLost .silence).ite hsilent).ite h

/-! ## The Host Link and the commands -/

theorem reply (h : s.levelsSound) (f : HostFrame) (code : ReplyCode) (result : List Byte := []) :
    (s.reply f code result).levelsSound := h.frame (by simp)

theorem frameDamaged (h : s.levelsSound) : s.frameDamaged.levelsSound := by
  unfold State.frameDamaged
  dsimp only
  split
  · exact h
  · exact h.frame (by simp)

theorem placeHostFrame (h : s.levelsSound) (f : HostFrame) : (s.placeHostFrame f).levelsSound :=
  ite h (ite h (reply h f .busy))

theorem hostReceive (h : s.levelsSound) (n : Nat) (bytes : List Byte) : (Machine.hostReceive n bytes s).levelsSound := by
  induction n generalizing bytes s with
  | zero => exact h
  | succ n ih =>
    unfold Machine.hostReceive
    split
    · exact h
    · exact h
    · exact (ih h.frameDamaged _).ite (ite h ((ih (h.placeHostFrame _) _).ite (ih h.frameDamaged _)))

theorem gapTimeout (h : s.levelsSound) : s.gapTimeout.levelsSound := by
  unfold State.gapTimeout
  split
  · exact h
  · exact h.frameDamaged.hostReceive _ _

/-- R157: the taking of a command moves the command intake queue alone. -/
theorem takeCommand (h : s.levelsSound) (mine : Byte → Bool) {handle : State → HostFrame → State}
    (hhandle : ∀ u f, u.levelsSound → (handle u f).levelsSound) : (s.takeCommand mine handle).levelsSound := by
  obtain ⟨f, rest, -, -, -, heq⟩ | heq := takeCommand_cases s mine handle <;> rw [heq]
  · exact hhandle _ f h
  · exact h

theorem acceptIdentity (h : s.levelsSound) (identity : Identity) : (s.acceptIdentity identity).levelsSound := h

theorem provision (h : s.levelsSound) (f : HostFrame) : (s.provision f).levelsSound :=
  (h.reply f _).ite ((h.reply f _).ite ((h.reply f _).ite ((h.acceptIdentity _).reply f _)))

theorem setParameters (h : s.levelsSound) (f : HostFrame) : (s.setParameters f).levelsSound := by
  unfold State.setParameters
  split
  · exact (h.reply f _).ite ((h.frame (t := s.setHost _) (by simp)).reply f _)
  · exact h.reply f _

theorem loadSiteCommand (h : s.levelsSound) (f : HostFrame) : (s.loadSiteCommand f).levelsSound := by
  unfold State.loadSiteCommand
  dsimp only
  split
  · exact (h.reply f _).ite ((h.of_table (SiteTable.LevelsBounded.loadSite h.1 _ _ _ _) (by simp)).reply f _ _)
  · exact h.reply f _

theorem dropSiteCommand (h : s.levelsSound) (f : HostFrame) : (s.dropSiteCommand f).levelsSound := by
  unfold State.dropSiteCommand
  refine (h.reply f _).ite ?_
  split
  · exact h.reply f _
  · exact (h.reply f _).ite ((h.of_table (SiteTable.LevelsBounded.freeEntry h.1 _) (by simp)).reply f _ _)

theorem setHuntChannels (h : s.levelsSound) (f : HostFrame) : (s.setHuntChannels f).levelsSound := by
  unfold State.setHuntChannels
  split
  · exact (h.reply f _).ite ((h.frame (t := s.setScan _) (by simp)).reply f _)
  · exact h.reply f _

theorem groupPart (h : s.levelsSound) (f : HostFrame) (part : Nat) (final : Bool) (pairs : List GroupPair) :
    (s.groupPart f part final pairs).levelsSound := by
  have hassembly (a : Option Assembly) : (s.setAssembly a).levelsSound := h
  have hreplaced (gathered : List GroupPair) : ((s.setAssembly none).replaceGroups gathered).levelsSound := by
    unfold State.replaceGroups
    exact ite ((hassembly none).frame (by simp)) ((hassembly none).frame (by simp))
  unfold State.groupPart
  split
  · exact (hassembly none).reply f _
  · exact ((hreplaced _).reply f _).ite (((hassembly none).reply f _).ite ((hassembly _).reply f _))

theorem setGroupsCommand (h : s.levelsSound) (f : HostFrame) : (s.setGroupsCommand f).levelsSound := by
  unfold State.setGroupsCommand
  split
  · split
    · exact (h.reply f _).ite (h.groupPart f _ _ _)
    · exact h.reply f _
  · exact h.reply f _

theorem startCommand (h : s.levelsSound) (f : HostFrame) : (s.startCommand f).levelsSound :=
  (h.reply f _).ite ((h.reply f _).ite ((h.reply f _).ite
    ((h.of_table (SiteTable.LevelsBounded.startEngine h.1) (by simp)).reply f _)))

theorem stopCommand (h : s.levelsSound) (f : HostFrame) : (s.stopCommand f).levelsSound :=
  (h.reply f _).ite ((h.reply f _).ite ((h.of_table (SiteTable.LevelsBounded.stopEngine h.1) (by simp)).reply f _))

theorem callStateCommand (h : s.levelsSound) (f : HostFrame) : (s.callStateCommand f).levelsSound := by
  have hacts (c : CallRecord) : (s.setCall c).callActs.levelsSound := by
    have hset : (s.setCall c).levelsSound := h
    exact (hset.frame (by simp)).ite ((hset.frame (by simp)).ite hset)
  unfold State.callStateCommand
  split
  · exact (h.reply f _).ite ((hacts _).reply f _ _)
  · exact h.reply f _

theorem roamHoldCommand (h : s.levelsSound) (f : HostFrame) : (s.roamHoldCommand f).levelsSound := by
  unfold State.roamHoldCommand
  split
  · exact (h.reply f _).ite ((h.frame (t := s.setRoam _) (by simp)).reply f _)
  · exact h.reply f _

theorem roamToCommand (h : s.levelsSound) (f : HostFrame) : (s.roamToCommand f).levelsSound := by
  unfold State.roamToCommand
  refine (h.reply f _).ite ((h.reply f _).ite ?_)
  split
  · exact h.reply f _
  · exact (h.reply f _).ite ((h.reply f _).ite
      ((h.frame (t := s.startRegistration _ .forced s.previousServing .registration) (by simp)).reply f _ _))

theorem roamAbortCommand (h : s.levelsSound) (f : HostFrame) : (s.roamAbortCommand f).levelsSound := by
  have haborted : ((s.failRoam .aborted none).reply f .ok).levelsSound := (h.failRoam _ _).reply f _
  unfold State.roamAbortCommand
  refine (h.reply f _).ite ?_
  split
  · exact haborted
  · exact haborted
  · exact haborted.ite (h.reply f _)
  all_goals exact h.reply f _

theorem querySite (h : s.levelsSound) (f : HostFrame) : (s.querySite f).levelsSound := (h.reply f _).ite (h.reply f _ _)

theorem queryStatus (h : s.levelsSound) (f : HostFrame) : (s.queryStatus f).levelsSound :=
  (h.reply f _).ite (h.reply f _ _)

theorem recallClear (h : s.levelsSound) (f : HostFrame) : (s.recallClear f).levelsSound :=
  (h.reply f _).ite ((h.frame (t := s.setRecallArea _) (by simp)).reply f _)

theorem resetCommand (h : s.levelsSound) (f : HostFrame) : (s.resetCommand f).levelsSound :=
  (h.reply f _).ite ((h.frame (t := s.setHost _) (by simp)).reply f _)

/-! ## The recall writer, power and the resets -/

theorem recallWriteComplete (h : s.levelsSound) : s.recallWriteComplete.levelsSound := by
  unfold State.recallWriteComplete
  split
  · exact h
  · exact h

theorem recallEraseComplete (h : s.levelsSound) : s.recallEraseComplete.levelsSound := by
  unfold State.recallEraseComplete
  split
  · exact h
  · exact h

theorem powerDown (h : s.levelsSound) (supply : Supply) : (s.powerDown supply).levelsSound := h

/-- R23, R39: the reset values: a table of FREE entries, and no record waiting. -/
theorem takeResetValues (s : State) (area : RecallArea) (cause : EngineCause) :
    (s.takeResetValues area cause).levelsSound := by
  obtain ⟨-, -, -, -, hlevels, -⟩ := Proofs.resetMeetsTheInvariants
  exact hlevels

theorem recordSent (h : s.levelsSound) : s.recordSent.levelsSound := by
  unfold State.recordSent
  split
  · exact (takeResetValues s _ _).ite h
  · exact h

theorem softResetDue (h : s.levelsSound) : s.softResetDue.levelsSound := by
  unfold State.softResetDue
  split
  · exact (takeResetValues s _ _).ite h
  · exact h

theorem powerOn (h : s.levelsSound) : s.powerOn.levelsSound := h.ite (takeResetValues s _ _)

/-! ## Every row -/

theorem whileRunning (h : s.levelsSound) {f : State → State} (hf : s.levelsSound → (f s).levelsSound) :
    (whileRunning f s).levelsSound := (hf h).ite h

theorem takeKind (h : s.levelsSound) (kind : Byte) {handle : State → HostFrame → State}
    (hhandle : ∀ u f, u.levelsSound → (handle u f).levelsSound) : (takeKind kind handle s).levelsSound :=
  h.whileRunning fun hs => hs.takeCommand _ hhandle

/-- R62: every row keeps the levels within their bounds. -/
theorem exec {c : Instr} {t : State} (h : s.levelsSound) (hexec : exec c s = .next t) : t.levelsSound := by
  have hnext {u : State} (heq : Host.Outcome.next (φ := Fault) (ρ := Refusal) u = .next t) (hu : u.levelsSound) :
      t.levelsSound := Host.Outcome.next.inj heq ▸ hu
  cases c with
  | frameRecordComplete bytes => exact hnext hexec (h.whileRunning fun hs => hs.receiveFrontEnd bytes)
  | burstDone bytes => exact hnext hexec (h.whileRunning fun hs => hs.receiveFrontEnd bytes)
  | recordTaken => exact hnext hexec (h.whileRunning takeRecord)
  | heardAgeLimit index => exact hnext hexec (h.whileRunning fun hs => hs.heardAgeLimit index)
  | barEnd index => exact hnext hexec (h.whileRunning fun hs => hs.barEnd index)
  | departureDecay => exact hnext hexec (h.whileRunning departureDecay)
  | digestAgeLimit index => exact hnext hexec (h.whileRunning fun hs => hs.digestAgeLimit index)
  | servingReport => exact hnext hexec (h.whileRunning servingReport)
  | servingLossLimit => exact hnext hexec (h.whileRunning servingLossLimit)
  | huntListenReadLimit => exact hnext hexec (h.whileRunning huntListenReadLimit)
  | huntLimit => exact hnext hexec (h.whileRunning huntLimit)
  | readingUnreadable => exact hnext hexec (h.whileRunning readingUnreadable)
  | grantWaitTimeout => exact hnext hexec (h.whileRunning grantWaitTimeout)
  | tooLong => exact hnext hexec (h.whileRunning tooLong)
  | affilAckWaitTimeout => exact hnext hexec (h.whileRunning affilAckWaitTimeout)
  | silenceTimeout => exact hnext hexec (h.whileRunning silenceTimeout)
  | hostFrameComplete bytes => exact hnext hexec (h.whileRunning fun hs => hs.hostReceive _ _)
  | interByteGapTimeout => exact hnext hexec (h.whileRunning gapTimeout)
  | unknownKindCommand =>
    exact hnext hexec (h.whileRunning fun hs => hs.takeCommand _ fun _ f hu => hu.reply f .unknownKind)
  | provision => exact hnext hexec (h.takeKind _ fun _ f hu => hu.provision f)
  | setParameters => exact hnext hexec (h.takeKind _ fun _ f hu => hu.setParameters f)
  | loadSite => exact hnext hexec (h.takeKind _ fun _ f hu => hu.loadSiteCommand f)
  | dropSite => exact hnext hexec (h.takeKind _ fun _ f hu => hu.dropSiteCommand f)
  | setHuntChannels => exact hnext hexec (h.takeKind _ fun _ f hu => hu.setHuntChannels f)
  | setGroups => exact hnext hexec (h.takeKind _ fun _ f hu => hu.setGroupsCommand f)
  | start => exact hnext hexec (h.takeKind _ fun _ f hu => hu.startCommand f)
  | stop => exact hnext hexec (h.takeKind _ fun _ f hu => hu.stopCommand f)
  | callState => exact hnext hexec (h.takeKind _ fun _ f hu => hu.callStateCommand f)
  | roamHold => exact hnext hexec (h.takeKind _ fun _ f hu => hu.roamHoldCommand f)
  | roamTo => exact hnext hexec (h.takeKind _ fun _ f hu => hu.roamToCommand f)
  | roamAbort => exact hnext hexec (h.takeKind _ fun _ f hu => hu.roamAbortCommand f)
  | querySite => exact hnext hexec (h.takeKind _ fun _ f hu => hu.querySite f)
  | queryStatus => exact hnext hexec (h.takeKind _ fun _ f hu => hu.queryStatus f)
  | recallClear => exact hnext hexec (h.takeKind _ fun _ f hu => hu.recallClear f)
  | reset => exact hnext hexec (h.takeKind _ fun _ f hu => hu.resetCommand f)
  | recordSent => exact hnext hexec (h.whileRunning recordSent)
  | softReset => exact hnext hexec (h.whileRunning softResetDue)
  | rstnLow => exact hnext hexec ((h.powerDown _).ite h)
  | powerOn => exact hnext hexec h.powerOn
  | recallWriteComplete => exact hnext hexec (h.whileRunning recallWriteComplete)
  | recallEraseComplete => exact hnext hexec (h.whileRunning recallEraseComplete)
  | powerLoss => exact hnext hexec (h.ite (h.powerDown _))
  | hostFrameLengthDiscard bytes => exact hnext hexec (h.whileRunning fun hs => hs.hostReceive _ _)
  | frontEndLengthDiscard bytes => exact hnext hexec (h.whileRunning fun hs => hs.receiveFrontEnd bytes)

end State.levelsSound

end Sys2Proof.Machine
end

section
/-! PROOFS. The bound of the filtered levels (O6). -/

namespace Sys2Proof.Proofs

open Sys2Proof Sys2Proof.Machine

/-- Settles O6: every row keeps the levels, the filter because F stays between its value and 16 times the sample. -/
theorem everyStepKeepsTheLevelsInRange : Obligations.EveryStepKeepsTheLevelsInRange := by
  intro s t h hstep
  unfold step at hstep
  split at hstep
  · next rest _ =>
    have hpending : (s.setPending rest).levelsSound := h
    exact hpending.exec hstep
  · cases hstep
    exact h

end Sys2Proof.Proofs
end

section
/-! PROOFS. The serving report (O55). -/

namespace Sys2Proof.Proofs

open Sys2Proof Sys2Proof.Machine

/-- R73: below the interval the report counter rises. -/
theorem reportTick_of_lt {s : State} (h : s.ranking.reportCount + 1 < s.par .reportInterval) :
    s.reportTick = s.setRanking { s.ranking with reportCount := s.ranking.reportCount + 1 } := by
  rw [State.reportTick, if_neg (by omega), if_neg (by omega)]

/-- R73: at the interval the SERVING entry is reported. -/
theorem reportTick_of_meets {s : State} {i : Nat} (hi : s.serving = some i) (hpos : 0 < s.par .reportInterval)
    (hmeets : s.par .reportInterval ≤ s.ranking.reportCount + 1) : s.reportTick = s.sendReport i := by
  rw [State.reportTick, if_neg (by omega), if_pos hmeets, hi]

/-- R73: the row runs the report counter when its limit is met in CAMPED. -/
theorem exec_servingReport_of_meets {s : State} (hrun : s.pins.supply = .running) (hcamped : s.roam.engine = .camped)
    (hpos : 0 < s.par .reportInterval) (hmeets : s.par .reportInterval ≤ s.ranking.reportCount + 1) :
    exec .servingReport s = .next s.reportTick := by
  have hexec : exec .servingReport s = .next (whileRunning State.servingReport s) := rfl
  rw [hexec, whileRunning_of_running hrun, State.servingReport, if_pos ⟨hcamped, hpos, hmeets⟩]

/-- Settles O55: the row and the multiframe start run one report counter. -/
theorem servingReportIsSent : Obligations.ServingReportIsSent := by
  refine ⟨fun s i hrun hcamped hi hpos hmeets => ?_,
    fun s => ⟨fun hzero => ?_, reportTick_of_lt, exec_servingReport_of_meets⟩⟩
  · rw [exec_servingReport_of_meets hrun hcamped hpos hmeets, reportTick_of_meets hi hpos hmeets, State.sendReport,
      State.event_eq]
    rfl
  · rw [State.reportTick, if_pos hzero]

end Sys2Proof.Proofs
end

section
/-! SUPPORT. The score, eligibility and the choice of highest score (R63, R64, R65). -/

namespace Sys2Proof.Machine

/-! ## The score (R63) -/

/-- R63: the score of an entry without a digest. -/
theorem State.score_of_no_digest (s : State) {e : Entry} (h : e.digest = none) :
    s.score e =
      (if e.samples = 0 then 0 else (e.level : Int))
        + 16 * (e.preference - (if s.call.emergency = true then 0 else (e.penalty : Int))) := by
  simp [State.score, Entry.load, Entry.isolated, h]

/-- R63: the score of an entry with one, whose load and isolated flag count. -/
theorem State.score_of_digest (s : State) {e : Entry} {d : Digest} (h : e.digest = some d) :
    s.score e =
      (if e.samples = 0 then 0 else (e.level : Int))
        + 16 * (e.preference - (if s.call.emergency = true then 0 else (d.load * s.par .loadStep : Int))
            - (if d.isolated = true then (s.par .isolatedPenalty : Int) else 0)
            - (if s.call.emergency = true then 0 else (e.penalty : Int))) := by
  simp [State.score, Entry.load, Entry.isolated, h]

/-- R63: the load the score counts is that of the digest. -/
theorem Entry.load_le {e : Entry} {n : Nat} (h : ∀ d, e.digest = some d → d.load ≤ n) : e.load ≤ n := by
  unfold Entry.load
  split
  · next d hd => exact h d hd
  · exact Nat.zero_le n

/-- R63: within the ranges of its terms the score lies within -3312..4576. -/
theorem State.score_bounds {s : State} {e : Entry} (hlevel : e.level ≤ 4080) (hlow : -32 ≤ e.preference)
    (hhigh : e.preference ≤ 31) (hpenalty : e.penalty ≤ 63) (hload : ∀ d, e.digest = some d → d.load ≤ 7)
    (hstep : s.par .loadStep ≤ 7) (hisolated : s.par .isolatedPenalty ≤ 63) :
    -3312 ≤ s.score e ∧ s.score e ≤ 4576 := by
  have hterm : e.load * s.par .loadStep ≤ 49 := Nat.mul_le_mul (Entry.load_le hload) hstep
  have hterm' : (e.load : Int) * s.par .loadStep ≤ 49 := by exact_mod_cast hterm
  have hnonneg : (0 : Int) ≤ (e.load : Int) * s.par .loadStep := by positivity
  dsimp only [State.score]
  split_ifs <;> omega

/-! ## Eligibility (R64) -/

/-- R64: what a digest says of the site's own beacon, said of the entry. -/
theorem Entry.forall_own_iff (e : Entry) (P : OwnBeacon → Prop) :
    (∀ d o, e.digest = some d → d.own = some o → P o) ↔ ∀ o, e.own = some o → P o := by
  simp only [Entry.own, Option.bind_eq_some_iff]
  exact ⟨fun h o ⟨d, hd, ho⟩ => h d o hd ho, fun h d o hd ho => h o ⟨d, hd, ho⟩⟩

/-- R64: what makes an entry eligible. -/
theorem State.eligible_iff (s : State) (e : Entry) :
    s.eligible e = true ↔
      e.status = .heard ∧ e.barred = 0 ∧ s.par .minimumSamples ≤ e.samples ∧ 16 * s.par .entryThreshold ≤ e.level
        ∧ ∀ d o, e.digest = some d → d.own = some o →
            o.closed = false ∧ (o.emergencyOnly = true → s.call.emergency = true) := by
  rw [Entry.forall_own_iff e fun o => o.closed = false ∧ (o.emergencyOnly = true → s.call.emergency = true)]
  cases ho : e.own with
  | none => simp [State.eligible, ho, and_assoc]
  | some o =>
    cases hemergency : o.emergencyOnly
    · simp [State.eligible, ho, hemergency, and_assoc]
    · simp [State.eligible, ho, hemergency, and_assoc]

/-- R64: an eligible entry stands in the table. -/
theorem State.lt_length_of_eligible {s : State} {i : Nat} (h : s.eligible (s.entry i) = true) :
    i < s.table.entries.length := by
  obtain ⟨hheard, -⟩ := (s.eligible_iff _).1 h
  exact State.lt_length_of_not_free (by simp [hheard])

/-! ## The highest score (R65) -/

/-- R65: there is a highest score unless the list is empty. -/
theorem State.highest_eq_none {s : State} {l : List Nat} (h : s.highest l = none) : l = [] := by
  cases l with
  | nil => rfl
  | cons i rest =>
    rw [State.highest] at h
    split at h
    · cases h
    · split at h <;> cases h

/-- R65: of a rising list of indexes, the one of highest score is the first of the highest. -/
theorem State.highest_eq_some {s : State} {l : List Nat} {i : Nat} (hl : l.Pairwise (· < ·)) (h : s.highest l = some i) :
    i ∈ l ∧ ∀ j ∈ l, s.score (s.entry j) ≤ s.score (s.entry i)
      ∧ (s.score (s.entry j) = s.score (s.entry i) → i ≤ j) := by
  induction l generalizing i with
  | nil => cases h
  | cons a rest ih =>
    obtain ⟨ha, hrest⟩ := List.pairwise_cons.1 hl
    rw [State.highest] at h
    cases hr : s.highest rest with
    | none =>
      obtain rfl : a = i := by simpa [hr] using h
      simp [State.highest_eq_none hr]
    | some m =>
      obtain ⟨hm, hmax⟩ := ih hrest hr
      simp only [hr] at h
      split at h
      · next hlt =>
        obtain rfl : m = i := by simpa using h
        refine ⟨List.mem_cons_of_mem _ hm, List.forall_mem_cons.2 ⟨⟨hlt.le, fun heq => ?_⟩, hmax⟩⟩
        exact absurd heq hlt.ne
      · next hge =>
        obtain rfl : a = i := by simpa using h
        refine ⟨List.mem_cons_self, List.forall_mem_cons.2 ⟨⟨le_rfl, fun _ => le_rfl⟩, fun j hj => ?_⟩⟩
        exact ⟨(hmax j hj).1.trans (not_lt.1 hge), fun _ => (ha j hj).le⟩

/-- R65: the choice among the indexes with a property, when there is one. -/
theorem State.highest_filter_eq_some {s : State} {P : Nat → Bool} {i : Nat}
    (h : s.highest (allIndexes.filter P) = some i) :
    i < 12 ∧ P i = true ∧ ∀ j < 12, P j = true →
      s.score (s.entry j) ≤ s.score (s.entry i) ∧ (s.score (s.entry j) = s.score (s.entry i) → i ≤ j) := by
  obtain ⟨hi, hmax⟩ := State.highest_eq_some (pairwise_lt_filter_allIndexes P) h
  obtain ⟨hlt, hP⟩ := List.mem_filter.1 hi
  exact ⟨List.mem_range.1 hlt, hP, fun j hj hPj => hmax j (List.mem_filter.2 ⟨List.mem_range.2 hj, hPj⟩)⟩

/-- R65: there is no choice only when no index has the property. -/
theorem State.highest_filter_eq_none {s : State} {P : Nat → Bool} (h : s.highest (allIndexes.filter P) = none) :
    ∀ j < 12, P j = false := fun j hj => by
  have hnot := List.filter_eq_nil_iff.1 (State.highest_eq_none h) j (List.mem_range.2 hj)
  simpa using hnot

end Sys2Proof.Machine
end

section
/-! PROOFS. The score, the best eligible entry and the URGENT target (O17). -/

namespace Sys2Proof.Proofs

open Sys2Proof Sys2Proof.Machine

/-- R65, R96: the best eligible entry. -/
theorem bestEligible_highest (s : State) (lost : Option Nat) :
    (∀ i, s.bestEligible lost = some i →
        i < 12 ∧ s.eligible (s.entry i) = true ∧ some i ≠ lost
          ∧ ∀ j < 12, s.eligible (s.entry j) = true → some j ≠ lost →
            s.score (s.entry j) ≤ s.score (s.entry i) ∧ (s.score (s.entry j) = s.score (s.entry i) → i ≤ j))
      ∧ (s.bestEligible lost = none → ∀ j < 12, s.eligible (s.entry j) = true → some j = lost) := by
  refine ⟨fun i hi => ?_, fun hnone j hj he => ?_⟩
  · obtain ⟨hlt, hP, hmax⟩ := State.highest_filter_eq_some hi
    obtain ⟨he, hne⟩ : s.eligible (s.entry i) = true ∧ some i ≠ lost := by simpa using hP
    exact ⟨hlt, he, hne, fun j hj hej hnej => hmax j hj (by simp [hej, hnej])⟩
  · simpa [he] using State.highest_filter_eq_none hnone j hj

/-- R72: the URGENT target; an eligible entry that does not outscore the serving entry is below the target. -/
theorem urgentTarget_highest (s : State) (v : Nat) :
    (∀ i, s.urgentTarget v = some i →
        i < 12 ∧ s.eligible (s.entry i) = true ∧ s.score (s.entry v) < s.score (s.entry i)
          ∧ ∀ j < 12, s.eligible (s.entry j) = true →
            s.score (s.entry j) ≤ s.score (s.entry i) ∧ (s.score (s.entry j) = s.score (s.entry i) → i ≤ j))
      ∧ (s.urgentTarget v = none →
          ∀ j < 12, s.eligible (s.entry j) = true → s.score (s.entry j) ≤ s.score (s.entry v)) := by
  refine ⟨fun i hi => ?_, fun hnone j hj he => ?_⟩
  · obtain ⟨hlt, hP, hmax⟩ := State.highest_filter_eq_some hi
    obtain ⟨he, houtscores⟩ : s.eligible (s.entry i) = true ∧ s.score (s.entry v) < s.score (s.entry i) := by
      simpa using hP
    refine ⟨hlt, he, houtscores, fun j hj hej => ?_⟩
    rcases lt_or_ge (s.score (s.entry v)) (s.score (s.entry j)) with hj' | hj'
    · exact hmax j hj (by simp [hej, hj'])
    · exact ⟨by omega, fun heq => by omega⟩
  · simpa [he] using State.highest_filter_eq_none hnone j hj

/-- Settles O17: the choice walks the rising indexes from the back and keeps the earlier of two equals. -/
theorem bestEligibleIsTheHighest : Obligations.BestEligibleIsTheHighest :=
  ⟨fun s e => ⟨s.score_of_no_digest, fun _ => s.score_of_digest, State.score_bounds, s.eligible_iff e⟩,
    bestEligible_highest, urgentTarget_highest⟩

end Sys2Proof.Proofs
end

section
/-! SUPPORT. The dwell update and the weak update (R66-R72). -/

namespace Sys2Proof.Machine

/-! ## Outscoring and the watch (R66, R69) -/

/-- R66: to outscore the serving entry. -/
theorem State.outscores_iff (s : State) (i v : Nat) :
    s.outscores i v = true ↔
      s.eligible (s.entry i) = true ∧ s.score (s.entry v) + 16 * (s.par .hysteresis : Int) ≤ s.score (s.entry i) := by
  rw [State.outscores, Bool.and_eq_true, decide_eq_true_eq]

/-- R63: the score does not read the dwell counts. -/
theorem State.score_entry_setDwell (s : State) (i n j : Nat) :
    (s.setEntry i { s.entry i with dwell := n }).score ((s.setEntry i { s.entry i with dwell := n }).entry j) =
      s.score (s.entry j) := by
  have hscore : (s.setEntry i { s.entry i with dwell := n }).score = s.score := State.score_congr rfl rfl
  rw [hscore]
  rcases eq_or_ne j i with rfl | hji
  · rcases lt_or_ge j s.table.entries.length with hj | hj
    · rw [State.entry_setEntry_same _ hj]
      rfl
    · rw [State.setEntry, List.set_eq_of_length_le hj]
      rfl
  · rw [State.entry_setEntry_other s _ hji]

/-- R69: what naming the watch sets. -/
theorem State.nameWatch_sets (s : State) (i : Nat) :
    (s.nameWatch i).ranking = { s.ranking with watch := some i }
      ∧ (s.nameWatch i).scan = { s.scan with watchTurn := true }
      ∧ (s.nameWatch i).beacon.owner = some (s.entry i).pair := by
  refine ⟨?_, ?_, State.setOwner_owner _ _⟩
  · simp [State.nameWatch]
  · simp [State.nameWatch]

/-- R69: with no watch, or one that is outscored, the entry is named. -/
theorem State.considerWatch_of_outscored {s : State} {i : Nat}
    (h : ∀ w, s.ranking.watch = some w → s.score (s.entry w) < s.score (s.entry i)) :
    s.considerWatch i = s.nameWatch i := by
  unfold State.considerWatch
  split
  · rfl
  · next w hw => exact if_pos (h w hw)

/-- R69: a watch that is not outscored stands. -/
theorem State.considerWatch_of_stands {s : State} {i w : Nat} (hw : s.ranking.watch = some w)
    (h : s.score (s.entry i) ≤ s.score (s.entry w)) : s.considerWatch i = s := by
  rw [State.considerWatch, hw]
  exact if_neg (not_lt.2 h)

/-! ## The dwell update (R66, R67, R70) -/

/-- R66: the state with the dwell count of an entry raised, up to the limit. -/
def State.dwellRaised (s : State) (i : Nat) : State :=
  s.setEntry i { s.entry i with dwell := min ((s.entry i).dwell + 1) (s.par .dwellLimit) }

/-- R66, R67, R69: the dwell update of an entry that outscores the serving entry. -/
theorem State.dwellUpdate_of_outscores {s : State} {i v : Nat} (h : s.outscores i v = true) :
    s.dwellUpdate i v =
      (if (s.entry i).dwell = 0 then (s.dwellRaised i).considerWatch i else s.dwellRaised i,
        if s.par .dwellLimit ≤ (s.entry i).dwell + 1 then [.dwell (s.entry i).code] else []) := by
  simp only [State.dwellUpdate, h, if_true, State.dwellRaised, min_eq_right_iff]

/-- R70: the dwell update of an entry that does not. -/
theorem State.dwellUpdate_of_not_outscores {s : State} {i v : Nat} (h : ¬ s.outscores i v = true) :
    s.dwellUpdate i v = ((s.setEntry i { s.entry i with dwell := 0 }).dwellCleared i, []) := by
  rw [State.dwellUpdate, if_neg h]

/-- R66: the watch that the dwell update may name leaves the table. -/
theorem State.dwellUpdate_table_of_outscores {s : State} {i v : Nat} (h : s.outscores i v = true) :
    (s.dwellUpdate i v).1.table =
      s.withEntry i { s.entry i with dwell := min ((s.entry i).dwell + 1) (s.par .dwellLimit) } := by
  rw [State.dwellUpdate_of_outscores h]
  dsimp only
  split
  · rw [(State.considerWatch_frame ..).2.1]
    rfl
  · rfl

/-- R69: a count that rises from 0 names the watch when there is none or its score is exceeded. -/
theorem State.dwellUpdate_names_watch {s : State} {i v : Nat} (h : s.outscores i v = true) (hzero : (s.entry i).dwell = 0)
    (hwatch : ∀ w, s.ranking.watch = some w → s.score (s.entry w) < s.score (s.entry i)) :
    (s.dwellUpdate i v).1 = (s.dwellRaised i).nameWatch i := by
  have hwatch' : ∀ w, (s.dwellRaised i).ranking.watch = some w →
      (s.dwellRaised i).score ((s.dwellRaised i).entry w) < (s.dwellRaised i).score ((s.dwellRaised i).entry i) := by
    intro w hw
    rw [State.dwellRaised, State.score_entry_setDwell, State.score_entry_setDwell]
    exact hwatch w hw
  rw [State.dwellUpdate_of_outscores h]
  dsimp only
  rw [if_pos hzero, State.considerWatch_of_outscored hwatch']

/-- R69: a count that was above 0, or a watch of at least its score, leaves the watch. -/
theorem State.dwellUpdate_keeps_watch {s : State} {i v : Nat} (h : s.outscores i v = true)
    (hkept : (s.entry i).dwell ≠ 0 ∨ ∃ w, s.ranking.watch = some w ∧ s.score (s.entry i) ≤ s.score (s.entry w)) :
    (s.dwellUpdate i v).1 = s.dwellRaised i := by
  rw [State.dwellUpdate_of_outscores h]
  dsimp only
  split
  · next hzero =>
    obtain ⟨w, hw, hle⟩ := hkept.resolve_left (not_not.2 hzero)
    refine State.considerWatch_of_stands (w := w) hw ?_
    rw [State.dwellRaised, State.score_entry_setDwell, State.score_entry_setDwell]
    exact hle
  · rfl

/-- R44, R69: the pair that the Watch Store goes to is that of the entry visited. -/
theorem State.dwellRaised_pair {s : State} {i : Nat} (hi : i < s.table.entries.length) :
    ((s.dwellRaised i).entry i).pair = (s.entry i).pair := by
  rw [State.dwellRaised, State.entry_setEntry_same _ hi]
  rfl

/-! ## The weak update (R71, R72) -/

/-- R72: the Ranking Unit's counts do not enter the URGENT target. -/
theorem State.urgentTarget_setRanking (s : State) (x : RankingUnit) (v : Nat) :
    (s.setRanking x).urgentTarget v = s.urgentTarget v :=
  State.highest_congr (s := s.setRanking x) (t := s) rfl rfl rfl _

/-- R72: SERVING WEAK is sent once. -/
theorem State.reportWeak_eq (s : State) (v : Nat) :
    s.reportWeak v =
      { s with
        ranking := { s.ranking with weakReported := true }
        host :=
          if s.ranking.weakReported then s.host
          else s.host.offer (.servingWeak v (s.entry v).code (s.entry v).level s.ranking.weakCount) } := by
  by_cases hsent : s.ranking.weakReported = true
  · rw [State.reportWeak, if_pos hsent, if_pos hsent, ← hsent]
  · rw [State.reportWeak, if_neg hsent, if_neg hsent, State.event_eq]
    rfl

/-- R71: a sample that is not weak clears the count. -/
theorem State.weakUpdate_of_not_weak {s : State} {v : Nat} (h : 16 * s.par .weakThreshold ≤ (s.entry v).level) :
    s.weakUpdate v = (s.setRanking { s.ranking with weakCount := 0, weakReported := false }, []) := by
  rw [State.weakUpdate, if_neg (not_lt.2 h)]

/-- R71: a weak sample below the limit is counted. -/
theorem State.weakUpdate_of_below {s : State} {v : Nat} (h : (s.entry v).level < 16 * s.par .weakThreshold)
    (hbelow : s.ranking.weakCount + 1 < s.par .weakCountLimit) :
    s.weakUpdate v = (s.setRanking { s.ranking with weakCount := s.ranking.weakCount + 1 }, []) := by
  simp only [State.weakUpdate, if_pos h, min_eq_left hbelow.le, if_neg hbelow.ne]

/-- R71, R72: at the limit SERVING WEAK is sent once and URGENT raised. -/
theorem State.weakUpdate_of_limit {s : State} {v : Nat} (h : (s.entry v).level < 16 * s.par .weakThreshold)
    (hlimit : s.par .weakCountLimit ≤ s.ranking.weakCount + 1) :
    s.weakUpdate v =
      ((s.setRanking { s.ranking with weakCount := s.par .weakCountLimit }).reportWeak v,
        [.urgent ((s.urgentTarget v).map fun i => (s.entry i).code)]) := by
  simp only [State.weakUpdate, if_pos h, min_eq_right hlimit, if_true, State.urgentTarget_setRanking]
  rfl

end Sys2Proof.Machine
end

section
/-! PROOFS. The level filter, the dwell update and the weak update (O16). -/

namespace Sys2Proof.Proofs

open Sys2Proof Sys2Proof.Machine

/-- R66, R67, R69: the dwell update of an entry that outscores the serving entry. -/
theorem dwellUpdate_raises {s : State} {i v : Nat} (h : s.outscores i v = true) :
    (s.dwellUpdate i v).1.table =
        s.withEntry i { s.entry i with dwell := min ((s.entry i).dwell + 1) (s.par .dwellLimit) }
      ∧ (s.dwellUpdate i v).2 = (if s.par .dwellLimit ≤ (s.entry i).dwell + 1 then [.dwell (s.entry i).code] else [])
      ∧ ((s.entry i).dwell = 0 →
          (∀ w, s.ranking.watch = some w → s.score (s.entry w) < s.score (s.entry i)) →
          (s.dwellUpdate i v).1.ranking = { s.ranking with watch := some i }
            ∧ (s.dwellUpdate i v).1.scan = { s.scan with watchTurn := true }
            ∧ (s.dwellUpdate i v).1.beacon.owner =
                some { channel := (s.entry i).channel, colour := (s.entry i).colour })
      ∧ ((s.entry i).dwell ≠ 0
            ∨ (∃ w, s.ranking.watch = some w ∧ s.score (s.entry i) ≤ s.score (s.entry w)) →
          (s.dwellUpdate i v).1.ranking = s.ranking ∧ (s.dwellUpdate i v).1.scan = s.scan
            ∧ (s.dwellUpdate i v).1.beacon = s.beacon) := by
  refine ⟨State.dwellUpdate_table_of_outscores h, by rw [State.dwellUpdate_of_outscores h], fun hzero hwatch => ?_,
    fun hkept => ?_⟩
  · obtain ⟨hranking, hscan, howner⟩ := (s.dwellRaised i).nameWatch_sets i
    obtain ⟨heligible, -⟩ := (s.outscores_iff i v).1 h
    rw [State.dwellRaised_pair (State.lt_length_of_eligible heligible)] at howner
    rw [State.dwellUpdate_names_watch h hzero hwatch]
    exact ⟨hranking, hscan, howner⟩
  · rw [State.dwellUpdate_keeps_watch h hkept]
    exact ⟨rfl, rfl, rfl⟩

/-- R70: the dwell update of an entry that does not outscore the serving entry. -/
theorem dwellUpdate_clears {s : State} {i v : Nat} (h : ¬ s.outscores i v = true) :
    (s.dwellUpdate i v).1.table = s.withEntry i { s.entry i with dwell := 0 }
      ∧ (s.dwellUpdate i v).2 = []
      ∧ (s.dwellUpdate i v).1.ranking =
          { s.ranking with watch := if s.ranking.watch = some i then none else s.ranking.watch } := by
  rw [State.dwellUpdate_of_not_outscores h]
  exact ⟨(State.dwellCleared_frame ..).2.1, rfl, State.dwellCleared_ranking _ i⟩

/-- R71, R72: the weak update, by the sample and the limit. -/
theorem weakUpdate_eq (s : State) (v : Nat) :
    s.weakUpdate v =
      if 16 * s.par .weakThreshold ≤ (s.entry v).level then
        (s.setRanking { s.ranking with weakCount := 0, weakReported := false }, [])
      else if s.ranking.weakCount + 1 < s.par .weakCountLimit then
        (s.setRanking { s.ranking with weakCount := s.ranking.weakCount + 1 }, [])
      else
        ({ s with
            ranking := { s.ranking with weakCount := s.par .weakCountLimit, weakReported := true }
            host :=
              if s.ranking.weakReported then s.host
              else s.host.offer (.servingWeak v (s.entry v).code (s.entry v).level (s.par .weakCountLimit)) },
          [.urgent ((s.urgentTarget v).map fun i => (s.entry i).code)]) := by
  by_cases hlevel : 16 * s.par .weakThreshold ≤ (s.entry v).level
  · rw [if_pos hlevel, State.weakUpdate_of_not_weak hlevel]
  · rw [if_neg hlevel]
    by_cases hbelow : s.ranking.weakCount + 1 < s.par .weakCountLimit
    · rw [if_pos hbelow, State.weakUpdate_of_below (not_le.1 hlevel) hbelow]
    · rw [if_neg hbelow, State.weakUpdate_of_limit (not_le.1 hlevel) (not_lt.1 hbelow), State.reportWeak_eq]
      rfl

/-- Settles O16: the filter by the bounds of the truncated quotient, the dwell update by whether the entry outscores the serving
entry, the weak update by the sample and the limit. -/
theorem filterMovesTowardTheSample : Obligations.FilterMovesTowardTheSample := by
  refine ⟨fun k n level c hl hc => ⟨filtered_le k n hl hc, ?_, ?_, fun hn => ?_⟩, fun s i v => ?_, weakUpdate_eq⟩
  · rintro rfl
    exact filtered_first k level c
  · rintro rfl
    exact filtered_zero_shift n level c
  · obtain ⟨hlow, hhigh⟩ := filtered_between hn k level c
    exact ⟨hlow, hhigh, filtered_eq_self_iff hn k level c⟩
  · rw [← State.outscores_iff]
    exact ⟨dwellUpdate_raises, dwellUpdate_clears⟩

end Sys2Proof.Proofs
end

section
/-! SUPPORT. CALL STATE and what it does at once (R81, R86, R143, R144). -/

namespace Sys2Proof.Machine

/-! ## The record's bytes (12.4.1) -/

/-- 12.4.1: a call state byte above the list is refused. -/
theorem readCall_eq_none {b : Byte} (h : 2 < b.toNat) : readCall b = none := by
  have hne (n : Byte) (hn : n.toNat ≤ 2) : b ≠ n := by
    rintro rfl
    omega
  rw [readCall, if_neg (hne 0 (by decide)), if_neg (hne 1 (by decide)), if_neg (hne 2 (by decide))]

/-- 12.4.1: a call state is read as it was written. -/
theorem readCall_toByte (call : Call) : readCall call.toByte = some call := by
  cases call <;> rfl

/-- 12.4.1: the on/off bytes are those up to 1. -/
theorem switch_byte_of_le {b : Byte} (h : b.toNat ≤ 1) : b = 0#8 ∨ b = 1#8 := by
  bv_omega

/-! ## The command (R143) -/

/-- R143: a CALL STATE with a value outside the lists is refused. -/
theorem State.callStateCommand_refused {s : State} {f : HostFrame} {c e : Byte} (hb : f.body = [c, e])
    (h : 2 < c.toNat ∨ 1 < e.toNat) : s.callStateCommand f = s.reply f .format := by
  have hc : at8 f.body 0 = c := by rw [hb]; rfl
  have he : at8 f.body 1 = e := by rw [hb]; rfl
  rw [State.callStateCommand, hc, he]
  rcases h with h | h
  · rw [readCall_eq_none h]
  · rw [readSwitch_eq_none h]
    cases readCall c <;> rfl

/-- R143: any other replaces the record, acts on it, and is answered with the INHIBITED flag. -/
theorem State.callStateCommand_accepted {s : State} {f : HostFrame} {call : Call} {e : Byte}
    (hb : f.body = [call.toByte, e]) (he : e.toNat ≤ 1) :
    s.callStateCommand f =
      let t := (s.setCall { call := call, emergency := decide (e = 1#8) }).callActs
      t.reply f .ok [boolByte t.inhibited] := by
  have hcall : readCall (at8 f.body 0) = some call := by rw [hb]; exact readCall_toByte call
  have hswitch : readSwitch (at8 f.body 1) = some (decide (e = 1#8)) := by
    rw [hb]
    exact readSwitch_eq_some (switch_byte_of_le he)
  have hlen : ¬f.body.length ≠ 2 := by simp [hb]
  rw [State.callStateCommand, hcall, hswitch]
  exact if_neg hlen

/-! ## What a change of the record does at once (R144) -/

/-- R144: a change of the record moves the Scan Sequencer, the Watch Store's owner and the tuning alone. -/
@[simp] theorem State.callActs_frame (s : State) :
    s.callActs.intake = s.intake ∧ s.callActs.table = s.table ∧ s.callActs.ranking = s.ranking
    ∧ s.callActs.roam = s.roam ∧ s.callActs.access = s.access ∧ s.callActs.groups = s.groups
    ∧ s.callActs.call = s.call ∧ s.callActs.recallArea = s.recallArea ∧ s.callActs.host = s.host
    ∧ s.callActs.pins = s.pins := by
  unfold State.callActs
  split
  · simp
  · split <;> simp

/-- R143: the INHIBITED flag as a byte. -/
theorem State.boolByte_inhibited (s : State) :
    boolByte s.inhibited = if s.call.call = .transmitting ∧ s.pins.txinh = true then 1#8 else 0#8 := by
  simp [State.inhibited, boolByte]

/-- TUNE with the serving channel, if there is a serving site. -/
theorem State.tuneServing_eq (s : State) :
    s.tuneServing =
      s.setFrontEnd (s.frontEnd ++ (s.serving.map fun i => FrontEndRecord.tune (s.entry i).channel).toList) := by
  unfold State.tuneServing
  cases s.serving with
  | none => simp [State.setFrontEnd]
  | some i => rfl

/-- R81: TRANSMITTING in CAMPED abandons the visit in progress. -/
theorem State.callActs_of_visit {s : State} (h : s.roam.engine = .camped ∧ s.call.call = .transmitting)
    (hv : s.scan.visit ≠ none) :
    s.callActs.scan = { s.scan with visit := none }
      ∧ s.callActs.frontEnd =
          s.frontEnd ++ (s.serving.map fun i => FrontEndRecord.tune (s.entry i).channel).toList := by
  obtain ⟨v, hv⟩ := Option.ne_none_iff_exists'.1 hv
  have habandon : s.callActs = (s.setScan { s.scan with visit := none }).tuneServing := by
    rw [State.callActs, if_pos h, State.abandonVisit, hv]
  rw [habandon, State.tuneServing_eq]
  exact ⟨rfl, rfl⟩

/-- R44, R85: a hunt-listen that ends is gone, and with it the Watch Store's owner. -/
theorem State.endListen_gone (s : State) : s.endListen.scan.listen = none ∧ s.endListen.beacon.owner = none := by
  rw [State.endListen_eq]
  refine ⟨?_, State.setOwner_owner s none⟩
  rw [State.setBeacon_scan, State.huntOn_eq]

/-- R86: anything but IDLE in DIRECT ends the hunt visit or hunt-listen in progress. -/
theorem State.callActs_of_hunt {s : State} (he : s.roam.engine = .direct) (hc : s.call.call ≠ .idle)
    (h : s.scan.hunt ≠ none ∨ s.scan.listen ≠ none) :
    s.callActs.scan.hunt = none ∧ s.callActs.scan.listen = none ∧ s.callActs.beacon.owner = none
      ∧ s.callActs.frontEnd = s.frontEnd ++ [FrontEndRecord.tune (s.par .directChannel)] := by
  have hend : s.callActs = s.endListen := by
    rw [State.callActs, if_neg (by simp [he]), if_pos ⟨he, hc, by simpa [Option.isSome_iff_ne_none] using h⟩]
  obtain ⟨hhunt, hfront⟩ := s.endListen_hunt.1 he
  rw [hend]
  exact ⟨hhunt, s.endListen_gone.1, s.endListen_gone.2, hfront⟩

/-- R144: nothing else acts. -/
theorem State.callActs_of_neither {s : State}
    (hcamped : ¬(s.roam.engine = .camped ∧ s.call.call = .transmitting ∧ s.scan.visit ≠ none))
    (hdirect : ¬(s.roam.engine = .direct ∧ s.call.call ≠ .idle ∧ (s.scan.hunt ≠ none ∨ s.scan.listen ≠ none))) :
    s.callActs = s := by
  unfold State.callActs
  split
  · next h =>
    have hv : s.scan.visit = none := by tauto
    rw [State.abandonVisit, hv]
  · rw [if_neg (by simpa [Option.isSome_iff_ne_none] using hdirect)]

/-- R81, R86, R144: what a record that has just been replaced does at once, by the engine state. -/
theorem State.callActs_cases (s : State) :
    if s.roam.engine = .camped ∧ s.call.call = .transmitting ∧ s.scan.visit ≠ none then
      s.callActs.scan = { s.scan with visit := none }
        ∧ s.callActs.frontEnd =
            s.frontEnd ++ (s.serving.map fun i => FrontEndRecord.tune (s.entry i).channel).toList
    else if s.roam.engine = .direct ∧ s.call.call ≠ .idle ∧ (s.scan.hunt ≠ none ∨ s.scan.listen ≠ none) then
      s.callActs.scan.hunt = none ∧ s.callActs.scan.listen = none ∧ s.callActs.beacon.owner = none
        ∧ s.callActs.frontEnd = s.frontEnd ++ [FrontEndRecord.tune (s.par .directChannel)]
    else s.callActs.scan = s.scan ∧ s.callActs.frontEnd = s.frontEnd ∧ s.callActs.beacon = s.beacon := by
  split
  · next h =>
    obtain ⟨hcamped, htransmitting, hvisit⟩ := h
    exact State.callActs_of_visit ⟨hcamped, htransmitting⟩ hvisit
  · next hcamped =>
    split
    · next h =>
      obtain ⟨hengine, hbusy, hany⟩ := h
      exact State.callActs_of_hunt hengine hbusy hany
    · next hdirect =>
      rw [State.callActs_of_neither hcamped hdirect]
      exact ⟨rfl, rfl, rfl⟩

end Sys2Proof.Machine
end

section
/-! PROOFS. SET HUNT CHANNELS (O37) and CALL STATE (O42). -/

namespace Sys2Proof.Proofs

open Sys2Proof Sys2Proof.Machine

/-- Settles O37: the packed channels are the groups of ten bits, and the first 24 replace the list. -/
theorem setHuntChannelsReplacesTheList : Obligations.SetHuntChannelsReplacesTheList := by
  intro s f rest c packed h hk hb hc hlen
  let channels := (List.range c.toNat).map fun k => natOfBytes packed / 2 ^ (8 * packed.length - 10 * (k + 1)) % 1024
  have hchannels : channels.length = c.toNat := by simp [channels]
  have hread : readChannels f.body = some channels := by rw [hb]; exact if_pos hlen
  have hrow : exec .setHuntChannels s = .next ((s.setHost (s.host.taken rest)).setHuntChannels f) :=
    congrArg Host.Outcome.next (takeKind_of_offers h hk)
  refine ⟨channels, hchannels, fun k hk => by simp [channels, hk], ?_⟩
  rw [hrow, State.setHuntChannels, hread, ← hchannels]
  simp only [if_neg (show ¬31 < channels.length by omega)]
  rfl

/-- Settles O42: CALL STATE's refusal and its reply, and what the new record does to a visit, a hunt visit or a hunt-listen. -/
theorem callStateReplacesTheRecord : Obligations.CallStateReplacesTheRecord := by
  intro s f rest c e h hk hb
  have hrow : exec .callState s = .next ((s.setHost (s.host.taken rest)).callStateCommand f) :=
    congrArg Host.Outcome.next (takeKind_of_offers h hk)
  refine ⟨fun hrange => ?_, ?_⟩
  · rw [hrow, State.callStateCommand_refused hb hrange, reply_taken_eq_refusedWith]
  · rintro call rfl he
    rw [hrow, State.callStateCommand_accepted hb he]
    refine ⟨_, rfl, ?_⟩
    simp only [reply_eq_answer, State.boolByte_inhibited, State.setHost_call, State.setHost_host, State.setHost_roam,
      State.setHost_pins, State.setHost_table, State.setHost_access, State.setHost_groups, State.setHost_intake,
      State.setHost_ranking, State.setHost_recallArea, State.setHost_scan, State.setHost_frontEnd, State.setHost_beacon,
      State.callActs_frame]
    refine ⟨rfl, rfl, rfl, rfl, rfl, rfl, rfl, rfl, rfl, rfl, ?_⟩
    exact State.callActs_cases ((s.setHost (s.host.taken rest)).setCall { call := call, emergency := decide (e = 1#8) })

end Sys2Proof.Proofs
end

section
/-! SUPPORT. The CAMPED plan: the round robin, the starts, the budget, the exclusion, the decision and the end of a visit (R75-R80). -/

namespace Sys2Proof.Machine

/-! ## The round robin (R80) -/

/-- What a search of an ordered list finds stands before every other item with the property. -/
theorem find?_eq_some_of_pairwise {P : Nat → Bool} {R : Nat → Nat → Prop} {l : List Nat} {i : Nat} (hl : l.Pairwise R)
    (h : l.find? P = some i) : i ∈ l ∧ P i = true ∧ ∀ j ∈ l, P j = true → i = j ∨ R i j := by
  obtain ⟨hP, before, after, rfl, hbefore⟩ := List.find?_eq_some_iff_append.1 h
  obtain ⟨-, htail, -⟩ := List.pairwise_append.1 hl
  obtain ⟨hafter, -⟩ := List.pairwise_cons.1 htail
  refine ⟨by simp, hP, fun j hj hPj => ?_⟩
  rcases List.mem_append.1 hj with hj | hj
  · have hnot := hbefore j hj
    simp [hPj] at hnot
  · rcases List.mem_cons.1 hj with rfl | hj
    · exact .inl rfl
    · exact .inr (hafter j hj)

/-- R80: how far an index stands behind the pointer, going round the table. -/
def roundDistance (pointer i : Nat) : Nat := (i + 11 - pointer) % 12

/-- R80: the round robin goes through every index of the table. -/
theorem mem_afterPointer (pointer i : Nat) : i ∈ afterPointer pointer ↔ i < 12 := by
  simp only [afterPointer, allIndexes, tableSize, List.mem_append, List.mem_filter, List.mem_range, decide_eq_true_eq]
  omega

/-- R80: it goes through them in rising order from the one behind the pointer, and round the table. -/
theorem pairwise_afterPointer {pointer : Nat} (hp : pointer < 12) :
    (afterPointer pointer).Pairwise (fun i j => roundDistance pointer i < roundDistance pointer j) := by
  have hrising (P : Nat → Bool) (hP : ∀ i j, P i = true → P j = true → i < j → j < 12 →
      roundDistance pointer i < roundDistance pointer j) :
      (allIndexes.filter P).Pairwise (fun i j => roundDistance pointer i < roundDistance pointer j) := by
    refine (pairwise_lt_filter_allIndexes P).imp_of_mem fun {i j} hi hj hlt => ?_
    obtain ⟨-, hPi⟩ := List.mem_filter.1 hi
    obtain ⟨hj12, hPj⟩ := List.mem_filter.1 hj
    exact hP i j hPi hPj hlt (by simpa [allIndexes] using hj12)
  refine List.pairwise_append.2 ⟨hrising _ fun i j hi hj => ?_, hrising _ fun i j hi hj => ?_, fun i hi j hj => ?_⟩
  · simp only [decide_eq_true_eq, roundDistance] at *
    omega
  · simp only [decide_eq_true_eq, roundDistance] at *
    omega
  · simp only [allIndexes, tableSize, List.mem_filter, List.mem_range, decide_eq_true_eq, roundDistance] at *
    omega

/-- R80: the round robin's choice is the candidate met first after the pointer. -/
theorem State.roundRobin_eq_some {s : State} {without : Option Nat} {i : Nat} (hp : s.scan.pointer < 12)
    (h : s.roundRobin without = some i) :
    i < 12 ∧ (s.entry i).candidate = true ∧ some i ≠ without
      ∧ ∀ j < 12, (s.entry j).candidate = true → some j ≠ without →
        roundDistance s.scan.pointer i ≤ roundDistance s.scan.pointer j := by
  obtain ⟨hi, hP, hfirst⟩ := find?_eq_some_of_pairwise (pairwise_afterPointer hp) h
  simp only [mem_afterPointer, Bool.and_eq_true, bne_iff_ne] at hi hP hfirst
  refine ⟨hi, hP.1, hP.2, fun j hj hc hw => ?_⟩
  rcases hfirst j hj ⟨hc, hw⟩ with rfl | hlt
  · exact le_refl _
  · exact le_of_lt hlt

/-- R80: it has none when no candidate is left. -/
theorem State.roundRobin_eq_none {s : State} {without : Option Nat} (h : s.roundRobin without = none) {j : Nat}
    (hj : j < 12) (hc : (s.entry j).candidate = true) : some j = without := by
  simpa [hc] using List.find?_eq_none.1 h j ((mem_afterPointer s.scan.pointer j).2 hj)

/-! ## Starts, budget and exclusion (R77, R78, R79) -/

/-- R77: the plan with offset r holds its four starts four positions apart. -/
theorem planIndex_eq_some {r p j : Nat} (hp : p < 16) : planIndex r p = some j ↔ j < 4 ∧ p = (r + 4 * j) % 16 := by
  unfold planIndex
  split
  · simp only [Option.some.injEq]
    omega
  · simp only [reduceCtorEq, false_iff]
    omega

/-- R77: the start whose decision record this is: the one at the next position, at counter 15 in the coming plan. -/
theorem State.startHere_eq_some {s : State} (hc : s.intake.counter < 16) (p j : Nat) :
    s.startHere = some (p, j) ↔
      j < 4 ∧ p = (s.intake.counter + 1) % 16
        ∧ p = ((if s.intake.counter = 15 then s.scan.rotation + 3 else s.scan.rotation) + 4 * j) % 16 := by
  have hplan (r q : Nat) (hlt : q < 16) :
      (planIndex r q).map (fun j => (q, j)) = some (p, j) ↔ j < 4 ∧ p = q ∧ p = (r + 4 * j) % 16 := by
    simp only [Option.map_eq_some_iff, Prod.mk.injEq, planIndex_eq_some hlt]
    constructor
    · rintro ⟨_, ⟨hj, hq⟩, rfl, rfl⟩
      exact ⟨hj, rfl, hq⟩
    · rintro ⟨hj, rfl, hq⟩
      exact ⟨j, ⟨hj, hq⟩, rfl, rfl⟩
  unfold State.startHere
  by_cases h15 : s.intake.counter = 15
  · simp only [h15, if_true, hplan _ 0 (by omega)]
    omega
  · simp only [h15, if_false, hplan _ (s.intake.counter + 1) (by omega)]
    omega

/-- R78: the visit budget, by the call state and then by the weak count. -/
theorem State.budget_eq (s : State) :
    s.budget =
      if s.call.call = .transmitting then 0
      else if s.ranking.weakCount ≠ 0 then 4
      else if s.call.call = .idle then s.par .budgetIdle else s.par .budgetReceiving := by
  unfold State.budget
  cases s.call.call <;> by_cases hw : s.ranking.weakCount = 0 <;> simp [hw]

/-- R79: the positions reserved for an exchange with N slots are those of the 2N records behind a multiframe start. -/
theorem reservedPosition_iff {n p : Nat} (hn : n ≤ 8) (hp : p < 16) :
    reservedPosition n p = true ↔ ∃ k, 1 ≤ k ∧ k ≤ 2 * n ∧ p = k % 16 := by
  simp only [reservedPosition, Bool.or_eq_true, decide_eq_true_eq, Bool.and_eq_true, beq_iff_eq]
  constructor
  · rintro (⟨h1, h2⟩ | ⟨rfl, rfl⟩)
    · exact ⟨p, h1, h2, by omega⟩
    · exact ⟨16, by omega, by omega, rfl⟩
  · rintro ⟨k, h1, h2, h3⟩
    omega

/-- R107: which states are an exchange at the serving site. -/
theorem AccessState.exchange_iff (a : AccessState) : a.exchange = true ↔ a = .continuing ∨ a = .affiliating := by
  cases a <;> simp [AccessState.exchange]

/-- R79: a start is excluded while an exchange runs that reserves its settle or its measure position. -/
theorem State.excluded_iff {s : State} {p : Nat} {w : AccessParams} (hp : p < 16) (hw : s.access.params = some w)
    (hslots : w.slots ≤ 8) :
    s.excluded p = true ↔
      (s.access.state = .continuing ∨ s.access.state = .affiliating)
        ∧ ∃ q, (q = p ∨ q = (p + 1) % 16) ∧ ∃ k, 1 ≤ k ∧ k ≤ 2 * w.slots ∧ q = k % 16 := by
  have hs : s.slots = w.slots := by simp [State.slots, hw]
  rw [State.excluded, Bool.and_eq_true, Bool.or_eq_true, AccessState.exchange_iff, hs, reservedPosition_iff hslots hp,
    reservedPosition_iff hslots (Nat.mod_lt _ (by decide))]
  simp only [or_and_right, exists_or, exists_eq_left]

/-! ## A visit's begin and end (R75, R77, R80) -/

/-- R75: the visit to an entry that begins at a start. -/
def State.visitTo (s : State) (i start : Nat) : Visit :=
  { code := (s.entry i).code, channel := (s.entry i).channel, colour := (s.entry i).colour, objectGone := false
    start := start, stage := .settle }

/-- R75: a visit's begin, as a whole. -/
theorem State.beginVisit_eq (s : State) (i p : Nat) :
    s.beginVisit i p =
      { s with
        scan := { s.scan with visit := some (s.visitTo i p) }
        frontEnd :=
          if (s.serving.map fun v => (s.entry v).channel) = some (s.entry i).channel then s.frontEnd
          else s.frontEnd ++ [FrontEndRecord.tune (s.entry i).channel] } := by
  unfold State.beginVisit
  cases s.serving with
  | none => rfl
  | some v => by_cases h : (s.entry v).channel = (s.entry i).channel <;> simp [h] <;> rfl

/-- R80: a start with an object begins its visit. -/
theorem State.startVisit_of_choice {s : State} {i pointer : Nat} {turn : Bool} (p : Nat)
    (h : s.chooseObject = some (i, pointer, turn)) :
    (s.startVisit p).scan =
        { s.scan with pointer := pointer, watchTurn := turn, visit := some (s.visitTo i p) }
      ∧ (s.startVisit p).frontEnd =
          (if (s.serving.map fun v => (s.entry v).channel) = some (s.entry i).channel then s.frontEnd
          else s.frontEnd ++ [FrontEndRecord.tune (s.entry i).channel])
      ∧ (s.startVisit p).table = s.table := by
  simp only [State.startVisit, h, State.beginVisit_eq]
  exact ⟨rfl, rfl, rfl⟩

/-- R80: without a watch candidate the object is the round robin's choice. -/
theorem State.chooseObject_of_no_watch {s : State} (h : s.ranking.watch = none) :
    s.chooseObject = (s.roundRobin none).map fun i => (i, i, s.scan.watchTurn) := by
  rw [State.chooseObject, h]

/-- R80: the watch candidate and the round robin take turns. -/
theorem State.chooseObject_of_watch {s : State} {w : Nat} (h : s.ranking.watch = some w) :
    (s.scan.watchTurn = true → s.chooseObject = some (w, s.scan.pointer, false))
      ∧ (s.scan.watchTurn = false → ∀ i, s.roundRobin (some w) = some i → s.chooseObject = some (i, i, true))
      ∧ (s.scan.watchTurn = false → s.roundRobin (some w) = none →
          s.chooseObject = some (w, s.scan.pointer, true)) := by
  rw [State.chooseObject, h]
  exact ⟨fun ht => by simp [ht], fun ht i hi => by simp [ht, hi], fun ht hn => by simp [ht, hn]⟩

section
variable {s : State} {p j : Nat} (hcamped : s.roam.engine = .camped) (hhere : s.startHere = some (p, j))

include hhere in
/-- R77: a start already spent is not decided again. -/
theorem State.decideStart_of_spent (hspent : p ∈ s.scan.spent) : s.decideStart = s := by
  rw [State.decideStart_of_start hhere, if_pos (by simpa using hspent)]

variable (hspent : p ∉ s.scan.spent)
include hcamped hhere hspent

/-- R77: a start that is decided is spent, and its visit begins unless it is dropped. -/
theorem State.decideStart_of_unspent :
    s.decideStart =
      if s.budget ≤ j ∨ s.scan.visit ≠ none ∨ s.excluded p = true then s.spendStart p
      else (s.spendStart p).startVisit p := by
  rw [State.decideStart_of_start hhere, if_neg (by simpa using hspent)]
  simp [hcamped, Option.isSome_iff_ne_none]

/-- R78, R79, R80: a start is dropped beyond the budget, during a visit, excluded, or without a candidate. -/
theorem State.decideStart_dropped
    (h : s.budget ≤ j ∨ s.scan.visit ≠ none ∨ s.excluded p = true
      ∨ (s.ranking.watch = none ∧ s.roundRobin none = none)) : s.decideStart = s.spendStart p := by
  rw [State.decideStart_of_unspent hcamped hhere hspent]
  split
  · rfl
  · next hno =>
    have hnone : s.ranking.watch = none ∧ s.roundRobin none = none := by tauto
    obtain ⟨hwatch, hround⟩ := hnone
    have hchoose : (s.spendStart p).chooseObject = none := by
      rw [State.chooseObject_of_no_watch (s := s.spendStart p) hwatch, show (s.spendStart p).roundRobin none = none from hround]
      rfl
    rw [State.startVisit, hchoose]

/-- R77, R80: any other start begins its visit to the object chosen. -/
theorem State.decideStart_begun {i pointer : Nat} {turn : Bool} (hbudget : j < s.budget) (hvisit : s.scan.visit = none)
    (hexcluded : s.excluded p = false) (hchoose : s.chooseObject = some (i, pointer, turn)) :
    s.decideStart.scan =
        { s.scan with
          spent := s.scan.spent ++ [p], pointer := pointer, watchTurn := turn, visit := some (s.visitTo i p) }
      ∧ s.decideStart.frontEnd =
          (if (s.serving.map fun v => (s.entry v).channel) = some (s.entry i).channel then s.frontEnd
          else s.frontEnd ++ [FrontEndRecord.tune (s.entry i).channel])
      ∧ s.decideStart.table = s.table := by
  have hgo : ¬(s.budget ≤ j ∨ s.scan.visit ≠ none ∨ s.excluded p = true) := by simp [hbudget, hvisit, hexcluded]
  rw [State.decideStart_of_unspent hcamped hhere hspent, if_neg hgo]
  exact State.startVisit_of_choice (s := s.spendStart p) p hchoose

end

/-- R75: the end of a visit whose measure record has been taken. -/
theorem State.endVisit_of_ended {s : State} {v : Visit} {i : Nat} (hv : s.scan.visit = some v) (hstage : v.stage = .ended)
    (hi : s.serving = some i) :
    s.endVisit =
      { s with
        scan := { s.scan with visit := none }
        frontEnd :=
          if (s.entry i).channel = v.channel then s.frontEnd
          else s.frontEnd ++ [FrontEndRecord.tune (s.entry i).channel] } := by
  have htune : (s.setScan { s.scan with visit := none }).tuneServing =
      (s.setScan { s.scan with visit := none }).tune (s.entry i).channel := by
    rw [State.tuneServing, show (s.setScan { s.scan with visit := none }).serving = some i from hi]
    rfl
  by_cases h : (s.entry i).channel = v.channel
  · simp only [State.endVisit, hv, hstage, hi, h, if_true]
    rfl
  · simp only [State.endVisit, hv, hstage, hi, h, htune, if_true, if_false]
    rfl

/-! ## The object of a measure record (R15, R16, R60, R76) -/

/-- R60, R76: the measure record of a visit in CAMPED is meant for the entry that holds its site code, on that entry's channel,
as long as the object stands. -/
theorem State.meantFor_measure_iff (s : State) (r : Frame) (v : Visit) (i : Nat) :
    s.meantFor r (.measure v) = some i ↔
      s.roam.engine = .camped ∧ v.objectGone = false ∧ s.findCode v.code = some i ∧ (s.entry i).channel = r.channel := by
  by_cases hc : s.roam.engine = .camped
  · by_cases hg : v.objectGone = true
    · simp [State.meantFor_measure_none hg, hg]
    · simp [State.meantFor, hc, hg, Option.filter_eq_some_iff]
  · simp [State.meantFor, hc]

end Sys2Proof.Machine
end

section
/-! PROOFS. The CAMPED plan and its visits (O20). -/

namespace Sys2Proof.Proofs

open Sys2Proof Sys2Proof.Machine

/-- Settles O20: the round robin, the start a record decides, the budget, the exclusion, the decision, the end of a visit and whom
its measure record is meant for. -/
theorem roundRobinTakesTheNextCandidate : Obligations.RoundRobinTakesTheNextCandidate := by
  refine ⟨fun s without hp => ⟨fun i hi => State.roundRobin_eq_some hp hi, fun hnone j hj hc => State.roundRobin_eq_none hnone hj hc⟩,
    fun s p j _ hc => State.startHere_eq_some hc p j, State.budget_eq, fun s p w hp hw hslots => State.excluded_iff hp hw hslots,
    fun s p j hcamped hhere => ?_, fun s v hv => ⟨fun hstage => ?_, fun hstage i hi => State.endVisit_of_ended hv hstage hi⟩,
    State.meantFor_measure_iff, fun s listening multiframe => ⟨rfl, rfl, rfl⟩⟩
  · refine ⟨State.decideStart_of_spent hhere, State.decideStart_dropped hcamped hhere, fun hspent hbudget hvisit hexcluded => ?_⟩
    refine ⟨fun hwatch i hi => ?_, fun w hw => ?_⟩
    · exact State.decideStart_begun hcamped hhere hspent hbudget hvisit hexcluded
        (by rw [State.chooseObject_of_no_watch hwatch, hi]; rfl)
    · obtain ⟨hturn, hround, hnone⟩ := State.chooseObject_of_watch hw
      exact ⟨fun ht => State.decideStart_begun hcamped hhere hspent hbudget hvisit hexcluded (hturn ht),
        fun ht i hi => State.decideStart_begun hcamped hhere hspent hbudget hvisit hexcluded (hround ht i hi),
        fun ht hn => State.decideStart_begun hcamped hhere hspent hbudget hvisit hexcluded (hnone ht hn)⟩
  · rw [State.endVisit, hv]
    exact if_neg hstage

end Sys2Proof.Proofs
end

section
/-! SUPPORT. The hunt list (R83), found-site admission (R6, R11, R15) and hunt acceptance (R12, R53, R101). -/

namespace Sys2Proof.Machine

/-! ## The order in which a channel is first met (R83) -/

/-- R83: a list holds the channels of its sources, in the order in which each is first met there, and so each once. -/
def FirstMet (sources list : List Nat) : Prop :=
  (∀ c, c ∈ list ↔ c ∈ sources) ∧ list.Pairwise fun c d => sources.idxOf c < sources.idxOf d

/-- Each channel stands once in a list of first meetings. -/
theorem FirstMet.nodup {sources list : List Nat} (h : FirstMet sources list) : list.Nodup :=
  h.2.imp fun hlt heq => by simp [heq] at hlt

/-- A further channel does not move the first meetings before it. -/
theorem FirstMet.idxOf_lt_append {sources list : List Nat} (h : FirstMet sources list) (c : Nat) :
    list.Pairwise fun a b => (sources ++ [c]).idxOf a < (sources ++ [c]).idxOf b := by
  obtain ⟨hmem, horder⟩ := h
  refine horder.imp_of_mem fun {a b} ha hb hlt => ?_
  rwa [List.idxOf_append_of_mem ((hmem a).1 ha), List.idxOf_append_of_mem ((hmem b).1 hb)]

/-- A channel met before adds nothing. -/
theorem FirstMet.met_again {sources list : List Nat} (h : FirstMet sources list) {c : Nat} (hc : c ∈ list) :
    FirstMet (sources ++ [c]) list := by
  obtain ⟨hmem, -⟩ := id h
  refine ⟨fun d => ?_, h.idxOf_lt_append c⟩
  rw [hmem, List.mem_append, List.mem_singleton]
  exact ⟨.inl, fun hd => hd.elim id fun hd => hd ▸ (hmem c).1 hc⟩

/-- A channel not met before comes last. -/
theorem FirstMet.met_first {sources list : List Nat} (h : FirstMet sources list) {c : Nat} (hc : c ∉ list) :
    FirstMet (sources ++ [c]) (list ++ [c]) := by
  obtain ⟨hmem, -⟩ := id h
  have hnew : c ∉ sources := mt (hmem c).2 hc
  refine ⟨fun d => by simp [hmem], List.pairwise_append.2 ⟨h.idxOf_lt_append c, by simp, fun a ha b hb => ?_⟩⟩
  obtain rfl := List.mem_singleton.1 hb
  rw [List.idxOf_append_of_mem ((hmem a).1 ha), List.idxOf_append_of_notMem hnew]
  exact Nat.lt_add_right _ (List.idxOf_lt_length_of_mem ((hmem a).1 ha))

/-- R83: channels added in order keep the order of the first meetings. -/
theorem FirstMet.addChannels {sources list : List Nat} (h : FirstMet sources list) (channels : List Nat) :
    FirstMet (sources ++ channels) (addChannels list channels) := by
  induction channels generalizing sources list with
  | nil => simpa [Machine.addChannels] using h
  | cons c rest ih =>
    rw [Machine.addChannels, List.append_cons]
    split
    · next hc => exact ih (h.met_again (by simpa using hc))
    · next hc => exact ih (h.met_first (by simpa using hc))

/-! ## The entries in hunt order (R83) -/

/-- R83: an entry goes before another by a higher level or, at the same level, by a lower index. -/
def State.huntsBefore (s : State) (i j : Nat) : Prop :=
  (s.entry j).level < (s.entry i).level ∨ ((s.entry j).level = (s.entry i).level ∧ i < j)

/-- R83: an index put in by level is added. -/
theorem State.insertByLevel_perm (s : State) (i : Nat) (l : List Nat) : (s.insertByLevel i l).Perm (i :: l) := by
  induction l with
  | nil => exact .refl _
  | cons j rest ih =>
    rw [State.insertByLevel]
    split
    · exact .refl _
    · exact (ih.cons j).trans (.swap i j rest)

/-- R83: an index above all the others is put behind those of its level or a higher one. -/
theorem State.insertByLevel_ordered {s : State} {i : Nat} {l : List Nat} (hl : l.Pairwise s.huntsBefore)
    (hi : ∀ j ∈ l, j < i) : (s.insertByLevel i l).Pairwise s.huntsBefore := by
  induction l with
  | nil => exact List.pairwise_singleton _ _
  | cons j rest ih =>
    obtain ⟨hj, hrest⟩ := List.pairwise_cons.1 hl
    rw [State.insertByLevel]
    split
    · next hlt =>
      refine List.pairwise_cons.2 ⟨fun k hk => .inl ?_, hl⟩
      rcases List.mem_cons.1 hk with rfl | hk
      · exact hlt
      · rcases hj k hk with h | ⟨h, -⟩ <;> omega
    · next hge =>
      refine List.pairwise_cons.2 ⟨fun k hk => ?_, ih hrest fun k hk => hi k (List.mem_cons_of_mem j hk)⟩
      rcases List.mem_cons.1 ((s.insertByLevel_perm i rest).mem_iff.1 hk) with rfl | hk
      · have hji := hi j List.mem_cons_self
        unfold State.huntsBefore
        omega
      · exact hj k hk

/-- R83: the indexes ordered by level are those given. -/
theorem State.orderByLevel_perm (s : State) (ordered l : List Nat) : (s.orderByLevel ordered l).Perm (ordered ++ l) := by
  induction l generalizing ordered with
  | nil => simp [State.orderByLevel]
  | cons i rest ih =>
    rw [State.orderByLevel]
    exact (ih _).trans (((s.insertByLevel_perm i ordered).append_right rest).trans List.perm_middle.symm)

/-- R83: rising indexes are ordered by level, and equal ones stay rising. -/
theorem State.orderByLevel_ordered {s : State} {ordered l : List Nat} (ho : ordered.Pairwise s.huntsBefore)
    (hl : l.Pairwise (· < ·)) (hlt : ∀ j ∈ ordered, ∀ i ∈ l, j < i) :
    (s.orderByLevel ordered l).Pairwise s.huntsBefore := by
  induction l generalizing ordered with
  | nil => exact ho
  | cons i rest ih =>
    obtain ⟨hi, hrest⟩ := List.pairwise_cons.1 hl
    refine ih (State.insertByLevel_ordered ho fun j hj => hlt j hj i List.mem_cons_self) hrest fun j hj k hk => ?_
    rcases List.mem_cons.1 ((s.insertByLevel_perm i ordered).mem_iff.1 hj) with rfl | hj
    · exact hi k hk
    · exact hlt j hj k (List.mem_cons_of_mem i hk)

/-- R83: the entries a hunt goes to: occupied and not barred. -/
def State.openEntries (s : State) : List Nat :=
  allIndexes.filter fun i => (s.entry i).occupied && (s.entry i).barred == 0

/-- R83: the entries with samples, in order of level. -/
def State.measuredEntries (s : State) : List Nat := s.orderByLevel [] (s.openEntries.filter fun i => (s.entry i).samples != 0)

/-- R83: the entries without samples, in order of index. -/
def State.unmeasuredEntries (s : State) : List Nat := s.openEntries.filter fun i => (s.entry i).samples == 0

/-- R83: which entries a hunt goes to. -/
theorem State.mem_openEntries (s : State) (i : Nat) :
    i ∈ s.openEntries ↔ i < 12 ∧ (s.entry i).status ≠ .free ∧ (s.entry i).barred = 0 := by
  simp [State.openEntries, allIndexes, Entry.occupied]

/-- R83: which of them have samples. -/
theorem State.mem_measuredEntries (s : State) (i : Nat) :
    i ∈ s.measuredEntries ↔ i < 12 ∧ (s.entry i).status ≠ .free ∧ (s.entry i).barred = 0 ∧ (s.entry i).samples ≠ 0 := by
  rw [State.measuredEntries, (s.orderByLevel_perm [] _).mem_iff]
  simp [State.mem_openEntries, and_assoc]

/-- R83: which of them have none. -/
theorem State.mem_unmeasuredEntries (s : State) (i : Nat) :
    i ∈ s.unmeasuredEntries ↔ i < 12 ∧ (s.entry i).status ≠ .free ∧ (s.entry i).barred = 0 ∧ (s.entry i).samples = 0 := by
  simp [State.unmeasuredEntries, State.mem_openEntries, and_assoc]

/-- R83: the measured entries stand in order of level. -/
theorem State.measuredEntries_ordered (s : State) : s.measuredEntries.Pairwise s.huntsBefore :=
  State.orderByLevel_ordered .nil ((pairwise_lt_filter_allIndexes _).filter _) fun _ hj => absurd hj List.not_mem_nil

/-- R83: the unmeasured entries stand in order of index. -/
theorem State.unmeasuredEntries_ordered (s : State) : s.unmeasuredEntries.Pairwise (· < ·) :=
  (pairwise_lt_filter_allIndexes _).filter _

/-- R83: the entries of the hunt list: the measured ones, then the others. -/
theorem State.huntEntries_eq (s : State) : s.huntEntries = s.measuredEntries ++ s.unmeasuredEntries := rfl

/-- R83: the entries of the hunt list are those a hunt goes to, in another order. -/
theorem State.huntEntries_perm (s : State) : s.huntEntries.Perm s.openEntries := by
  have hsplit := List.filter_append_perm (fun i => (s.entry i).samples != 0) s.openEntries
  have hnot : (fun i => !((s.entry i).samples != 0)) = fun i => (s.entry i).samples == 0 := by
    funext i
    simp [bne]
  rw [hnot] at hsplit
  exact ((s.orderByLevel_perm [] _).append_right _).trans hsplit

/-- R1, R83: they are at most twelve. -/
theorem State.length_huntEntries_le (s : State) : s.huntEntries.length ≤ 12 := by
  rw [s.huntEntries_perm.length_eq]
  exact (List.length_filter_le ..).trans (by simp [allIndexes])

/-! ## The hunt list (R83) -/

/-- R83: the channels of the three sources, in order and with their repeats. -/
def State.huntChannelSources (s : State) : List Nat :=
  s.recallArea.list.map Site.channel ++ s.measuredEntries.map (fun i => (s.entry i).channel)
    ++ s.unmeasuredEntries.map (fun i => (s.entry i).channel) ++ s.scan.huntChannels

/-- R83: the hunt list holds the channels of its sources as each is first met. -/
theorem State.huntSources_firstMet (s : State) : FirstMet s.huntChannelSources s.huntSources := by
  have hadded : s.huntSources = addChannels [] s.huntChannelSources := by
    simp only [State.huntSources, State.huntEntries_eq, State.huntChannelSources, List.map_append, List.append_assoc]
  have hempty : FirstMet [] [] := ⟨fun c => .rfl, .nil⟩
  rw [hadded]
  exact hempty.addChannels s.huntChannelSources

/-- R83: which channels the sources hold. -/
theorem State.mem_huntChannelSources (s : State) (c : Nat) :
    c ∈ s.huntChannelSources ↔
      (∃ x ∈ s.recallArea.list, x.channel = c)
        ∨ (∃ i < 12, (s.entry i).status ≠ .free ∧ (s.entry i).barred = 0 ∧ (s.entry i).channel = c)
        ∨ c ∈ s.scan.huntChannels := by
  have hentries : c ∈ s.huntEntries.map (fun i => (s.entry i).channel) ↔
      ∃ i < 12, (s.entry i).status ≠ .free ∧ (s.entry i).barred = 0 ∧ (s.entry i).channel = c := by
    simp only [List.mem_map, s.huntEntries_perm.mem_iff, State.mem_openEntries, and_assoc]
  rw [← hentries]
  simp only [State.huntChannelSources, State.huntEntries_eq, List.map_append, List.mem_append, List.mem_map, or_assoc]

/-- R82, R83, R152: the hunt list holds at most 40 channels. -/
theorem State.length_huntSources_le {s : State} (hrecall : s.recallArea.list.length ≤ 4)
    (hhunt : s.scan.huntChannels.length ≤ 24) : s.huntSources.length ≤ 40 := by
  have hmet := s.huntSources_firstMet
  have hle : s.huntSources.length ≤ s.huntChannelSources.length :=
    (hmet.nodup.subperm fun c hc => (hmet.1 c).1 hc).length_le
  have hentries := s.length_huntEntries_le
  rw [State.huntEntries_eq, List.length_append] at hentries
  simp only [State.huntChannelSources, List.length_append, List.length_map] at hle
  omega

/-! ## Found-site admission (R6, R11, R15) -/

/-- R11: a known site is refused when its pair clashes or a fixed entry would change its pair. -/
theorem State.admitFound_known_conflict {s : State} {code i : Nat} {p : Pair} (hf : s.findCode code = some i)
    (hc : s.clashes (some i) p
      ∨ (((s.entry i).status = .serving ∨ s.isTarget (s.entry i) = true) ∧ (s.entry i).pair ≠ p)) :
    s.admitFound code p = (s.conflictCounted, .conflict) := by
  rw [← State.pairClash_iff] at hc
  simp only [State.admitFound, hf, if_pos hc]
  rfl

/-- R11: a fixed entry with the pair found is admitted as it stands. -/
theorem State.admitFound_known_fixed {s : State} {code i : Nat} {p : Pair} (hf : s.findCode code = some i)
    (hc : ¬s.clashes (some i) p) (hp : (s.entry i).pair = p)
    (hfix : (s.entry i).status = .serving ∨ s.isTarget (s.entry i) = true) : s.admitFound code p = (s, .admitted i) := by
  simp [State.admitFound, hf, State.pairClash_eq_false hc, hp, hfix]

/-- R6, R11: the entry of a known site that is found. -/
def Entry.found (e : Entry) (p : Pair) : Entry := { e.repaired p with origin := foundOrigin e.origin }

/-- R6, R11: any other known site takes the pair found. -/
theorem State.admitFound_known {s : State} {code i : Nat} {p : Pair} (hf : s.findCode code = some i)
    (hc : ¬s.clashes (some i) p) (hs : (s.entry i).status ≠ .serving) (ht : s.isTarget (s.entry i) = false) :
    s.admitFound code p = ((s.takePair i p).setEntry i ((s.entry i).found p), .admitted i) := by
  have hi : i < s.table.entries.length := (State.findCode_eq_some hf).1
  simp only [State.admitFound, hf, State.pairClash_eq_false hc, hs, ht, State.takePair_entry p hi, Entry.repaired_origin]
  rfl

/-- R6, R11: of the table only the entry moves. -/
theorem State.takePair_setEntry_table (s : State) (i : Nat) (p : Pair) (e : Entry) :
    ((s.takePair i p).setEntry i e).table = s.withEntry i e := by
  simp [State.setEntry, State.takePair_table, State.withEntry]

/-- R11: a new site whose pair clashes is refused. -/
theorem State.admitFound_new_conflict {s : State} {code : Nat} {p : Pair} (hf : s.findCode code = none)
    (hc : s.clashes none p) : s.admitFound code p = (s.conflictCounted, .conflict) := by
  simp only [State.admitFound, hf, (s.pairClash_iff none p).2 hc]
  rfl

/-- R11: a new site without a place is not admitted. -/
theorem State.admitFound_new_full {s : State} {code : Nat} {p : Pair} (hf : s.findCode code = none)
    (hc : ¬s.clashes none p) (hp : s.hasNoPlace []) : s.admitFound code p = (s, .full) := by
  simp [State.admitFound, hf, State.pairClash_eq_false hc, State.placeFor_of_hasNoPlace hp]

/-- R11, R15: any other new site takes its place. -/
theorem State.admitFound_new {s : State} {code i : Nat} {p : Pair} (hf : s.findCode code = none)
    (hc : ¬s.clashes none p) (hp : s.takesNew [] i) :
    s.admitFound code p =
      ((s.withoutObject i).setTable (s.withEntry i (admittedEntry code p .found 0 none)), .admitted i) := by
  simp only [State.admitFound, hf, State.pairClash_eq_false hc, State.placeFor_of_takesNew hp, State.replaceEntry_eq]
  rfl

/-- R5: a search by code finds the first occupied entry that holds the code. -/
theorem State.findCode_of_first {s : State} {code i : Nat} (hi : i < s.table.entries.length)
    (hocc : (s.entry i).status ≠ .free) (hcode : (s.entry i).code = code)
    (hfirst : ∀ j < i, (s.entry j).status ≠ .free → (s.entry j).code ≠ code) : s.findCode code = some i := by
  refine List.findIdx?_eq_some_iff_getElem.2 ⟨hi, ?_, fun j hj => ?_⟩
  · rw [← State.entry_eq_getElem hi]
    simp [Entry.occupied, hocc, hcode]
  · rw [← State.entry_eq_getElem (hj.trans hi)]
    simpa [Entry.occupied] using hfirst j hj

/-- R5: no entry before the one found holds the code, and none at all when none is found. -/
theorem State.code_ne_before {s : State} {code j : Nat} (hj : j < s.table.entries.length)
    (h : ∀ i, s.findCode code = some i → j < i) (hocc : (s.entry j).status ≠ .free) : (s.entry j).code ≠ code := by
  have hnot : ((s.entry j).occupied && (s.entry j).code == code) = false := by
    cases hf : s.findCode code with
    | none => exact State.entry_of_findIdx?_eq_none hf hj
    | some i =>
      obtain ⟨-, -, hfirst⟩ := State.entry_of_findIdx?_eq_some hf
      exact hfirst j (h i hf)
  simpa [Entry.occupied, hocc] using hnot

/-- R5: an entry with the code, set where the code match is or where there is none, becomes the code match. -/
theorem State.findCode_withEntry {s t : State} {code i : Nat} {e : Entry} (ht : t.table = s.withEntry i e)
    (hi : i < s.table.entries.length) (hocc : e.status ≠ .free) (hcode : e.code = code)
    (h : ∀ k, s.findCode code = some k → k = i) : t.findCode code = some i ∧ t.entry i = e := by
  have hentry : t.entry = (s.setEntry i e).entry := State.entry_congr ht
  have hsame : t.entry i = e := by rw [hentry, State.entry_setEntry_same e hi]
  refine ⟨State.findCode_of_first (by simpa [ht, State.withEntry] using hi) (by rwa [hsame]) (by rwa [hsame]) ?_, hsame⟩
  intro j hj hjocc
  rw [hentry, State.entry_setEntry_other s e hj.ne] at hjocc ⊢
  exact State.code_ne_before (hj.trans hi) (fun k hk => h k hk ▸ hj) hjocc

/-- R14: the place of a new site is an index of the table. -/
theorem State.placeFor_lt {s : State} {kept : List Nat} {i : Nat} (h : s.placeFor kept = some i) : i < 12 := by
  unfold State.placeFor at h
  split at h
  · next j hj =>
    obtain rfl : j = i := by simpa using h
    simpa [allIndexes] using List.mem_of_find?_eq_some hj
  · rcases s.victim_cases kept with ⟨hnone, -⟩ | ⟨j, hj, hlt, -⟩
    · simp [hnone] at h
    · obtain rfl : j = i := by simpa [hj] using h
      exact hlt

/-- R6: an entry that takes a pair stays occupied, keeps its code and does not begin to serve. -/
theorem Entry.found_site (e : Entry) (p : Pair) :
    (e.found p).code = e.code ∧ (e.status ≠ .free → (e.found p).status ≠ .free)
      ∧ (e.status ≠ .serving → (e.found p).status ≠ .serving) := by
  unfold Entry.found Entry.repaired
  split
  · exact ⟨rfl, id, id⟩
  · exact ⟨rfl, fun _ => by simp, fun _ => by simp⟩

/-- R11: the entry that a found-site admission names holds the site, and serves only if an entry served before. -/
theorem State.admitFound_admitted {s t : State} {code i : Nat} {p : Pair} (hsound : s.tableSound)
    (h : s.admitFound code p = (t, .admitted i)) :
    t.findCode code = some i
      ∧ ((∀ j < 12, (s.entry j).status ≠ .serving) → (t.entry i).status ≠ .serving) := by
  rw [State.tableSound] at hsound
  cases hf : s.findCode code with
  | some k =>
    obtain ⟨hk, hocc, hcode⟩ := State.findCode_eq_some hf
    by_cases hc : s.clashes (some k) p
      ∨ (((s.entry k).status = .serving ∨ s.isTarget (s.entry k) = true) ∧ (s.entry k).pair ≠ p)
    · simp [State.admitFound_known_conflict hf hc] at h
    · obtain ⟨hclash, hpair⟩ := not_or.1 hc
      by_cases hfix : (s.entry k).status = .serving ∨ s.isTarget (s.entry k) = true
      · rw [State.admitFound_known_fixed hf hclash (not_not.1 fun hp => hpair ⟨hfix, hp⟩) hfix] at h
        obtain ⟨rfl, rfl⟩ : s = t ∧ k = i := by simpa using h
        exact ⟨hf, fun hserving => hserving k (by omega)⟩
      · obtain ⟨hs, htarget⟩ := not_or.1 hfix
        rw [State.admitFound_known hf hclash hs (by simpa using htarget)] at h
        obtain ⟨rfl, rfl⟩ : (s.takePair k p).setEntry k ((s.entry k).found p) = t ∧ k = i := by simpa using h
        obtain ⟨hfcode, hfocc, hfserving⟩ := (s.entry k).found_site p
        obtain ⟨hfind, hentry⟩ := State.findCode_withEntry (s.takePair_setEntry_table k p _) hk (hfocc hocc)
          (hfcode.trans hcode) fun m hm => Option.some.inj (hm.symm.trans hf)
        exact ⟨hfind, fun hserving => by rw [hentry]; exact hfserving (hserving k (by omega))⟩
  | none =>
    by_cases hc : s.clashes none p
    · simp [State.admitFound_new_conflict hf hc] at h
    · cases hplace : s.placeFor [] with
      | none => simp [State.admitFound, hf, State.pairClash_eq_false hc, hplace] at h
      | some k =>
        simp only [State.admitFound, hf, State.pairClash_eq_false hc, hplace] at h
        obtain ⟨rfl, rfl⟩ : s.replaceEntry k (newEntry code p .found 0 none) = t ∧ k = i := by simpa using h
        have hk := State.placeFor_lt hplace
        obtain ⟨hfind, hentry⟩ := State.findCode_withEntry (s := s) (t := s.replaceEntry k (newEntry code p .found 0 none))
          (code := code) rfl (by omega) (by simp [newEntry]) rfl (by simp [hf])
        exact ⟨hfind, fun _ => by rw [hentry]; simp [newEntry]⟩

/-- R11: a found-site admission leaves the engine and the Host Link. -/
theorem State.admitFound_keeps {s t : State} {code : Nat} {p : Pair} {answer : Admission}
    (h : s.admitFound code p = (t, answer)) : t.roam = s.roam ∧ t.host = s.host := by
  obtain rfl : (s.admitFound code p).1 = t := by rw [h]
  simp

/-! ## Hunt acceptance (R12, R44, R53, R85, R101) -/

/-- R53, R101: an open site that a hunt passes over without admission: emergency-only without the emergency flag, below the entry
threshold, or barred. -/
def State.huntUnfit (s : State) (b : Summary) (l : Listen) : Prop :=
  b.closed = false
    ∧ ((b.emergencyOnly = true ∧ s.call.emergency = false) ∨ s.huntLevel l < 16 * s.par .entryThreshold
      ∨ s.codeBarred b.code = true)

/-- R101: a code is barred when the entry that holds it is. -/
theorem State.codeBarred_iff (s : State) (code : Nat) :
    s.codeBarred code = true ↔ ∃ j, s.findCode code = some j ∧ (s.entry j).barred ≠ 0 := by
  unfold State.codeBarred
  cases s.findCode code <;> simp

/-- R101: an unfit site ends the hunt-listen. -/
theorem State.huntAccept_of_unfit {s : State} {b : Summary} {l : Listen} (h : s.huntUnfit b l) :
    s.huntAccept b l = s.endListen := by
  obtain ⟨hopen, hemergency | hlevel | hbarred⟩ := h
  · simp [State.huntAccept, hopen, hemergency]
  · simp [State.huntAccept, hopen, hlevel]
  · simp [State.huntAccept, hopen, hbarred]

/-- R12, R53, R101: what follows the admission that a hunt acceptance asks for: a closed site is barred, an open one begins a
registration, and a site that is not admitted ends the hunt-listen. -/
def huntJudged (b : Summary) : State × Admission → State
  | (t, .admitted i) =>
    if b.closed = true then ((t.writeDigest i (ownDigest b)).bar b.code b.hold).endListen
    else (t.writeDigest i (ownDigest b)).startRegistration i .hunt none .registration
  | (t, .conflict) => t.endListen
  | (t, .full) => t.endListen

/-- R12, R53, R101: any other site is judged by its admission. -/
theorem State.huntAccept_of_fit {s : State} {b : Summary} {l : Listen} (hfit : ¬s.huntUnfit b l) :
    s.huntAccept b l = huntJudged b (s.admitFound b.code { channel := l.channel, colour := l.colour }) := by
  unfold State.huntAccept
  dsimp only
  generalize s.admitFound b.code { channel := l.channel, colour := l.colour } = r
  obtain ⟨t, answer⟩ := r
  cases hclosed : b.closed with
  | true => cases answer <;> simp [huntJudged, hclosed]
  | false =>
    obtain ⟨hemergency, hlevel, hbarred⟩ : ¬(b.emergencyOnly = true ∧ s.call.emergency = false)
        ∧ ¬s.huntLevel l < 16 * s.par .entryThreshold ∧ ¬s.codeBarred b.code = true := by
      simpa [State.huntUnfit, hclosed] using hfit
    rw [if_neg (by decide), if_neg hemergency, if_neg hlevel, if_neg hbarred]
    cases answer <;> simp [huntJudged, hclosed]

/-- R44, R85: a declined acceptance ends the hunt-listen and its owner, and leaves the table, the engine and the Host Link. -/
def State.declinedWith (s : State) (table : SiteTable) (t : State) : Prop :=
  t.table = table ∧ t.roam = s.roam ∧ t.host = s.host ∧ t.scan.listen = none ∧ t.beacon.owner = none

/-- R44, R85: the end of a hunt-listen declines an acceptance. -/
theorem State.endListen_declined {s t : State} (hroam : t.roam = s.roam) (hhost : t.host = s.host) :
    s.declinedWith t.table t.endListen := by
  obtain ⟨hlisten, howner⟩ := t.endListen_gone
  exact ⟨by simp, by simp [hroam], by simp [hhost], hlisten, howner⟩

/-- R12, R20, R53, R54: the table behind the admission and bar of a closed site. -/
theorem State.huntBarred_table {t : State} {b : Summary} {i : Nat} (hf : t.findCode b.code = some i)
    (hs : (t.entry i).status ≠ .serving) :
    ((t.writeDigest i (ownDigest b)).bar b.code b.hold).table =
      t.withEntry i
        { t.entry i with
          digest := some (ownDigest b), dwell := 0, barred := if b.hold = 0 then t.par .barTime else b.hold } := by
  obtain ⟨hi, -⟩ := State.findCode_eq_some hf
  have hsite : (t.entry i).SameSite { t.entry i with digest := some (ownDigest b) } := ⟨rfl, rfl, rfl, rfl, rfl⟩
  obtain ⟨-, hcode, -⟩ := State.matches_setEntry_of_sameSite hi hsite
  have hentry : (t.writeDigest i (ownDigest b)).entry i = { t.entry i with digest := some (ownDigest b) } :=
    State.entry_setEntry_same _ hi
  have hfound : (t.writeDigest i (ownDigest b)).findCode b.code = some i := (hcode b.code).trans hf
  rw [State.bar_of_findCode b.hold hfound (by rw [hentry]; exact hs), hentry]
  simp only [State.dwellCleared_frame, State.writeDigest, State.setEntry_setEntry]
  rfl

/-- R90, R99, R100, R108, R141: what a registration's start moves, an exchange in progress or not. -/
theorem State.startRegistration_effect (s : State) (i : Nat) (reason : Reason) (previous : Option Nat) (cause : EngineCause) :
    let t := s.startRegistration i reason previous cause
    t.table = s.table
      ∧ t.roam =
          { s.roam with
            engine := .registering, previous := previous, reason := some reason, enteredFrom := s.roam.engine }
      ∧ t.access.state = .tuning ∧ t.access.target = (s.entry i).code ∧ t.pins.txinh = true
      ∧ t.host = s.host.offer (.engineState s.roam.engine .registering cause true) := by
  simp [State.startRegistration_eq, State.registrationStarted, State.registrationContext, State.tune, State.issue]

end Sys2Proof.Machine
end

section
/-! PROOFS. The hunt list, found-site admission and hunt acceptance (O19). -/

namespace Sys2Proof.Proofs

open Sys2Proof Sys2Proof.Machine

/-- R6, R11, R15: the found-site admission, for a known site and for a new one. -/
theorem admitFound_cases (s : State) (code : Nat) (p : Pair) :
    (∀ i, s.findCode code = some i →
      (s.clashes (some i) p
            ∨ (((s.entry i).status = .serving ∨ s.isTarget (s.entry i) = true)
                ∧ ¬((s.entry i).channel = p.channel ∧ (s.entry i).colour = p.colour)) →
          s.admitFound code p = (s.conflictCounted, .conflict))
        ∧ (¬s.clashes (some i) p → (s.entry i).channel = p.channel → (s.entry i).colour = p.colour →
            (s.entry i).status = .serving ∨ s.isTarget (s.entry i) = true → s.admitFound code p = (s, .admitted i))
        ∧ (¬s.clashes (some i) p → (s.entry i).status ≠ .serving → s.isTarget (s.entry i) = false →
            ∃ t : State, s.admitFound code p = (t, .admitted i) ∧ t.table = s.withEntry i ((s.entry i).found p)
              ∧ t.roam = s.roam ∧ t.access = s.access ∧ t.host = s.host))
      ∧ (s.findCode code = none →
        (s.clashes none p → s.admitFound code p = (s.conflictCounted, .conflict))
          ∧ (¬s.clashes none p → s.hasNoPlace [] → s.admitFound code p = (s, .full))
          ∧ (¬s.clashes none p → ∀ i, s.takesNew [] i →
              s.admitFound code p =
                ((s.withoutObject i).setTable (s.withEntry i (admittedEntry code p .found 0 none)), .admitted i))) := by
  refine ⟨fun i hf => ⟨fun hc => ?_, fun hc hchannel hcolour hfix => ?_, fun hc hs ht => ?_⟩, fun hf =>
    ⟨State.admitFound_new_conflict hf, State.admitFound_new_full hf, fun hc i hp => State.admitFound_new hf hc hp⟩⟩
  · exact State.admitFound_known_conflict hf (by rwa [ne_eq, Entry.pair_eq_iff])
  · exact State.admitFound_known_fixed hf hc ((Entry.pair_eq_iff _ _).2 ⟨hchannel, hcolour⟩) hfix
  · exact ⟨_, State.admitFound_known hf hc hs ht, s.takePair_setEntry_table i p _, by simp, by simp, by simp⟩

/-- R12, R53, R101: the hunt acceptance of a site that is admitted. -/
theorem huntAccept_admitted {s t : State} {b : Summary} {l : Listen} {i : Nat} (hsound : s.tableSound)
    (hserving : ∀ j < 12, (s.entry j).status ≠ .serving) (hfit : ¬s.huntUnfit b l)
    (h : s.admitFound b.code { channel := l.channel, colour := l.colour } = (t, .admitted i)) :
    if b.closed = true then
      s.declinedWith
        (t.withEntry i
          { t.entry i with
            digest := some (ownDigest b), dwell := 0
            barred := if b.hold = 0 then s.par .barTime else b.hold })
        (s.huntAccept b l)
    else
      (s.huntAccept b l).table = t.withEntry i { t.entry i with digest := some (ownDigest b) }
        ∧ (s.huntAccept b l).roam =
            { s.roam with
              engine := .registering, previous := none, reason := some .hunt, enteredFrom := s.roam.engine }
        ∧ (s.huntAccept b l).access.state = .tuning ∧ (s.huntAccept b l).access.target = b.code
        ∧ (s.huntAccept b l).pins.txinh = true
        ∧ (s.huntAccept b l).host = s.host.offer (.engineState s.roam.engine .registering .registration true) := by
  obtain ⟨hroam, hhost⟩ := State.admitFound_keeps h
  obtain ⟨hfind, hstatus⟩ := State.admitFound_admitted hsound h
  rw [State.huntAccept_of_fit hfit, h, huntJudged]
  split
  · have hbarred := State.huntBarred_table hfind (hstatus hserving)
    rw [State.par, hhost] at hbarred
    rw [State.par, ← hbarred]
    exact State.endListen_declined (by simp [hroam]) (by simp [hhost])
  · obtain ⟨htable, hroam', hstate, htarget, hpins, hhost'⟩ :=
      (t.writeDigest i (ownDigest b)).startRegistration_effect i .hunt none .registration
    obtain ⟨hi, -, hcode⟩ := State.findCode_eq_some hfind
    rw [State.writeDigest, State.entry_setEntry_same _ hi] at htarget
    exact ⟨htable, by simp [hroam', hroam], hstate, htarget.trans hcode, hpins, by simp [hhost', hroam, hhost]⟩

/-- Settles O19: the hunt list as the order of first meetings, the found-site admission, and the hunt acceptance by whether the
site is fit, admitted and closed. -/
theorem huntListIsShortAndWithoutRepeats : Obligations.HuntListIsShortAndWithoutRepeats := by
  refine ⟨fun s hrecall hhunt => ?_, fun s => ⟨rfl, s.measuredEntries, s.unmeasuredEntries, s.mem_measuredEntries,
      s.measuredEntries_ordered, s.mem_unmeasuredEntries, s.unmeasuredEntries_ordered, s.huntSources_firstMet⟩,
    fun s code p _ => admitFound_cases s code p, fun s b l hsound hserving => ?_⟩
  · have hmet := s.huntSources_firstMet
    exact ⟨hmet.nodup, State.length_huntSources_le hrecall hhunt, rfl, fun c => (hmet.1 c).trans (s.mem_huntChannelSources c)⟩
  · intro p level unfit digest declined
    have hunfit : unfit ↔ s.huntUnfit b l := by
      simp only [unfit, State.huntUnfit, State.codeBarred_iff]
      rfl
    rw [hunfit]
    refine ⟨fun h => ?_, fun hfit t answer hadmit => ?_⟩
    · have hdeclined := State.endListen_declined (s := s) (t := s) rfl rfl
      rwa [← State.huntAccept_of_unfit h] at hdeclined
    · obtain ⟨hroam, hhost⟩ := State.admitFound_keeps hadmit
      have hrefused (hj : s.huntAccept b l = t.endListen) : declined t.table := by
        have hdeclined := State.endListen_declined hroam hhost
        rwa [← hj] at hdeclined
      cases answer with
      | admitted i => exact huntAccept_admitted hsound hserving hfit hadmit
      | conflict => exact hrefused (by rw [State.huntAccept_of_fit hfit, hadmit, huntJudged])
      | full => exact hrefused (by rw [State.huntAccept_of_fit hfit, hadmit, huntJudged])

end Sys2Proof.Proofs
end

section
/-! SUPPORT. The end of serving and of the exchange at a STOP (R92); what a registration's start fixes (R99, R100, R108), and the
triggers that lead to one (R93, R95). -/

namespace Sys2Proof.Machine

/-! ## STOP (R92) -/

/-- R68: the clearing of the serving work leaves each entry with dwell count 0. -/
theorem State.clearServingWork_entry (s : State) (k : Nat) :
    s.clearServingWork.entry k = { s.entry k with dwell := 0 } := by
  have htable : s.clearServingWork.table = (s.mapEntries fun e => { e with dwell := 0 }).table := by
    simp [State.clearServingWork, State.clearAllDwell]
  rw [State.entry_congr htable, State.mapEntries_entry s rfl]

/-- R137: an entry made UNSENT does not show that it was returned before. -/
theorem Group.returned_unsent (g : Group) :
    ({ g.returned with delivery := .unsent } : Group) = { g with delivery := .unsent } := by
  unfold Group.returned
  split <;> rfl

/-- R137: nor does a list. -/
theorem State.returnSent_unsent (s : State) :
    (s.returnSent.groups.groups.map fun g => ({ g with delivery := .unsent } : Group)) =
      s.groups.groups.map fun g => { g with delivery := .unsent } :=
  List.map_map.trans (List.map_congr_left fun g _ => g.returned_unsent)

/-- R17, R68, R92: the table a STOP leaves. -/
theorem State.stopEngine_entry (s : State) :
    (∀ i, s.serving = some i →
        s.stopEngine.entry i = { s.entry i with status := .heard, barred := 0, penalty := 0, dwell := 0 })
      ∧ (∀ i, s.serving ≠ some i → s.stopEngine.entry i = { s.entry i with dwell := 0 }) := by
  have htable : s.stopEngine.table = ((s.returnSent.accessIdle.endServing 0).clearServingWork).table := by
    simp [State.stopEngine]
  have hserving : s.returnSent.accessIdle.serving = s.serving := rfl
  rw [State.entry_congr htable]
  refine ⟨fun i h => ?_, fun i h => ?_⟩
  · rw [State.clearServingWork_entry, State.endServing_entry 0 (hserving.trans h)]
    rfl
  · rw [State.clearServingWork_entry, State.endServing_entry_other 0 (by rwa [hserving])]
    rfl

/-- R89, R90, R92, R141: the engine, TXINH and the event of a STOP. -/
theorem State.stopEngine_engine (s : State) :
    s.stopEngine.roam = { s.roam with engine := .stopped, previous := none, reason := none }
      ∧ s.stopEngine.pins = { s.pins with txinh := false }
      ∧ s.stopEngine.host = s.host.offer (.engineState s.roam.engine .stopped .stop false) := by
  simp [State.stopEngine, State.clearRoam, State.enterEngine_host, Engine.inhibits]

/-- R50, R71, R87, R92, R122, R137: what a STOP clears besides the table. -/
theorem State.stopEngine_effect (s : State) :
    s.stopEngine.ranking =
        { watch := none, weakCount := 0, weakReported := false, reportCount := s.ranking.reportCount }
      ∧ s.stopEngine.beacon.servingStore = Store.cleared ∧ s.stopEngine.beacon.lastServing = none
      ∧ s.stopEngine.beacon.owner = none ∧ s.stopEngine.access.state = .idle
      ∧ s.stopEngine.access.outstanding = none ∧ s.stopEngine.access.generator = s.access.generator
      ∧ s.stopEngine.groups = { s.groups with groups := s.groups.groups.map fun g => { g with delivery := .unsent } }
      ∧ s.stopEngine.scan = { s.scan with visit := none, hunt := none, listen := none } := by
  obtain ⟨hranking, hstore, hlast, hgroups⟩ := (s.returnSent.accessIdle.endServing 0).clearServingWork_effect
  have haccess : s.returnSent.accessIdle.access = { AccessUnit.reset with
      generator := s.access.generator, collisions := s.access.collisions, missedSlots := s.access.missedSlots } := rfl
  have hscan (t : State) : t.scanIdle.scan = { t.scan with visit := none, hunt := none, listen := none } := rfl
  unfold State.stopEngine
  simp [hranking, hstore, hlast, hgroups, haccess, hscan, State.setOwner_serving, s.returnSent_unsent,
    AccessUnit.reset]

/-- The entries do not lie in the Host Link. -/
theorem State.setHost_entry (s : State) (h : HostLink) : (s.setHost h).entry = s.entry := State.entry_congr rfl

/-- R92: STOP in STOPPED. -/
theorem State.stopCommand_of_stopped {s : State} {f : HostFrame} (hb : f.body = []) (he : s.roam.engine = .stopped) :
    s.stopCommand f = s.reply f .ok := by
  simp [State.stopCommand, hb, he]

/-- R92: STOP in any other state. -/
theorem State.stopCommand_of_running {s : State} {f : HostFrame} (hb : f.body = []) (he : s.roam.engine ≠ .stopped) :
    s.stopCommand f = s.stopEngine.reply f .ok := by
  simp [State.stopCommand, hb, he]

/-! ## The start of a registration (R99, R100, R108) -/

/-- R108: a fresh registration context: no attempt made, no burst outstanding and the limits copied. -/
theorem State.startRegistration_context (s : State) (i : Nat) (reason : Reason) (previous : Option Nat)
    (cause : EngineCause) :
    let t := s.startRegistration i reason previous cause
    t.access.attempts = 0 ∧ t.access.outstanding = none
      ∧ t.access.attemptLimit = s.par .attemptLimit ∧ t.access.grantWait = s.par .grantWait
      ∧ t.access.readLimit = s.par .readLimit ∧ t.access.registrationLimit = s.par .registrationLimit := by
  simp [State.startRegistration_eq, State.registrationStarted, State.registrationContext, State.par, AccessUnit.idle,
    AccessUnit.reset]

/-- R44, R87, R99, R111, R141: a registration's start takes the Watch Store and the tuning over and asserts TXINH. -/
theorem State.startRegistration_tuning (s : State) (i : Nat) (reason : Reason) (previous : Option Nat)
    (cause : EngineCause) :
    let t := s.startRegistration i reason previous cause
    t.pins = { s.pins with txinh := true }
      ∧ t.beacon.owner = some { channel := (s.entry i).channel, colour := (s.entry i).colour }
      ∧ t.scan = { s.scan with visit := none, hunt := none, listen := none }
      ∧ t.frontEnd = s.frontEnd ++ [FrontEndRecord.tune (s.entry i).channel] := by
  have hscan : s.abandonWork.scanIdle.scan = { s.scan with visit := none, hunt := none, listen := none } := by
    simp [State.scanIdle]
  simp [State.startRegistration_eq, State.registrationStarted, hscan, Entry.pair, State.tune, State.issue]

/-! ## ROAM HOLD (R94) and ROAM TO (R97) -/

/-- R94: ROAM HOLD by the byte it carries. -/
theorem State.roamHoldCommand_eq {s : State} {f : HostFrame} {b : Byte} (hb : f.body = [b]) :
    s.roamHoldCommand f =
      if b.toNat ≤ 1 then (s.setRoam { s.roam with hold := decide (b = 1#8) }).reply f .ok else s.reply f .format := by
  have hat : at8 f.body 0 = b := by rw [hb]; rfl
  rw [State.roamHoldCommand, hat]
  by_cases hle : b.toNat ≤ 1
  · rw [readSwitch_eq_some (switch_byte_of_le hle), if_pos hle]
    exact if_neg (by simp [hb])
  · rw [readSwitch_eq_none (Nat.lt_of_not_le hle), if_neg hle]

section RoamTo

variable {s : State} {f : HostFrame} {code : Nat} (hcode : at16 f.body 0 = code)
include hcode

/-- R97: ROAM TO with a code out of range. -/
theorem State.roamToCommand_of_range (h : code = 0 ∨ 4095 < code) : s.roamToCommand f = s.reply f .format := by
  rw [State.roamToCommand, hcode]
  exact if_pos (.inr (codeInRange_eq_false.2 h))

variable (hlen : f.body.length = 2) (h1 : 1 ≤ code) (h2 : code ≤ 4095)
include hlen h1 h2

/-- R97: ROAM TO outside CAMPED. -/
theorem State.roamToCommand_of_not_camped (he : s.roam.engine ≠ .camped) : s.roamToCommand f = s.reply f .state := by
  simp [State.roamToCommand, hcode, hlen, codeInRange_eq_true h1 h2, he]

/-- R97: ROAM TO a site the table does not hold. -/
theorem State.roamToCommand_of_unknown (he : s.roam.engine = .camped) (hf : s.findCode code = none) :
    s.roamToCommand f = s.reply f .unknownSite := by
  simp [State.roamToCommand, hcode, hlen, codeInRange_eq_true h1 h2, he, hf]

/-- R97: ROAM TO a site the table holds, by the entry's status and bar. -/
theorem State.roamToCommand_of_known {i : Nat} (he : s.roam.engine = .camped) (hf : s.findCode code = some i) :
    s.roamToCommand f =
      if (s.entry i).status = .serving then s.reply f .unknownSite
      else if (s.entry i).barred ≠ 0 then s.reply f .barred
      else (s.startRegistration i .forced s.previousServing .registration).reply f .ok [byte i] := by
  simp [State.roamToCommand, hcode, hlen, codeInRange_eq_true h1 h2, he, hf]

end RoamTo

/-! ## The triggers (R93, R95) -/

/-- R93: when a trigger is permitted, in the terms of the statements. -/
def State.permits (s : State) (dwell : Bool) : Prop :=
  s.roam.hold = false
    ∧ (s.call.call = .idle ∨ (s.call.call = .receiving ∧ (dwell = true → s.par .roamInCall = 1)))

/-- R93: the model's permission of a DWELL trigger. -/
theorem State.permitsDwell_iff (s : State) : s.permitsDwell = true ↔ s.permits true := by
  unfold State.permitsDwell State.permits
  cases s.call.call <;> simp [State.isOn]

/-- R93: the model's permission of an URGENT trigger. -/
theorem State.permitsUrgent_iff (s : State) : s.permitsUrgent = true ↔ s.permits false := by
  unfold State.permitsUrgent State.permits
  cases s.call.call <;> simp

/-- R95: outside CAMPED a trigger is discarded. -/
theorem State.takeTrigger_of_not_camped {s : State} (t : Trigger) (h : s.roam.engine ≠ .camped) : s.takeTrigger t = s :=
  if_neg h

/-- R72: an URGENT trigger with no target is declined. -/
theorem State.takeTrigger_urgent_none (s : State) : s.takeTrigger (.urgent none) = s := ite_self s

/-- R93, R95: a DWELL trigger in CAMPED, by its permission. -/
theorem State.takeTrigger_dwell {s : State} (code : Nat) (h : s.roam.engine = .camped) :
    s.takeTrigger (.dwell code) = if s.permitsDwell then s.roamFromCamped code .dwell else s := if_pos h

/-- R93, R95: an URGENT trigger in CAMPED, by its permission. -/
theorem State.takeTrigger_urgent {s : State} (code : Nat) (h : s.roam.engine = .camped) :
    s.takeTrigger (.urgent (some code)) = if s.permitsUrgent then s.roamFromCamped code .urgent else s := if_pos h

/-- R93, R99: a trigger that is acted on starts a registration with its target. -/
theorem State.roamFromCamped_of_findCode {s : State} {code i : Nat} (reason : Reason) (h : s.findCode code = some i) :
    s.roamFromCamped code reason = s.startRegistration i reason s.previousServing .registration := by
  simp only [State.roamFromCamped, h]

end Sys2Proof.Machine
end

section
/-! PROOFS. ROAM HOLD (O43), STOP (O41) and the start of a registration by ROAM TO and by a trigger (O44). -/

namespace Sys2Proof.Proofs

open Sys2Proof Sys2Proof.Machine

/-- Settles O43: ROAM HOLD by the byte it carries. -/
theorem roamHoldIsSet : Obligations.RoamHoldIsSet := by
  intro s f rest b h hk hb
  have hrow : exec .roamHold s = .next ((s.setHost (s.host.taken rest)).roamHoldCommand f) :=
    congrArg Host.Outcome.next (takeKind_of_offers h hk)
  rw [hrow, State.roamHoldCommand_eq hb]
  rfl

/-- Settles O41: STOP in STOPPED and in every other state, block by block. -/
theorem stopEntersStopped : Obligations.StopEntersStopped := by
  intro s f rest h hk hb
  have hrow : exec .stop s = .next ((s.setHost (s.host.taken rest)).stopCommand f) :=
    congrArg Host.Outcome.next (takeKind_of_offers h hk)
  refine ⟨fun he => ?_, fun he => ?_⟩
  · rw [hrow, State.stopCommand_of_stopped (s := s.setHost (s.host.taken rest)) hb he]
    rfl
  · rw [hrow, State.stopCommand_of_running (s := s.setHost (s.host.taken rest)) hb he]
    obtain ⟨hroam, hpins, hhost⟩ := (s.setHost (s.host.taken rest)).stopEngine_engine
    obtain ⟨hserving, hother⟩ := (s.setHost (s.host.taken rest)).stopEngine_entry
    obtain ⟨hranking, hstore, hlast, howner, hstate, hout, hgenerator, hgroups, hscan⟩ :=
      (s.setHost (s.host.taken rest)).stopEngine_effect
    refine ⟨_, rfl, ?_⟩
    simp only [reply_eq_answer, State.setHost_roam, State.setHost_pins, State.setHost_host, State.setHost_entry,
      State.setHost_ranking, State.setHost_beacon, State.setHost_access, State.setHost_groups, State.setHost_scan, hhost]
    exact ⟨hroam, hpins, trivial, hserving, hother, hranking, hstore, hlast, howner, hstate, hout, hgenerator, hgroups, hscan,
      by simp⟩

/-- R93, R99, R100, R108: the registration that a trigger starts in CAMPED. -/
theorem roamFromCamped_starts {s : State} {code i : Nat} (reason : Reason) (he : s.roam.engine = .camped)
    (hf : s.findCode code = some i) :
    let t := s.roamFromCamped code reason
    t.roam =
        { s.roam with
          engine := .registering, previous := s.serving.map fun j => (s.entry j).code
          reason := some reason, enteredFrom := .camped }
      ∧ t.pins = { s.pins with txinh := true }
      ∧ t.host = s.host.offer (.engineState .camped .registering .registration true)
      ∧ t.access.state = .tuning ∧ t.access.target = (s.entry i).code
      ∧ t.access.attempts = 0 ∧ t.access.outstanding = none
      ∧ t.beacon.owner = some { channel := (s.entry i).channel, colour := (s.entry i).colour }
      ∧ t.scan = { s.scan with visit := none, hunt := none, listen := none }
      ∧ t.frontEnd = s.frontEnd ++ [FrontEndRecord.tune (s.entry i).channel]
      ∧ t.table = s.table ∧ t.intake = s.intake ∧ t.call = s.call ∧ t.recallArea = s.recallArea := by
  obtain ⟨htable, hroam, hstate, htarget, -, hhost⟩ :=
    s.startRegistration_effect i reason s.previousServing .registration
  obtain ⟨hattempts, hout, -⟩ := s.startRegistration_context i reason s.previousServing .registration
  obtain ⟨hpins, howner, hscan, hfront⟩ := s.startRegistration_tuning i reason s.previousServing .registration
  rw [he] at hroam hhost
  rw [State.roamFromCamped_of_findCode reason hf]
  exact ⟨hroam, hpins, hhost, hstate, htarget, hattempts, hout, howner, hscan, hfront, htable, by simp, by simp, by simp⟩

/-- Settles O44: ROAM TO's refusals in their order and the registration it starts; the triggers by engine state and permission. -/
theorem roamToStartsARegistration : Obligations.RoamToStartsARegistration := by
  refine ⟨fun s f rest hi lo h hk hb => ?_, fun s => ?_⟩
  · have hrow : exec .roamTo s = .next ((s.setHost (s.host.taken rest)).roamToCommand f) :=
      congrArg Host.Outcome.next (takeKind_of_offers h hk)
    rw [hrow]
    have hlen : f.body.length = 2 := by rw [hb]; rfl
    have hcode : at16 f.body 0 = 256 * hi.toNat + lo.toNat := by rw [hb]; exact natOfBytes_pair hi lo
    generalize 256 * hi.toNat + lo.toNat = code at hcode ⊢
    refine ⟨fun hbad => ?_, fun h1 h2 => ⟨fun he => ?_, fun he hf => ?_, fun i he hf => ?_⟩⟩
    · rw [State.roamToCommand_of_range hcode hbad, reply_taken_eq_refusedWith]
    · rw [State.roamToCommand_of_not_camped (s := s.setHost (s.host.taken rest)) hcode hlen h1 h2 he,
        reply_taken_eq_refusedWith]
    · rw [State.roamToCommand_of_unknown (s := s.setHost (s.host.taken rest)) hcode hlen h1 h2 he hf,
        reply_taken_eq_refusedWith]
    · have hcamped : (s.setHost (s.host.taken rest)).roam.engine = .camped := he
      have hfound : (s.setHost (s.host.taken rest)).findCode code = some i := hf
      rw [State.roamToCommand_of_known hcode hlen h1 h2 hcamped hfound]
      split
      · next hserving => exact congrArg Host.Outcome.next (if_pos hserving)
      · next hserving =>
        rw [if_neg (show ¬((s.setHost (s.host.taken rest)).entry i).status = .serving from hserving)]
        split
        · next hbarred => exact congrArg Host.Outcome.next (if_pos hbarred)
        · next hbarred =>
          have hstarts := roamFromCamped_starts .forced hcamped hfound
          rw [State.roamFromCamped_of_findCode .forced hfound] at hstarts
          obtain ⟨hroam, hpins, hhost, hstate, htarget, hattempts, hout, howner, hscan, hfront, htable, hintake, hcall, -⟩ :=
            hstarts
          obtain ⟨-, -, hlimit, hgrant, hread, hregistration⟩ :=
            (s.setHost (s.host.taken rest)).startRegistration_context i .forced
              (s.setHost (s.host.taken rest)).previousServing .registration
          obtain ⟨-, -, hsite⟩ := State.findCode_eq_some hf
          refine ⟨_, congrArg Host.Outcome.next (if_neg hbarred), hroam, hpins, ?_, hstate, htarget.trans hsite, hattempts,
            hout, hlimit, hgrant, hread, hregistration, howner, hscan, hfront, htable, hintake, hcall⟩
          rw [reply_eq_answer, State.setHost_host, hhost]
          rfl
  · intro starts permitted
    refine ⟨fun trigger he => State.takeTrigger_of_not_camped trigger he, s.takeTrigger_urgent_none, fun code he => ?_⟩
    rw [State.takeTrigger_dwell code he, State.takeTrigger_urgent code he]
    refine ⟨fun hno => if_neg (mt s.permitsDwell_iff.1 hno), fun hno => if_neg (mt s.permitsUrgent_iff.1 hno),
      fun i hf => ⟨fun hyes => ?_, fun hyes => ?_⟩⟩
    · rw [if_pos (s.permitsDwell_iff.2 hyes)]
      exact roamFromCamped_starts .dwell he hf
    · rw [if_pos (s.permitsUrgent_iff.2 hyes)]
      exact roamFromCamped_starts .urgent he hf

end Sys2Proof.Proofs
end

section
/-! SUPPORT. The failure of a registration (R20, R103, R104, R122): the demotion and the bar, where the engine goes, and what is
sent; ROAM ABORT (R123) and the limits that fail one (R113, R119, R121). -/

namespace Sys2Proof.Machine

/-! ## The bar and the demotion of the target (R20, R103) -/

/-- The search by code reads the entries alone. -/
theorem State.findCode_congr {s t : State} (h : s.table.entries = t.table.entries) (code : Nat) :
    s.findCode code = t.findCode code := by
  rw [State.findCode, State.findCode, h]

/-- The serving index is read from the entries alone. -/
theorem State.serving_congr {s t : State} (h : s.table.entries = t.table.entries) : s.serving = t.serving := by
  rw [State.serving, State.serving, h]

/-- R20: a bar keeps the site. -/
theorem Entry.sameSite_barred (e : Entry) (hold : Nat) : e.SameSite { e with barred := hold, dwell := 0 } :=
  ⟨rfl, rfl, rfl, rfl, rfl⟩

/-- R6, R52: a fall to LISTED keeps the site of an entry that does not serve. -/
theorem Entry.sameSite_fallen {e : Entry} (hocc : e.status ≠ .free) (hs : e.status ≠ .serving) : e.SameSite e.fallen :=
  ⟨((Entry.occupied_iff e).2 hocc).symm, (beq_eq_false_iff_ne.2 hs).symm, rfl, rfl, rfl⟩

/-- R20: the table a bar of a present entry that does not serve leaves. -/
theorem State.bar_table {s : State} {code i : Nat} (hold : Nat) (hf : s.findCode code = some i)
    (hs : (s.entry i).status ≠ .serving) :
    (s.bar code hold).table =
      s.withEntry i { s.entry i with barred := if hold = 0 then s.par .barTime else hold, dwell := 0 } := by
  rw [State.bar_of_findCode hold hf hs, (State.dwellCleared_frame _ i).2.1]
  rfl

/-- R103: only a MISMATCH demotes. -/
theorem State.demoteTarget_of_ne {cause : FailureCause} (s : State) (target : Option Nat) (h : cause ≠ .mismatch) :
    s.demoteTarget cause target = s := by
  unfold State.demoteTarget
  split
  · exact absurd rfl h
  · rfl

/-- R52, R103: the table that the demotion of the target leaves. -/
theorem State.demoteTarget_mismatch_table (s : State) (i : Nat) :
    (s.demoteTarget .mismatch (some i)).table =
      { s.withEntry i (s.entry i).fallen with conflicts := min (s.table.conflicts + 1) 65535 } := by
  have hfall : (s.fallToListed i).table = s.withEntry i (s.entry i).fallen := by
    rw [State.fallToListed, (State.dwellCleared_frame _ i).2.1]
    rfl
  simp only [State.demoteTarget, State.countConflict, State.setTable_table, hfall]
  rfl

/-! ## The failure ahead of the Roam Engine -/

/-- R20, R103, R122: a failure with the unit IDLE, the target demoted and barred, before the engine leaves REGISTERING. -/
def State.failureJudged (s : State) (cause : FailureCause) (bar : Option Nat) : State :=
  let demoted := s.accessIdle.demoteTarget cause (s.findCode s.access.target)
  match bar with
  | some hold => demoted.bar s.access.target hold
  | none => demoted

/-- R104: the bar that ROAM FAILED shows: the target's barred timer after a bar, and 0 where none is called for. -/
def State.shownBar (s : State) (cause : FailureCause) (bar : Option Nat) : Nat :=
  match bar, s.findCode s.access.target with
  | some _, some i => ((s.failureJudged cause bar).entry i).barred
  | _, _ => 0

/-- R103, R104, R122: a failure is judged, the engine leaves REGISTERING, and ROAM FAILED is sent. -/
theorem State.failRoam_eq (s : State) (cause : FailureCause) (bar : Option Nat) :
    s.failRoam cause bar =
      ((s.failureJudged cause bar).leaveRegistering.event
        (.roamFailed (s.findCode s.access.target) s.access.target cause s.roam.reason (s.shownBar cause bar))).clearRoam := by
  cases bar <;> rfl

/-- R122: the judgement moves the table, the watch, the Watch Store and the Access Unit alone. -/
theorem State.failureJudged_frame (s : State) (cause : FailureCause) (bar : Option Nat) :
    (s.failureJudged cause bar).intake = s.intake ∧ (s.failureJudged cause bar).scan = s.scan
      ∧ (s.failureJudged cause bar).roam = s.roam ∧ (s.failureJudged cause bar).access = s.access.idle
      ∧ (s.failureJudged cause bar).groups = s.groups ∧ (s.failureJudged cause bar).call = s.call
      ∧ (s.failureJudged cause bar).recallArea = s.recallArea ∧ (s.failureJudged cause bar).host = s.host
      ∧ (s.failureJudged cause bar).pins = s.pins ∧ (s.failureJudged cause bar).frontEnd = s.frontEnd := by
  have hidle : s.accessIdle.access = s.access.idle := rfl
  unfold State.failureJudged
  cases bar <;> simp [hidle]

/-- R103, R123: without a demotion and without a bar the table stands. -/
theorem State.failureJudged_table_of_no_bar {cause : FailureCause} (s : State) (h : cause ≠ .mismatch) :
    (s.failureJudged cause none).table = s.table := by
  simp [State.failureJudged, State.demoteTarget_of_ne _ _ h]

/-- R20, R104: ROAM FAILED shows the bar that is applied. -/
theorem State.shownBar_eq {s : State} {i : Nat} {cause : FailureCause} {hold : Nat} {table : SiteTable} {e : Entry}
    (hf : s.findCode s.access.target = some i) (h : (s.failureJudged cause (some hold)).table = table)
    (he : table.entries = s.table.entries.set i e) :
    s.shownBar cause (some hold) = e.barred := by
  obtain ⟨hi, -⟩ := State.findCode_eq_some hf
  simp only [State.shownBar, hf]
  rw [State.entry, h, he]
  exact congrArg Entry.barred (State.entry_setEntry_same e hi)

section Target

variable {s : State} {i : Nat} (hf : s.findCode s.access.target = some i) (hs : (s.entry i).status ≠ .serving)
include hf hs

/-- R20, R103: a failure of any cause but MISMATCH bars the target and nothing else of the table. -/
theorem State.failureJudged_table_of_bar {cause : FailureCause} (hold : Nat) (h : cause ≠ .mismatch) :
    (s.failureJudged cause (some hold)).table =
      s.withEntry i { s.entry i with barred := if hold = 0 then s.par .barTime else hold, dwell := 0 } := by
  simp only [State.failureJudged, State.demoteTarget_of_ne _ _ h]
  exact State.bar_table (s := s.accessIdle) hold hf hs

/-- R20, R52, R103: a failure MISMATCH demotes the target and bars it, and counts an identity conflict. -/
theorem State.failureJudged_table_of_mismatch :
    (s.failureJudged .mismatch (some 0)).table =
      { s.withEntry i { (s.entry i).fallen with barred := s.par .barTime } with
        conflicts := min (s.table.conflicts + 1) 65535 } := by
  obtain ⟨hi, hocc, -⟩ := State.findCode_eq_some hf
  have htable := s.accessIdle.demoteTarget_mismatch_table i
  have hentry : (s.accessIdle.demoteTarget .mismatch (some i)).entry i = (s.entry i).fallen := by
    rw [State.entry, htable]
    exact State.entry_setEntry_same (s.entry i).fallen hi
  have hfind : (s.accessIdle.demoteTarget .mismatch (some i)).findCode s.access.target = some i := by
    obtain ⟨-, hcode, -⟩ := State.matches_setEntry_of_sameSite hi (Entry.sameSite_fallen hocc hs)
    rw [State.findCode_congr (t := s.setEntry i (s.entry i).fallen) (by rw [htable]; rfl), hcode, hf]
  have hpar : (s.accessIdle.demoteTarget .mismatch (some i)).par .barTime = s.par .barTime := by simp [State.par]
  simp only [State.failureJudged, hf]
  rw [State.bar_table 0 hfind (by rw [hentry]; nofun), hentry, hpar, State.withEntry, htable]
  simp [State.withEntry, Entry.fallen]

/-- R20: the serving site and its channel do not see the target barred. -/
theorem State.failureJudged_serving {cause : FailureCause} (hold : Nat) (h : cause ≠ .mismatch) :
    ((s.failureJudged cause (some hold)).serving.map fun j =>
        FrontEndRecord.tune ((s.failureJudged cause (some hold)).entry j).channel) =
      s.serving.map fun j => FrontEndRecord.tune (s.entry j).channel := by
  obtain ⟨hi, -⟩ := State.findCode_eq_some hf
  have hsite := (s.entry i).sameSite_barred (if hold = 0 then s.par .barTime else hold)
  have htable := State.failureJudged_table_of_bar hf hs hold h
  obtain ⟨-, -, hserving⟩ := State.matches_setEntry_of_sameSite hi hsite
  have hchannel (j : Nat) : ((s.failureJudged cause (some hold)).entry j).channel = (s.entry j).channel :=
    (congrArg Entry.channel (congrFun (State.entry_congr htable) j)).trans
      (State.entry_setEntry_of_sameSite hi hsite j).channel
  simp only [hchannel]
  rw [State.serving_congr (t := s.setEntry i _) (congrArg SiteTable.entries htable), hserving]

end Target

/-! ## Where a failed registration leads (R103) -/

/-- R103: the engine state a failed registration leads to. -/
def State.failureEngine (s : State) : Engine :=
  if s.roam.previous ≠ none then .camped else if s.roam.expired then .direct else .hunt

/-- R103: the judgement of a failure does not change where it leads. -/
theorem State.failureEngine_failureJudged (s : State) (cause : FailureCause) (bar : Option Nat) :
    (s.failureJudged cause bar).failureEngine = s.failureEngine := by
  obtain ⟨-, -, hroam, -⟩ := s.failureJudged_frame cause bar
  rw [State.failureEngine, hroam, State.failureEngine]

/-- R103: the three ways out of REGISTERING. -/
theorem State.leaveRegistering_cases (s : State) :
    (s.failureEngine = .camped ∧ s.leaveRegistering = s.returnToCamped)
      ∨ (s.failureEngine = .direct ∧ s.leaveRegistering = s.enterDirect .outcome)
      ∨ (s.failureEngine = .hunt ∧ s.leaveRegistering = s.enterHunt .outcome) := by
  unfold State.failureEngine State.leaveRegistering
  cases s.roam.previous with
  | some code => exact .inl ⟨rfl, rfl⟩
  | none =>
    cases s.roam.expired with
    | true => exact .inr (.inl ⟨rfl, rfl⟩)
    | false => exact .inr (.inr ⟨rfl, rfl⟩)

/-- R87, R90, R103, R141: the engine, TXINH and the event at the return to CAMPED. -/
theorem State.returnToCamped_engine (s : State) :
    s.returnToCamped.roam = { s.roam with engine := .camped } ∧ s.returnToCamped.pins = { s.pins with txinh := false }
      ∧ s.returnToCamped.host = s.host.offer (.engineState s.roam.engine .camped .outcome false) := by
  simp [State.returnToCamped, State.enterEngine_host, Engine.inhibits]

/-- R34, R73, R87: TUNE with the serving channel at the return to CAMPED, and the counts that become 0. -/
theorem State.returnToCamped_tuning (s : State) :
    s.returnToCamped.frontEnd = s.frontEnd ++ (s.serving.map fun j => FrontEndRecord.tune (s.entry j).channel).toList
      ∧ s.returnToCamped.intake = { s.intake with loss := 0 } ∧ s.returnToCamped.ranking.reportCount = 0 := by
  have htable : (s.scanIdle.enterEngine .camped .outcome).table = s.table := by simp
  have hserving : (s.scanIdle.enterEngine .camped .outcome).serving = s.serving :=
    State.serving_congr (congrArg SiteTable.entries htable)
  simp [State.returnToCamped, State.tuneServing_eq, hserving, State.entry_congr htable, State.clearCampedCounts]

/-- R90, R103, R141: the engine, TXINH and the event as a failed registration ends. -/
theorem State.leaveRegistering_engine (s : State) :
    s.leaveRegistering.roam = { s.roam with engine := s.failureEngine }
      ∧ s.leaveRegistering.pins = { s.pins with txinh := decide (s.failureEngine = .hunt) }
      ∧ s.leaveRegistering.host =
          s.host.offer (.engineState s.roam.engine s.failureEngine .outcome (decide (s.failureEngine = .hunt))) := by
  rcases s.leaveRegistering_cases with ⟨he, hleave⟩ | ⟨he, hleave⟩ | ⟨he, hleave⟩ <;> rw [he, hleave]
  · exact s.returnToCamped_engine
  · obtain ⟨hroam, hpins, hhost, -⟩ := s.enterDirect_engine .outcome
    exact ⟨hroam, hpins, hhost⟩
  · obtain ⟨hroam, hpins, hhost, -⟩ := s.enterHunt_engine .outcome
    exact ⟨hroam, hpins, hhost⟩

/-- R34, R73, R87, R103: back in CAMPED the modem is tuned to the serving channel and the counts are 0. -/
theorem State.leaveRegistering_camped {s : State} (h : s.failureEngine = .camped) :
    s.leaveRegistering.frontEnd = s.frontEnd ++ (s.serving.map fun j => FrontEndRecord.tune (s.entry j).channel).toList
      ∧ s.leaveRegistering.intake = { s.intake with loss := 0 } ∧ s.leaveRegistering.ranking.reportCount = 0 := by
  rcases s.leaveRegistering_cases with ⟨-, hleave⟩ | ⟨he, -⟩ | ⟨he, -⟩
  · rw [hleave]
    exact s.returnToCamped_tuning
  · simp [h] at he
  · simp [h] at he

/-- R83, R84, R86, R103: away from CAMPED the hunt list is built, and the modem tuned for DIRECT or for the first hunt visit. -/
theorem State.leaveRegistering_not_camped {s : State} (h : s.failureEngine ≠ .camped) :
    s.leaveRegistering.scan.huntList = s.huntSources ∧ s.leaveRegistering.scan.cursor = 0
      ∧ s.leaveRegistering.intake = s.intake
      ∧ s.leaveRegistering.frontEnd =
          s.frontEnd ++
            (if s.failureEngine = .direct then [FrontEndRecord.tune (s.par .directChannel)]
            else (s.huntSources.head?.map FrontEndRecord.tune).toList) := by
  rcases s.leaveRegistering_cases with ⟨he, -⟩ | ⟨he, hleave⟩ | ⟨he, hleave⟩
  · exact absurd he h
  · obtain ⟨hscan, hfront⟩ := s.enterDirect_scan .outcome
    rw [hleave, hscan, hfront, he]
    exact ⟨rfl, rfl, by simp, rfl⟩
  · obtain ⟨-, -, hcursor, hlist, hfront⟩ := s.enterHunt_scan .outcome
    rw [hleave, hcursor, hlist, hfront, he]
    exact ⟨rfl, rfl, by simp, rfl⟩

/-! ## A failure as a whole (R103, R104, R122) -/

/-- R103, R104, R122: a failure's engine, events and unit. -/
theorem State.failRoam_effect (s : State) (cause : FailureCause) (bar : Option Nat) :
    let t := s.failRoam cause bar
    t.table = (s.failureJudged cause bar).table
      ∧ t.roam = { s.roam with engine := s.failureEngine, previous := none, reason := none }
      ∧ t.pins = { s.pins with txinh := decide (s.failureEngine = .hunt) }
      ∧ t.host =
          (s.host.offer
            (.engineState s.roam.engine s.failureEngine .outcome (decide (s.failureEngine = .hunt)))).offer
            (.roamFailed (s.findCode s.access.target) s.access.target cause s.roam.reason (s.shownBar cause bar))
      ∧ t.access =
          { AccessUnit.reset with
            generator := s.access.generator, collisions := s.access.collisions, missedSlots := s.access.missedSlots } := by
  obtain ⟨-, -, hjroam, hjaccess, -, -, -, hjhost, hjpins, -⟩ := s.failureJudged_frame cause bar
  obtain ⟨hroam, hpins, hhost⟩ := (s.failureJudged cause bar).leaveRegistering_engine
  have hengine := s.failureEngine_failureJudged cause bar
  rw [hengine, hjroam] at hroam
  rw [hengine, hjpins] at hpins
  rw [hengine, hjroam, hjhost] at hhost
  simp [State.failRoam_eq, State.event_eq, State.clearRoam, hroam, hpins, hhost, hjaccess, AccessUnit.idle]

/-- R103: what a failure sends on the Front-End Link, and the blocks it moves for it. -/
theorem State.failRoam_tuning (s : State) (cause : FailureCause) (bar : Option Nat) :
    let t := s.failRoam cause bar
    let judged := s.failureJudged cause bar
    (s.failureEngine = .camped →
        t.frontEnd =
            s.frontEnd ++ (judged.serving.map fun j => FrontEndRecord.tune (judged.entry j).channel).toList
          ∧ t.intake = { s.intake with loss := 0 } ∧ t.ranking.reportCount = 0)
      ∧ (s.failureEngine ≠ .camped →
          t.scan.huntList = (s.setTable t.table).huntSources ∧ t.scan.cursor = 0 ∧ t.intake = s.intake
            ∧ t.frontEnd =
                s.frontEnd ++
                  (if s.failureEngine = .direct then [FrontEndRecord.tune (s.par .directChannel)]
                  else (t.scan.huntList.head?.map FrontEndRecord.tune).toList)) := by
  obtain ⟨hjintake, hjscan, -, -, -, -, hjrecall, hjhost, -, hjfront⟩ := s.failureJudged_frame cause bar
  obtain ⟨htable, -⟩ := s.failRoam_effect cause bar
  have hengine := s.failureEngine_failureJudged cause bar
  have hpar : (s.failureJudged cause bar).par .directChannel = s.par .directChannel := by rw [State.par, hjhost, State.par]
  have hsources : (s.failureJudged cause bar).huntSources = (s.setTable (s.failureJudged cause bar).table).huntSources :=
    State.huntSources_congr rfl (by rw [hjrecall]; rfl) (by rw [hjscan]; rfl)
  intro t judged
  refine ⟨fun hc => ?_, fun hc => ?_⟩
  · obtain ⟨hfront, hintake, hcount⟩ := State.leaveRegistering_camped (hengine.trans hc)
    rw [hjfront] at hfront
    rw [hjintake] at hintake
    simp [t, judged, State.failRoam_eq, hfront, hintake, hcount]
  · obtain ⟨hlist, hcursor, hintake, hfront⟩ := State.leaveRegistering_not_camped (hengine ▸ hc)
    rw [hengine, hjfront, hpar] at hfront
    rw [htable, ← hsources]
    simp [t, State.failRoam_eq, hlist, hcursor, hintake, hjintake, hfront]

/-! ## ROAM ABORT (R123) -/

section RoamAbort

variable {s : State} {f : HostFrame} (hb : f.body = [])
include hb

/-- R123: ROAM ABORT with no registration running. -/
theorem State.roamAbortCommand_of_idle (h : s.access.state.registering = false) :
    s.roamAbortCommand f = s.reply f .state := by
  rw [State.roamAbortCommand, if_neg (by simp [hb])]
  cases hstate : s.access.state <;> simp [hstate, AccessState.registering] at h ⊢

/-- R123: ROAM ABORT with a burst outstanding or a grant awaited. -/
theorem State.roamAbortCommand_of_late
    (h : s.access.state = .awaitingGrant ∨ (s.access.state = .contending ∧ s.access.outstanding ≠ none)) :
    s.roamAbortCommand f = s.reply f .tooLate := by
  rw [State.roamAbortCommand, if_neg (by simp [hb])]
  rcases h with hstate | ⟨hstate, hout⟩
  · simp only [hstate]
  · simp only [hstate, if_neg hout]

/-- R123: ROAM ABORT of a registration that it ends. -/
theorem State.roamAbortCommand_of_early
    (h : s.access.state = .tuning ∨ s.access.state = .reading
      ∨ (s.access.state = .contending ∧ s.access.outstanding = none)) :
    s.roamAbortCommand f = (s.failRoam .aborted none).reply f .ok := by
  rw [State.roamAbortCommand, if_neg (by simp [hb])]
  rcases h with hstate | hstate | ⟨hstate, hout⟩
  · simp only [hstate]
  · simp only [hstate]
  · simp only [hstate, if_pos hout]

end RoamAbort

/-! ## The rows of the limits (R113, R119, R121) -/

section Limits

variable {s : State} (hsup : s.pins.supply = .running)
include hsup

/-- R113: the read limit in READING. -/
theorem exec_readingUnreadable (h : s.access.state = .reading ∧ s.access.readLimit ≤ s.access.wait + 1) :
    exec .readingUnreadable s = .next (s.countWait.failRoam .unreadable (some 0)) :=
  congrArg Host.Outcome.next ((whileRunning_of_running hsup).trans (if_pos h))

/-- R119: the grant wait with no attempts left. -/
theorem exec_grantWaitTimeout_of_no_attempts
    (h : s.access.state = .awaitingGrant ∧ s.access.grantWait ≤ s.access.wait + 1)
    (hattempts : s.access.attemptLimit ≤ s.access.attempts) :
    exec .grantWaitTimeout s = .next (s.countWait.failRoam .noAccess (some 0)) :=
  congrArg Host.Outcome.next
    ((whileRunning_of_running hsup).trans ((if_pos h).trans (if_neg (Nat.not_lt.2 hattempts))))

/-- R121: the registration limit. -/
theorem exec_tooLong
    (h : s.access.state.registering = true ∧ s.access.registrationLimit ≤ s.access.multiframes + 1) :
    exec .tooLong s = .next ((s.countMultiframe true).failRoam .tooLong (some 0)) :=
  congrArg Host.Outcome.next ((whileRunning_of_running hsup).trans (if_pos h))

end Limits

end Sys2Proof.Machine
end

section
/-! PROOFS. The failure of a registration (O58) and ROAM ABORT (O45). -/

namespace Sys2Proof.Proofs

open Sys2Proof Sys2Proof.Machine

/-- Settles O45: ROAM ABORT by the phase of the registration, and the failure ABORTED with no bar. -/
theorem roamAbortEndsTheRegistration : Obligations.RoamAbortEndsTheRegistration := by
  intro s f rest h hk hb
  have hrow : exec .roamAbort s = .next ((s.setHost (s.host.taken rest)).roamAbortCommand f) :=
    congrArg Host.Outcome.next (takeKind_of_offers h hk)
  rw [hrow]
  refine ⟨fun hidle => ?_, fun hlate => ?_, fun hearly => ?_⟩
  · rw [State.roamAbortCommand_of_idle (s := s.setHost (s.host.taken rest)) hb hidle, reply_taken_eq_refusedWith]
  · rw [State.roamAbortCommand_of_late (s := s.setHost (s.host.taken rest)) hb hlate, reply_taken_eq_refusedWith]
  · rw [State.roamAbortCommand_of_early (s := s.setHost (s.host.taken rest)) hb hearly]
    obtain ⟨htable, hroam, hpins, hhost, haccess⟩ := (s.setHost (s.host.taken rest)).failRoam_effect .aborted none
    rw [State.failureJudged_table_of_no_bar _ (by nofun)] at htable
    refine ⟨_, s.failureEngine, rfl, rfl, ?_⟩
    simp only [reply_eq_answer, State.setHost_roam, State.setHost_pins, State.setHost_host, State.setHost_access,
      State.setHost_table, hhost, haccess]
    exact ⟨hroam, hpins, rfl, rfl, trivial, htable, by simp⟩

/-- R113, R119, R121: each of the three rows fails the registration with its cause and the bar time, the target as it was. -/
theorem exec_registrationLimit {s : State} {row : Instr × FailureCause} (hsup : s.pins.supply = .running)
    (hrow : row ∈
      [(Instr.readingUnreadable, FailureCause.unreadable), (Instr.grantWaitTimeout, FailureCause.noAccess),
        (Instr.tooLong, FailureCause.tooLong)])
    (hread : row.1 = .readingUnreadable → s.access.state = .reading ∧ s.access.readLimit ≤ s.access.wait + 1)
    (hgrant : row.1 = .grantWaitTimeout →
      s.access.state = .awaitingGrant ∧ s.access.grantWait ≤ s.access.wait + 1
        ∧ s.access.attemptLimit ≤ s.access.attempts)
    (hlong : row.1 = .tooLong →
      s.access.state.registering = true ∧ s.access.registrationLimit ≤ s.access.multiframes + 1) :
    row.2 ≠ .mismatch ∧ ∃ unit : AccessUnit, unit.target = s.access.target
      ∧ exec row.1 s = .next ((s.setAccess unit).failRoam row.2 (some 0)) := by
  simp only [List.mem_cons, List.not_mem_nil, or_false] at hrow
  rcases hrow with rfl | rfl | rfl
  · exact ⟨nofun, { s.access with wait := s.access.wait + 1 }, rfl, exec_readingUnreadable hsup (hread rfl)⟩
  · obtain ⟨hstate, hwait, hattempts⟩ := hgrant rfl
    exact ⟨nofun, { s.access with wait := s.access.wait + 1 }, rfl,
      exec_grantWaitTimeout_of_no_attempts hsup ⟨hstate, hwait⟩ hattempts⟩
  · exact ⟨nofun, { s.access with multiframes := s.access.multiframes + 1 }, rfl, exec_tooLong hsup (hlong rfl)⟩

/-- Settles O58: the three rows as failures with the bar time, a failure of any other cause, and the failure MISMATCH. -/
theorem registrationLimitsFail : Obligations.RegistrationLimitsFail := by
  refine ⟨fun s i hsup hf hs row hrow hread hgrant hlong => ?_, fun s i cause bar hcause hf hs => ?_, fun s i hf hs => ?_⟩
  · obtain ⟨hcause, unit, htarget, hexec⟩ := exec_registrationLimit hsup hrow hread hgrant hlong
    have hfind : (s.setAccess unit).findCode (s.setAccess unit).access.target = some i := by
      rw [State.setAccess_access, htarget]
      exact hf
    obtain ⟨htable, hroam, hpins, hhost, haccess⟩ := (s.setAccess unit).failRoam_effect row.2 (some 0)
    obtain ⟨hcamped, haway⟩ := (s.setAccess unit).failRoam_tuning row.2 (some 0)
    have hjudged := State.failureJudged_table_of_bar hfind hs 0 hcause
    rw [State.shownBar_eq hfind hjudged rfl, hfind, State.setAccess_access, htarget] at hhost
    have hsources (table : SiteTable) :
        ((s.setAccess unit).setTable table).huntSources = (s.setTable table).huntSources :=
      State.huntSources_congr rfl rfl rfl
    rw [State.failureJudged_serving hfind hs 0 hcause] at hcamped
    rw [hsources] at haway
    refine ⟨_, s.failureEngine, hexec, rfl, hroam, hpins, hhost, htable.trans hjudged, hcamped, haway, ?_, ?_⟩
    · rw [haccess]
      rfl
    · simp
  · obtain ⟨htable, hroam, hpins, hhost, haccess⟩ := s.failRoam_effect cause bar
    rw [hf] at hhost
    refine ⟨?_, ?_, hroam, hpins, haccess, by simp⟩
    · rintro rfl
      exact ⟨htable.trans (State.failureJudged_table_of_no_bar s hcause), hhost⟩
    · rintro hold rfl
      have hjudged := State.failureJudged_table_of_bar hf hs hold hcause
      rw [State.shownBar_eq hf hjudged rfl] at hhost
      exact ⟨htable.trans hjudged, hhost⟩
  · obtain ⟨htable, hroam, hpins, hhost, haccess⟩ := s.failRoam_effect .mismatch (some 0)
    have hjudged := State.failureJudged_table_of_mismatch hf hs
    rw [State.shownBar_eq hf hjudged rfl, hf] at hhost
    refine ⟨htable.trans hjudged, hroam, hpins, hhost, ?_, by simp⟩
    rw [haccess]
    rfl

end Sys2Proof.Proofs
end

section
/-! SUPPORT. The Access Unit's contention (R114, R115, R116, R118, R137): the generator, the countdown, the burst that is due,
and the lost burst, in the terms of the statements. -/

namespace Sys2Proof.Machine

/-! ## The generator (R115) -/

/-- R115: the bit a generator step puts in. -/
def generatorBit (g : BitVec 16) : Bool := (g.getLsbD 0 ^^ g.getLsbD 2) ^^ (g.getLsbD 3 ^^ g.getLsbD 5)

/-- R115: a step bit by bit. -/
theorem generatorStep_getLsbD (g : BitVec 16) (k : Nat) :
    (generatorStep g).getLsbD k = (g.getLsbD (k + 1) || (decide (k = 15) && generatorBit g)) := by
  have hin : (if generatorBit g then 0x8000#16 else 0#16).getLsbD k = (decide (k = 15) && generatorBit g) := by
    have hpow : 0x8000#16 = BitVec.twoPow 16 15 := rfl
    cases generatorBit g with
    | false => simp
    | true =>
      rw [if_pos rfl, hpow, BitVec.getLsbD_twoPow]
      simp [eq_comm]
  have hstep : generatorStep g = (g >>> 1) ||| (if generatorBit g then 0x8000#16 else 0#16) := rfl
  rw [hstep, BitVec.getLsbD_or, BitVec.getLsbD_ushiftRight, hin, Nat.add_comm]

/-- R115: below bit 15 a step shifts right. -/
theorem generatorStep_getLsbD_of_lt (g : BitVec 16) {k : Nat} (hk : k < 15) :
    (generatorStep g).getLsbD k = g.getLsbD (k + 1) := by
  rw [generatorStep_getLsbD, decide_eq_false (by omega), Bool.false_and, Bool.or_false]

/-- R115: bit 15 of a step is the bit put in. -/
theorem generatorStep_getLsbD_last (g : BitVec 16) : (generatorStep g).getLsbD 15 = generatorBit g := by
  rw [generatorStep_getLsbD, BitVec.getLsbD_of_ge g 16 (Nat.le_refl _)]
  simp

/-- R115: a step of a value other than 0 is not 0: bits 1 to 15 of the value stand in the step, and with those 0 its bit 0 is put
in. -/
theorem generatorStep_ne_zero {g : BitVec 16} (h : g ≠ 0#16) : generatorStep g ≠ 0#16 := by
  intro hzero
  have hbits (k : Nat) : (generatorStep g).getLsbD k = false := by rw [hzero, BitVec.getLsbD_zero]
  have hupper (k : Nat) (hk : k < 15) : g.getLsbD (k + 1) = false := by
    rw [← generatorStep_getLsbD_of_lt g hk]
    exact hbits k
  have hlowest : g.getLsbD 0 = false := by
    have hlast := hbits 15
    rw [generatorStep_getLsbD_last, generatorBit, hupper 1 (by omega), hupper 2 (by omega), hupper 4 (by omega)] at hlast
    simpa using hlast
  refine h (BitVec.eq_of_getLsbD_eq fun k hk => ?_)
  rw [BitVec.getLsbD_zero]
  cases k with
  | zero => exact hlowest
  | succ k => exact hupper k (by omega)

/-- R115: the seed is never 0. -/
theorem generatorSeed_ne_zero (identity : Identity) : generatorSeed identity ≠ 0#16 := by
  unfold generatorSeed
  dsimp only
  split
  · decide
  · next h => exact h

/-! ## The draw (R115) -/

/-- R115: the state after a draw from a seeded generator. -/
def State.drawn (s : State) (g : BitVec 16) : State :=
  s.setAccess
    { s.access with generator := some (generatorStep g), backoff := (generatorStep g).toNat % s.window + 1 }

/-- R115: a draw from a seeded generator. -/
theorem State.draw_eq_drawn {s : State} {g : BitVec 16} (h : s.access.generator = some g) : s.draw = s.drawn g := by
  simp [State.draw, State.drawn, h]

/-- R115: a draw, seeded or not, moves the generator, the backoff count and the free-value counter alone (log 21). -/
theorem State.draw_shape (s : State) :
    ∃ generator backoff free,
      s.draw = (s.setAccess { s.access with generator := generator, backoff := backoff }).setFree free
        ∧ ∀ g, s.access.generator = some g →
            generator = some (generatorStep g) ∧ backoff = (generatorStep g).toNat % s.window + 1 := by
  cases hgen : s.access.generator with
  | some g =>
    refine ⟨some (generatorStep g), (generatorStep g).toNat % s.window + 1, s.free, State.draw_eq_drawn hgen, ?_⟩
    rintro g' ⟨rfl⟩
    exact ⟨rfl, rfl⟩
  | none =>
    exact ⟨none, Config.unseededDraw s.free % s.window + 1, s.free + 1, by simp [State.draw, hgen]; rfl, by nofun⟩

/-! ## The burst that is due (R114, R116) -/

/-- R114: a slot position is an odd one below 2N. -/
theorem slotPosition_iff (n p : Nat) : slotPosition n p = true ↔ p % 2 = 1 ∧ p < 2 * n := by simp [slotPosition]

/-- R116: the position before which the unit would send a burst now, with its own counts. -/
def State.dueNow (s : State) : Option Nat := s.burstDue s.access.backoff s.slots s.access.attempts s.access.attemptLimit

/-- R116: the state after a REGISTER burst. -/
def State.registerSent (s : State) (q : Nat) : State :=
  { s with
    access :=
      { s.access with attempts := s.access.attempts + 1, outstanding := some { position := q, carried := [] } }
    frontEnd := s.frontEnd ++ [s.registerBurst q] }

/-- R125: the state after an AFFILIATE burst. -/
def State.affiliateSent (s : State) (q : Nat) : State :=
  { s with
    access :=
      { s.access with
        attempts := s.access.attempts + 1, outstanding := some { position := q, carried := s.firstUnsent } }
    groups := s.groupsSent s.firstUnsent
    frontEnd := s.frontEnd ++ [s.groupBurst q .affiliate s.firstUnsent] }

/-- R124, R125: the entries a burst takes next, in the terms of the statements. -/
theorem State.nextCarried_eq (s : State) : s.nextCarried = s.firstUnsent := by
  rw [State.nextCarried, State.firstUnsent, State.unsentPlaces]
  congr 2
  funext i
  cases s.groups.groups[i]? <;> rfl

/-- R137: the entries a burst carries become SENT, in the terms of the statements. -/
theorem State.markSent_eq (s : State) (carried : List Nat) : s.markSent carried = s.setGroups (s.groupsSent carried) := by
  simp only [State.markSent, State.setGroupList, State.groupsSent, List.contains_iff_mem]

/-- R124, R125: a burst that carries group entries. -/
theorem State.sendGroups_eq (s : State) (position : Nat) (kind : BurstKind) :
    s.sendGroups position kind =
      { s with
        access := { s.access with outstanding := some { position := position, carried := s.firstUnsent } }
        groups := s.groupsSent s.firstUnsent
        frontEnd := s.frontEnd ++ [s.groupBurst position kind s.firstUnsent] } := by
  rw [State.sendGroups, State.nextCarried_eq, State.markSent_eq]
  rfl

/-- R116: while a burst is outstanding none is sent. -/
theorem State.sendIfDue_of_outstanding {s : State} (h : s.access.outstanding ≠ none) : s.sendIfDue = s := by
  unfold State.sendIfDue
  split
  · exact if_neg fun hc => h hc.1
  · rfl

/-- R116, R125: with no burst outstanding, the burst that is due is sent. -/
theorem State.sendIfDue_eq {s : State} (hout : s.access.outstanding = none) :
    s.sendIfDue =
      s.dueNow.elim s (if s.access.state = .affiliating then s.affiliateSent else s.registerSent) := by
  unfold State.sendIfDue State.dueNow State.burstDue
  cases hp : s.access.sitePosition with
  | none => rfl
  | some p =>
    simp only [hout, true_and, slotPosition_iff, and_assoc]
    split
    · split
      · exact State.sendGroups_eq _ _ _
      · rfl
    · rfl

/-- R116: with no burst outstanding, the REGISTER burst that is due is sent. -/
theorem State.sendIfDue_register {s : State} (hout : s.access.outstanding = none) (hst : s.access.state ≠ .affiliating) :
    s.sendIfDue = s.dueNow.elim s s.registerSent := by
  rw [State.sendIfDue_eq hout, if_neg hst]

/-- R125: with no burst outstanding, the AFFILIATE burst that is due is sent. -/
theorem State.sendIfDue_affiliate {s : State} (hout : s.access.outstanding = none) (hst : s.access.state = .affiliating) :
    s.sendIfDue = s.dueNow.elim s s.affiliateSent := by
  rw [State.sendIfDue_eq hout, if_pos hst]

/-- R116: no burst is due at an unknown site position. -/
theorem State.dueNow_of_unknown {s : State} (h : s.access.sitePosition = none) : s.dueNow = none := by
  rw [State.dueNow, State.burstDue, h]

/-- R116: at an unknown site position nothing is sent. -/
theorem State.sendIfDue_of_unknown {s : State} (h : s.access.sitePosition = none) : s.sendIfDue = s := by
  rw [State.sendIfDue, h]

/-- R116: what a REGISTER burst says of the state. -/
theorem State.registerBurst_congr {s t : State} (hidentity : s.groups.identity = t.groups.identity)
    (hlength : s.groups.groups.length = t.groups.groups.length) (hprevious : s.access.previous = t.access.previous)
    (hcall : s.call = t.call) (q : Nat) : s.registerBurst q = t.registerBurst q := by
  rw [State.registerBurst, State.registerBurst, hidentity, hlength, hprevious, hcall]

/-- R116 step 1: the backoff count after a record. -/
def State.backoffCounted (s : State) : Nat :=
  match s.access.sitePosition with
  | some p => if p % 2 = 1 ∧ p < 2 * s.slots then s.access.backoff - 1 else s.access.backoff
  | none => s.access.backoff

/-- R116 step 1: the count of a record. -/
theorem State.countSlot_eq (s : State) : s.countSlot = s.setAccess { s.access with backoff := s.backoffCounted } := by
  unfold State.countSlot State.backoffCounted
  cases s.access.sitePosition with
  | none => rfl
  | some p =>
    simp only [slotPosition_iff]
    by_cases hslot : p % 2 = 1 ∧ p < 2 * s.slots
    · by_cases hzero : 0 < s.access.backoff
      · rw [if_pos ⟨hslot, hzero⟩, if_pos hslot]
      · rw [if_neg (mt And.right hzero), if_pos hslot, Nat.sub_eq_zero_of_le (by omega), ← Nat.eq_zero_of_not_pos hzero]
        rfl
    · rw [if_neg (mt And.left hslot), if_neg hslot]
      rfl

/-! ## The lost burst (R118, R137) -/

/-- R118, R137: a lost burst is cleared, and the entries it carried return. -/
theorem State.burstLost_eq (s : State) (b : Burst) :
    s.burstLost b =
      { s with access := { s.access with outstanding := none }, groups := s.groupsReturned b.carried } := by
  rw [State.burstLost, State.returnCarried_eq]
  rfl

/-- R114: the record at which the echo of the outstanding burst is judged. -/
theorem State.judgesEcho_iff {s : State} {b : Burst} {p : Nat} (h : s.access.sitePosition = some p) :
    s.judgesEcho b = true ↔ p ≠ b.position ∧ (p + 1) % 16 ≠ b.position := by
  simp [State.judgesEcho, h]

/-- R118: a record that is no echo record judges the burst lost. -/
theorem State.judgeEcho_of_no_echo {s : State} {b : Burst} {input : AccessInput} {p : Nat}
    (hp : s.access.sitePosition = some p) (h : ¬(p = (b.position + 1) % 16 ∧ input.sync = true)) :
    s.judgeEcho b input = .lost := by
  have hno : ¬(s.access.sitePosition = some b.echoPosition ∧ input.sync = true) := by
    rw [hp, Option.some_inj]
    exact h
  rw [State.judgeEcho, if_neg hno]

section EchoRecord

variable {s : State} {b : Burst} {input : AccessInput} {p : Nat} (hp : s.access.sitePosition = some p)
  (hecho : p = (b.position + 1) % 16 ∧ input.sync = true)
include hp hecho

/-- R118: at the echo record an ECHO judges by the radio and the slot it names. -/
theorem State.judgeEcho_of_block {radio : Identity} {slot : Nat} (h : input.echo = some (radio, slot)) :
    s.judgeEcho b input =
      if s.groups.identity = some radio then (if slot = (b.position - 1) / 2 then .won else .lost) else .collided := by
  have hyes : s.access.sitePosition = some b.echoPosition ∧ input.sync = true := by
    rw [hp, Option.some_inj]
    exact hecho
  rw [State.judgeEcho, if_pos hyes, h]
  simp only [eq_comm (a := some radio)]
  rfl

/-- R118: at the echo record of a registration a GRANT with no ECHO is WON. -/
theorem State.judgeEcho_of_grant {g : Grant} (hst : s.access.state ≠ .affiliating) (hnone : input.echo = none)
    (h : input.grant = some g) : s.judgeEcho b input = .wonByGrant g := by
  have hyes : s.access.sitePosition = some b.echoPosition ∧ input.sync = true := by
    rw [hp, Option.some_inj]
    exact hecho
  rw [State.judgeEcho, if_pos hyes, hnone, h]
  exact if_neg hst

/-- R118, R125: at the echo record no ECHO, and in a registration no GRANT, is LOST. -/
theorem State.judgeEcho_of_nothing (hnone : input.echo = none)
    (h : s.access.state = .affiliating ∨ input.grant = none) : s.judgeEcho b input = .lost := by
  have hyes : s.access.sitePosition = some b.echoPosition ∧ input.sync = true := by
    rw [hp, Option.some_inj]
    exact hecho
  rw [State.judgeEcho, if_pos hyes, hnone]
  cases hgrant : input.grant with
  | none => rfl
  | some g => exact if_pos (h.resolve_right (by simp [hgrant]))

end EchoRecord

end Sys2Proof.Machine
end

section
/-! SUPPORT. The draw that follows a timeout or a lost burst of a registration (R115, R116, R118, R119). -/

namespace Sys2Proof.Machine

/-- R116: a draw made at a record of a registration, with the REGISTER burst that may be due with it. -/
theorem State.drawAtRecord_register {s : State} {g : BitVec 16} (hg : s.access.generator = some g)
    (hout : s.access.outstanding = none) (hst : s.access.state ≠ .affiliating) :
    s.drawAtRecord = (s.drawn g).dueNow.elim (s.drawn g) (s.drawn g).registerSent := by
  rw [State.drawAtRecord, State.draw_eq_drawn hg, State.sendIfDue_register (s := s.drawn g) hout hst]

/-- R119: the registration contends again, with the record counted. -/
def State.grantLapsed (s : State) : State :=
  s.setAccess { s.access with state := .contending, wait := s.access.wait + 1 }

/-- R119: the wait for a grant runs out with attempts left. -/
theorem State.grantTimeout_of_attempts {s : State} (h : s.access.attempts < s.access.attemptLimit) :
    s.countWait.grantTimeout = s.grantLapsed.drawAtRecord := if_pos h

/-- R119: the row of the grant wait with attempts left. -/
theorem exec_grantWaitTimeout_of_attempts {s : State} (hsup : s.pins.supply = .running)
    (h : s.access.state = .awaitingGrant ∧ s.access.grantWait ≤ s.access.wait + 1)
    (hattempts : s.access.attempts < s.access.attemptLimit) :
    exec .grantWaitTimeout s = .next s.grantLapsed.drawAtRecord :=
  congrArg Host.Outcome.next
    ((whileRunning_of_running hsup).trans ((if_pos h).trans (State.grantTimeout_of_attempts hattempts)))

end Sys2Proof.Machine
end

section
/-! PROOFS. The grant wait that runs out with attempts left (O59). -/

namespace Sys2Proof.Proofs

open Sys2Proof Sys2Proof.Machine

/-- Settles O59: the new draw in CONTENDING, and the REGISTER burst that may be due with it. -/
theorem grantTimeoutDrawsAgain : Obligations.GrantTimeoutDrawsAgain := by
  intro s g w hsup hstate hwait hattempts hg hw drawn
  have hdrawn : s.grantLapsed.drawn g = s.setAccess drawn := by
    simp [State.drawn, State.grantLapsed, State.window, hw, drawn, State.setAccess]
  rw [exec_grantWaitTimeout_of_attempts hsup ⟨hstate, hwait⟩ hattempts]
  refine ⟨fun hnone => ?_, fun p hp hout => ?_⟩
  · rw [State.drawAtRecord, State.draw_eq_drawn (s := s.grantLapsed) hg, hdrawn,
      State.sendIfDue_of_unknown (s := s.setAccess drawn) hnone]
  · intro next
    have hslots : s.slots = w.slots := by simp [State.slots, hw]
    have hdue : (s.setAccess drawn).dueNow =
        if drawn.backoff = 1 ∧ next % 2 = 1 ∧ next < 2 * w.slots then some next else none := by
      have hall : (s.setAccess drawn).dueNow = s.burstDue drawn.backoff s.slots s.access.attempts s.access.attemptLimit := rfl
      simp only [hall, State.burstDue, hp, hslots, hattempts, and_true, next]
    rw [State.drawAtRecord_register (s := s.grantLapsed) hg hout nofun, hdrawn, hdue]
    split <;> rfl

end Sys2Proof.Proofs
end

section
/-! SUPPORT. The body of SET GROUPS (12.4.1, R136) and the replacing of the group list (R126). -/

namespace Sys2Proof.Machine

/-! ## The pairs of a part -/

/-- A 24-bit field holds the identity it was written with. -/
theorem natOfBytes_be24 (x : Identity) : natOfBytes (be24 x.toNat) = x.toNat := by
  have hx := x.isLt
  simp only [be24, natOfBytes, byte, List.foldl_cons, List.foldl_nil, BitVec.toNat_ofNat]
  omega

/-- R136: the pairs of a part are read as they were written. -/
theorem readPairs_flatMap (pairs : List GroupPair) :
    readPairs (pairs.flatMap fun p => be24 p.id.toNat ++ be24 p.mask.toNat) = some pairs := by
  induction pairs with
  | nil => rfl
  | cons p pairs ih =>
    have hread (x y : Identity) (tail : List Byte) :
        readPairs (be24 x.toNat ++ be24 y.toNat ++ tail) =
          (readPairs tail).map fun pairs =>
            { id := BitVec.ofNat 24 (natOfBytes (be24 x.toNat))
              mask := BitVec.ofNat 24 (natOfBytes (be24 y.toNat)) } :: pairs := rfl
    rw [List.flatMap_cons, hread, ih, natOfBytes_be24, natOfBytes_be24, BitVec.ofNat_toNat, BitVec.ofNat_toNat]
    simp

/-- R136, R167: a whole SET GROUPS, its one part 0 and final, replaces the list. -/
theorem State.setGroupsCommand_whole {s : State} {f : HostFrame} {pairs : List GroupPair} (hlen : pairs.length ≤ 6)
    (hb : f.body = 0x80#8 :: pairs.flatMap fun p => be24 p.id.toNat ++ be24 p.mask.toNat) :
    s.setGroupsCommand f = ((s.setAssembly none).replaceGroups pairs).reply f .ok := by
  have hfits : (if pairs.length ≤ maxGroups then ReplyCode.ok else .adjusted) = .ok :=
    if_pos (hlen.trans (by decide))
  rw [State.setGroupsCommand, hb]
  simp only [readPairs_flatMap]
  rw [if_neg (by omega)]
  exact congrArg (State.reply _ f) hfits

/-! ## The new list (R126, R136) -/

/-- R136: the state with the pairs as its group list, every entry UNSENT. -/
def State.groupsListed (s : State) (pairs : List GroupPair) : State :=
  s.setGroups
    { s.groups with groups := pairs.map fun p => { id := p.id, mask := p.mask, delivery := .unsent } }

/-- R137: a list with every entry UNSENT has nothing to return. -/
theorem State.returnSent_of_unsent {s : State} (h : ∀ g ∈ s.groups.groups, g.delivery = .unsent) : s.returnSent = s := by
  have hmap : s.groups.groups.map Group.returned = s.groups.groups := by
    refine (List.map_congr_left fun g hg => ?_).trans (List.map_id _)
    rw [Group.returned, if_neg (by simp [h g hg]), id_eq]
  rw [State.returnSent, hmap]
  rfl

/-- R126: over a list with every entry UNSENT an exchange is abandoned by going to IDLE. -/
theorem State.abandonWork_of_unsent {s : State} (h : ∀ g ∈ s.groups.groups, g.delivery = .unsent) :
    s.abandonWork = if s.access.state.exchange then s.accessIdle else s := by
  rw [State.abandonWork, State.returnSent_of_unsent h]

/-- R136: every entry of a new list is UNSENT. -/
theorem State.groupsListed_unsent (s : State) (pairs : List GroupPair) :
    ∀ g ∈ (s.groupsListed pairs).groups.groups, g.delivery = .unsent := by
  simp [State.groupsListed]

/-- R126, R136: what a new list leaves as it was. -/
theorem State.replaceGroups_frame (s : State) (pairs : List GroupPair) :
    (s.replaceGroups pairs).intake = s.intake ∧ (s.replaceGroups pairs).table = s.table
      ∧ (s.replaceGroups pairs).roam = s.roam ∧ (s.replaceGroups pairs).host = s.host := by
  unfold State.replaceGroups
  dsimp only
  split <;> simp [State.setGroupList]

/-- R126, R136: the new list, the exchange in progress abandoned, and in CAMPED the one that begins. -/
theorem State.replaceGroups_eq {s : State} {pairs : List GroupPair} (hlen : pairs.length ≤ 6) :
    s.replaceGroups pairs =
      let u := if s.access.state.exchange then (s.groupsListed pairs).accessIdle else s.groupsListed pairs
      if s.roam.engine = .camped ∧ u.access.state = .idle ∧ pairs ≠ [] then u.beginExchange s.positionFromIdle else u := by
  have hlisted : s.setGroupList ((pairs.take maxGroups).map GroupPair.toGroup) = s.groupsListed pairs := by
    rw [List.take_of_length_le (hlen.trans (by decide))]
    rfl
  have habandoned := State.abandonWork_of_unsent (s.groupsListed_unsent pairs)
  have hempty : (s.groupsListed pairs).groups.groups ≠ [] ↔ pairs ≠ [] := by simp [State.groupsListed]
  rw [State.replaceGroups, hlisted, habandoned]
  by_cases hexchange : s.access.state.exchange = true
  · have hstill : (s.groupsListed pairs).access.state.exchange = true := hexchange
    simp only [hstill, hexchange, if_true]
    simp only [State.accessIdle_frame, hempty]
    rfl
  · have hstill : ¬(s.groupsListed pairs).access.state.exchange = true := hexchange
    simp only [if_neg hstill, if_neg hexchange, hempty]
    rfl

end Sys2Proof.Machine
end

section
/-! PROOFS. SET GROUPS (O38). -/

namespace Sys2Proof.Proofs

open Sys2Proof Sys2Proof.Machine

/-- R126, R136: a new list in CAMPED with no registration: the list, and what the Access Unit makes of it. -/
theorem replaceGroups_camped {s : State} {pairs : List GroupPair} (hlen : pairs.length ≤ 6)
    (he : s.roam.engine = .camped) (hreg : s.access.state.registering = false) :
    let t := s.replaceGroups pairs
    t.groups = (s.groupsListed pairs).groups
      ∧ t.access.outstanding = (if pairs = [] ∧ s.access.state = .idle then s.access.outstanding else none)
      ∧ (pairs ≠ [] → t.access.state = .affiliating ∧ t.access.attempts = 0)
      ∧ (pairs = [] → t.access.state = .idle) := by
  let u := if s.access.state.exchange then (s.groupsListed pairs).accessIdle else s.groupsListed pairs
  have hu : u.access.state = .idle ∧ u.groups = (s.groupsListed pairs).groups
      ∧ u.access.outstanding = (if s.access.state = .idle then s.access.outstanding else none) := by
    cases hstate : s.access.state with
    | idle => simp [u, hstate, AccessState.exchange, State.groupsListed]
    | continuing | affiliating =>
      simp [u, hstate, AccessState.exchange, State.accessIdle, AccessUnit.idle, AccessUnit.reset]
    | tuning | reading | contending | awaitingGrant => simp [hstate, AccessState.registering] at hreg
  obtain ⟨hidle, hgroups, hout⟩ := hu
  have heq : s.replaceGroups pairs = if pairs ≠ [] then u.beginExchange s.positionFromIdle else u := by
    rw [State.replaceGroups_eq hlen]
    simp only [he, true_and]
    exact if_congr (and_iff_right hidle) rfl rfl
  intro t
  by_cases hnil : pairs = []
  · have ht : t = u := heq.trans (if_neg (not_not.2 hnil))
    rw [ht]
    exact ⟨hgroups, by simp [hnil, hout], fun h => absurd hnil h, fun _ => hidle⟩
  · have ht : t = u.beginExchange s.positionFromIdle := heq.trans (if_pos hnil)
    obtain ⟨hstate, hattempts, hnone, -⟩ := u.beginExchange_access s.positionFromIdle
    rw [ht, hnone, if_neg (by simp [hnil])]
    exact ⟨by simp [hgroups], rfl, fun _ => ⟨hstate, hattempts⟩, fun h => absurd h hnil⟩

/-- Settles O38: a whole SET GROUPS outside CAMPED, and in CAMPED with the exchange it ends and the one it begins. -/
theorem setGroupsReplacesTheList : Obligations.SetGroupsReplacesTheList := by
  intro s f rest pairs h hk hlen hb
  have hrow : exec .setGroups s =
      .next ((((s.setHost (s.host.taken rest)).setAssembly none).replaceGroups pairs).reply f .ok) := by
    rw [← State.setGroupsCommand_whole hlen hb]
    exact congrArg Host.Outcome.next (takeKind_of_offers h hk)
  rw [hrow]
  refine ⟨fun he hexchange => ?_, fun he hreg => ?_⟩
  · have heq : ((s.setHost (s.host.taken rest)).setAssembly none).replaceGroups pairs =
        ((s.setHost (s.host.taken rest)).setAssembly none).groupsListed pairs := by
      rw [State.replaceGroups_eq hlen]
      exact (if_neg fun hc => he hc.1).trans (if_neg (by simp [State.setAssembly, hexchange]))
    rw [heq]
    rfl
  · obtain ⟨hgroups, hout, hsome, hnone⟩ := replaceGroups_camped (s := (s.setHost (s.host.taken rest)).setAssembly none)
      hlen he hreg
    obtain ⟨hintake, htable, hroam, hhost⟩ :=
      ((s.setHost (s.host.taken rest)).setAssembly none).replaceGroups_frame pairs
    refine ⟨_, rfl, ?_⟩
    simp only [reply_eq_answer, State.setHost_groups, State.setHost_access, State.setHost_host, State.setHost_table,
      State.setHost_roam, State.setHost_intake, hhost]
    exact ⟨hgroups, rfl, hout, hsome, hnone, htable, hroam, hintake⟩

end Sys2Proof.Proofs
end

section
/-! SUPPORT. The phases of a registration (R109 to R121) in the terms of the statements. -/

namespace Sys2Proof.Machine

/-! ## Failures -/

/-- R103, R122: a failure clears the context, so it reads of the Access Unit its target and what IDLE keeps. -/
theorem State.failRoam_setAccess {s : State} {unit : AccessUnit} (htarget : unit.target = s.access.target)
    (hidle : unit.idle = s.access.idle) (cause : FailureCause) (bar : Option Nat) :
    (s.setAccess unit).failRoam cause bar = s.failRoam cause bar := by
  have haccess : (s.setAccess unit).accessIdle = s.accessIdle := congrArg s.setAccess hidle
  simp only [State.failRoam, haccess, State.setAccess_access, State.setAccess_roam, htarget]

/-- R119: a failure at a record that has been counted. -/
theorem State.failRoam_countWait (s : State) (cause : FailureCause) (bar : Option Nat) :
    s.countWait.failRoam cause bar = s.failRoam cause bar :=
  State.failRoam_setAccess (by rfl) (by rfl) cause bar

/-! ## The countdown in CONTENDING (R116) -/

/-- R116: the position before which a burst is due at a known site position. -/
theorem State.burstDue_known {s : State} {p : Nat} (hp : s.access.sitePosition = some p) (backoff slots attempts limit : Nat) :
    s.burstDue backoff slots attempts limit =
      if backoff = 1 ∧ (p + 1) % 16 % 2 = 1 ∧ (p + 1) % 16 < 2 * slots ∧ attempts < limit then some ((p + 1) % 16)
      else none := by
  rw [State.burstDue, hp]

/-- R116: one record in CONTENDING with no burst outstanding. -/
theorem State.contend_counting {s : State} (input : AccessInput) (hst : s.access.state = .contending)
    (hout : s.access.outstanding = none) :
    let counted := s.setAccess { s.access with backoff := s.backoffCounted }
    s.contend input = counted.dueNow.elim counted counted.registerSent := by
  intro counted
  have hcontend : s.contend input = s.countdown := by rw [State.contend, hout]
  rw [hcontend, State.countdown, State.countSlot_eq, State.sendIfDue_register (s := counted) hout (by simp [counted, hst])]

/-- R116: at an unknown site position one record in CONTENDING with no burst outstanding changes nothing. -/
theorem State.contend_of_unknown {s : State} (input : AccessInput) (hst : s.access.state = .contending)
    (hout : s.access.outstanding = none) (hp : s.access.sitePosition = none) : s.contend input = s := by
  have hcounted : s.setAccess { s.access with backoff := s.backoffCounted } = s := by rw [State.backoffCounted, hp]; rfl
  rw [State.contend_counting input hst hout, hcounted, State.dueNow_of_unknown hp, Option.elim_none]

/-! ## The echo in CONTENDING (R118) -/

section Echo

variable {s : State} {b : Burst} {input : AccessInput} (hout : s.access.outstanding = some b)
include hout

/-- R118: the burst's slot or the record before it. -/
theorem State.contend_before_echo (h : s.judgesEcho b = false) : s.contend input = s := by
  simp [State.contend, hout, h]

variable (hj : s.judgesEcho b = true)
include hj

/-- R118: WON. -/
theorem State.contend_won (h : s.judgeEcho b input = .won) : s.contend input = s.echoWon := by
  simp [State.contend, hout, hj, h]

/-- R118, R119: WON by a GRANT. -/
theorem State.contend_granted {g : Grant} (h : s.judgeEcho b input = .wonByGrant g) :
    s.contend input = if g.acts s.access.queuedUsed then s.echoWon.takeGrant g else s.echoWon := by
  simp [State.contend, hout, hj, h]

/-- R118: LOST. -/
theorem State.contend_lost (h : s.judgeEcho b input = .lost) : s.contend input = s.echoLost b := by
  simp [State.contend, hout, hj, h]

/-- R118: LOST to another radio. -/
theorem State.contend_collided (h : s.judgeEcho b input = .collided) : s.contend input = s.countCollision.echoLost b := by
  simp [State.contend, hout, hj, h]

end Echo

/-- R118, R137: the burst lost, with the collision counter it leaves. -/
def State.burstCleared (s : State) (b : Burst) (collisions : Nat) : State :=
  { s with
    access := { s.access with outstanding := none, collisions := collisions }
    groups := s.groupsReturned b.carried }

/-- R118: a LOST burst of a registration with attempts left: a draw, and the burst that may be due with it. -/
theorem State.echoLost_of_attempts {s : State} {b : Burst} {collisions : Nat} {g : BitVec 16}
    (hst : s.access.state = .contending) (hleft : s.access.attempts < s.access.attemptLimit)
    (hg : s.access.generator = some g) :
    let drawn := (s.burstCleared b collisions).drawn g
    (s.setAccess { s.access with collisions := collisions }).echoLost b = drawn.dueNow.elim drawn drawn.registerSent := by
  intro drawn
  have hlost : (s.setAccess { s.access with collisions := collisions }).burstLost b = s.burstCleared b collisions :=
    State.burstLost_eq _ b
  rw [State.echoLost, hlost]
  have hregistering : (s.burstCleared b collisions).access.state ≠ .affiliating := by simp [State.burstCleared, hst]
  exact (if_neg (Nat.not_le.2 hleft)).trans
    (State.drawAtRecord_register (s := s.burstCleared b collisions) hg rfl hregistering)

/-- R118: a LOST burst of a registration with no attempts left. -/
theorem State.echoLost_of_no_attempts {s : State} (b : Burst) (collisions : Nat)
    (h : s.access.attemptLimit ≤ s.access.attempts) :
    (s.setAccess { s.access with collisions := collisions }).echoLost b =
      (s.burstCleared b collisions).failRoam .noAccess (some 0) := by
  have hlost : (s.setAccess { s.access with collisions := collisions }).burstLost b = s.burstCleared b collisions :=
    State.burstLost_eq _ b
  rw [State.echoLost, hlost]
  exact if_pos h

/-- R118, R137: `t` is where a LOST burst of a registration leads, as the statements say it. -/
def State.losesBurst (s : State) (b : Burst) (t : State) (collisions : Nat) : Prop :=
  (s.access.attempts < s.access.attemptLimit → ∀ g, s.access.generator = some g →
      t.access.state = .contending ∧ t.access.generator = some (generatorStep g)
        ∧ t.access.backoff = (generatorStep g).toNat % s.window + 1
        ∧ t.access.collisions = collisions ∧ t.roam = s.roam)
    ∧ (s.access.attempts < s.access.attemptLimit → ∀ g, s.access.generator = some g →
        let drawn : AccessUnit :=
          { s.access with
            generator := some (generatorStep g), backoff := (generatorStep g).toNat % s.window + 1
            outstanding := none, collisions := collisions }
        t =
          match s.burstDue drawn.backoff s.slots s.access.attempts s.access.attemptLimit with
          | some q =>
            { s with
              access :=
                { drawn with
                  attempts := s.access.attempts + 1, outstanding := some { position := q, carried := [] } }
              groups := s.groupsReturned b.carried
              frontEnd := s.frontEnd ++ [s.registerBurst q] }
          | none => { s with access := drawn, groups := s.groupsReturned b.carried })
    ∧ (s.access.attemptLimit ≤ s.access.attempts →
        t =
          ({ s with
              access := { s.access with outstanding := none, collisions := collisions }
              groups := s.groupsReturned b.carried } : State).failRoam .noAccess (some 0))

/-- R118, R137: where a LOST burst of a registration leads. -/
theorem State.echoLost_losesBurst {s : State} (b : Burst) (collisions : Nat) (hst : s.access.state = .contending) :
    s.losesBurst b ((s.setAccess { s.access with collisions := collisions }).echoLost b) collisions := by
  refine ⟨fun hleft g hg => ?_, fun hleft g hg => ?_, fun hnone => State.echoLost_of_no_attempts b collisions hnone⟩
  · rw [State.echoLost_of_attempts hst hleft hg]
    cases ((s.burstCleared b collisions).drawn g).dueNow <;> exact ⟨hst, rfl, rfl, rfl, rfl⟩
  · intro drawn
    have hburst (q : Nat) : ((s.burstCleared b collisions).drawn g).registerBurst q = s.registerBurst q :=
      State.registerBurst_congr (s := (s.burstCleared b collisions).drawn g) (t := s) rfl
        (by simp [State.burstCleared, State.drawn, State.groupsReturned]) rfl rfl q
    have hdue : ((s.burstCleared b collisions).drawn g).dueNow =
        s.burstDue drawn.backoff s.slots s.access.attempts s.access.attemptLimit := rfl
    rw [State.echoLost_of_attempts hst hleft hg, hdue]
    cases s.burstDue drawn.backoff s.slots s.access.attempts s.access.attemptLimit with
    | none => rfl
    | some q =>
      rw [Option.elim_some, State.registerSent, hburst]
      rfl

/-! ## The wait for a grant (R119) -/

/-- R119: which grants act. -/
theorem Grant.acts_iff (g : Grant) (used : Bool) : g.acts used = true ↔ g ≠ .other ∧ (used = true → g ≠ .queued) := by
  cases g <;> simp [Grant.acts]

/-- R119: a record with a grant that acts. -/
theorem State.awaitGrant_of_acts {s : State} {input : AccessInput} {g : Grant} (hgrant : input.grant = some g)
    (h : g.acts s.access.queuedUsed = true) : s.awaitGrant input = s.countWait.takeGrant g := by
  rw [State.awaitGrant, hgrant]
  exact if_pos h

/-- R119: a record without a grant that acts. -/
theorem State.awaitGrant_of_no_acts {s : State} {input : AccessInput}
    (h : ∀ g, input.grant = some g → g.acts s.access.queuedUsed = false) :
    s.awaitGrant input = if s.access.grantWait ≤ s.access.wait + 1 then s.countWait.grantTimeout else s.countWait := by
  rw [State.awaitGrant]
  cases hgrant : input.grant with
  | none => rfl
  | some g => exact if_neg (by simp [h g hgrant])

/-- R119: no grant, one of no known result, and a QUEUED after the first do not act. -/
theorem no_grant_acts {grant : Option Grant} {used : Bool}
    (h : grant = none ∨ grant = some .other ∨ (used = true ∧ grant = some .queued)) :
    ∀ g, grant = some g → g.acts used = false := by
  rintro g rfl
  obtain h | h | ⟨hused, h⟩ := h
  · cases h
  · cases h
    rfl
  · cases h
    simp [Grant.acts, hused]

/-! ## The judgement of the target (R112, R113) -/

/-- R116: `v` is where a target that passes leads from `u`, as the statements say it. -/
def State.contendsTo (u v : State) : Prop :=
  v.access.state = .contending ∧ v.access.params = some u.registrationParams ∧ v.access.target = u.access.target
    ∧ (∀ g, u.access.generator = some g →
        v.access.generator = some (generatorStep g)
          ∧ v.access.backoff = (generatorStep g).toNat % u.registrationParams.window + 1)
    ∧ (u.access.outstanding = none →
        v.access.outstanding =
            ((u.burstDue v.access.backoff u.registrationParams.slots u.access.attempts u.access.attemptLimit).map fun q =>
              { position := q, carried := [] })
          ∧ v.access.attempts = u.access.attempts + (if v.access.outstanding = none then 0 else 1)
          ∧ v.frontEnd = u.frontEnd ++ (v.access.outstanding.map fun b => u.registerBurst b.position).toList)
    ∧ v.access.wait = u.access.wait ∧ v.table = u.table ∧ v.roam = u.roam ∧ v.host = u.host

/-- R110, R116: CONTENDING is entered with N and W fixed, a draw, and the burst that may be due with it. -/
theorem State.enterContending_contendsTo (u : State) : u.contendsTo u.enterContending := by
  let fixed := u.setAccess { u.access with state := .contending, params := some u.registrationParams }
  obtain ⟨generator, backoff, free, hdraw, hseeded⟩ := fixed.draw_shape
  let drawn := (fixed.setAccess { fixed.access with generator := generator, backoff := backoff }).setFree free
  have heq : u.enterContending = drawn.sendIfDue := congrArg State.sendIfDue hdraw
  rw [heq]
  by_cases hout : u.access.outstanding = none
  · rw [State.sendIfDue_register (s := drawn) hout nofun]
    have hdue : drawn.dueNow = u.burstDue backoff u.registrationParams.slots u.access.attempts u.access.attemptLimit := rfl
    cases hnow : drawn.dueNow with
    | none =>
      refine ⟨rfl, rfl, rfl, hseeded, fun _ => ⟨?_, ?_, ?_⟩, rfl, rfl, rfl, rfl⟩
      · exact hout.trans (congrArg (Option.map _) (hnow.symm.trans hdue))
      · exact (if_pos hout).symm ▸ rfl
      · rw [Option.elim_none]
        simp [drawn, fixed, hout]
    | some q =>
      have hout' : (drawn.registerSent q).access.outstanding = some { position := q, carried := [] } := rfl
      refine ⟨rfl, rfl, rfl, hseeded, fun _ => ⟨?_, rfl, rfl⟩, rfl, rfl, rfl, rfl⟩
      exact hout'.trans
        (congrArg (Option.map fun q => ({ position := q, carried := [] } : Burst)) (hnow.symm.trans hdue))
  · rw [State.sendIfDue_of_outstanding (s := drawn) hout]
    exact ⟨rfl, rfl, rfl, hseeded, fun h => absurd h hout, rfl, rfl, rfl, rfl⟩

/-- R112, R113: `v` is where a target with these flags leads from `u`, as the statements say it. -/
def State.judgedTo (u v : State) (closed emergencyOnly : Bool) (hold : Nat) : Prop :=
  (closed = true → v = u.failRoam .closed (some hold))
    ∧ (closed = false → emergencyOnly = true → u.call.emergency = false → v = u.failRoam .emergencyOnly none)
    ∧ (closed = false → (emergencyOnly = true → u.call.emergency = true) → u.contendsTo v)

/-- R112, R113: the target is judged by its flags. -/
theorem State.judgeFlags_judgedTo (u : State) (closed emergencyOnly : Bool) (hold : Nat) :
    u.judgedTo (u.judgeFlags closed emergencyOnly hold) closed emergencyOnly hold := by
  unfold State.judgeFlags
  refine ⟨fun h => if_pos h, fun hopen hemergency hcall => ?_, fun hopen hemergency => ?_⟩
  · rw [if_neg (by simp [hopen]), if_pos ⟨hemergency, hcall⟩]
  · rw [if_neg (by simp [hopen]), if_neg fun hc => by simp [hemergency hc.1] at hc]
    exact u.enterContending_contendsTo

/-- R113: the target is judged by a beacon. -/
theorem State.judgeBeacon_judgedTo (u : State) (b : Summary) :
    u.judgedTo (u.judgeBeacon b) b.closed b.emergencyOnly b.hold := u.judgeFlags_judgedTo _ _ _

/-- R112: the target is judged by the last watch beacon when it names it. -/
theorem State.judgeTarget_of_watch {s : State} {b : Summary} (hb : s.beacon.lastWatch = some b)
    (hcode : b.code = s.access.target) : s.judgeTarget = s.judgeBeacon b := by
  rw [State.judgeTarget, hb]
  exact if_pos hcode

/-- R112: else by its digest. -/
theorem State.judgeTarget_of_no_watch {s : State} (h : ∀ b, s.beacon.lastWatch = some b → b.code ≠ s.access.target) :
    s.judgeTarget = s.judgeDigest := by
  rw [State.judgeTarget]
  cases hb : s.beacon.lastWatch with
  | none => rfl
  | some b => exact if_neg (h b hb)

/-- R112: the target's OWN BEACON digest judges. -/
theorem State.judgeDigest_of_own {s : State} {i : Nat} {d : Digest} {o : OwnBeacon} (hf : s.findCode s.access.target = some i)
    (hd : (s.entry i).digest = some d) (ho : d.own = some o) :
    s.judgeDigest = s.judgeFlags o.closed o.emergencyOnly 0 := by
  simp [State.judgeDigest, Entry.own, hf, hd, ho]

/-- R112: a target without an OWN BEACON digest is not judged. -/
theorem State.judgeDigest_of_no_own {s : State} {i : Nat} (hf : s.findCode s.access.target = some i)
    (h : ∀ d, (s.entry i).digest = some d → d.own = none) : s.judgeDigest = s.enterContending := by
  have hown : (s.entry i).own = none := Option.bind_eq_none_iff.2 h
  simp [State.judgeDigest, hf, hown]

section Phase

variable {s : State} {input : AccessInput}

/-- R113: a beacon accepted at the record in TUNING. -/
theorem State.registrationPhase_tuning_beacon {b : Summary} (hst : s.access.state = .tuning) (hb : input.beacon = some b) :
    s.registrationPhase input = s.judgeBeacon b := by
  simp only [State.registrationPhase, hst, hb]

/-- R111, R112: the record in TUNING with no beacon. -/
theorem State.registrationPhase_tuning (hst : s.access.state = .tuning) (hb : input.beacon = none) :
    s.registrationPhase input =
      if s.access.skipReading then s.judgeTarget else s.setAccess { s.access with state := .reading, wait := 0 } := by
  simp only [State.registrationPhase, hst, hb]

/-- R113: a beacon accepted at a record in READING. -/
theorem State.registrationPhase_reading_beacon {b : Summary} (hst : s.access.state = .reading) (hb : input.beacon = some b) :
    s.registrationPhase input = s.countWait.judgeBeacon b := by
  simp only [State.registrationPhase, hst, hb]

/-- R113: a record in READING with no beacon. -/
theorem State.registrationPhase_reading (hst : s.access.state = .reading) (hb : input.beacon = none) :
    s.registrationPhase input =
      if s.access.readLimit ≤ s.access.wait + 1 then s.countWait.failRoam .unreadable (some 0) else s.countWait := by
  simp only [State.registrationPhase, hst, hb]
  rfl

end Phase

/-! ## One record of a registration (R109, R111, R121) -/

/-- R109, R111, R121: the counts and the site position at a record of a registration. -/
def State.recordCounted (s : State) (r : Frame) (input : AccessInput) : State :=
  s.setAccess
    { s.access with
      multiframes := s.access.multiframes + (if input.multiframe = true then 1 else 0)
      sitePosition :=
        if s.access.state = .tuning then s.access.sitePosition
        else if input.sync = true then some r.position
        else s.access.sitePosition.map fun p => (p + 1) % 16 }

/-- R103, R122: a failure does not read the counts of its record. -/
theorem State.failRoam_recordCounted (s : State) (r : Frame) (input : AccessInput) (cause : FailureCause)
    (bar : Option Nat) : (s.recordCounted r input).failRoam cause bar = s.failRoam cause bar :=
  State.failRoam_setAccess (by rfl) (by rfl) cause bar

/-- R109, R111, R121: a record of a registration by its counts. -/
theorem State.registrationRecord_eq (s : State) (r : Frame) (input : AccessInput) :
    s.registrationRecord r input =
      if (s.recordCounted r input).mismatches input then (s.recordCounted r input).failRoam .mismatch (some 0)
      else ((s.recordCounted r input).registrationPhase input).checkTooLong := by
  have hmultiframe : s.countMultiframe input.multiframe =
      s.setAccess { s.access with multiframes := s.access.multiframes + (if input.multiframe = true then 1 else 0) } := by
    rw [State.countMultiframe]
    cases input.multiframe <;> rfl
  have hcounted :
      (if (s.countMultiframe input.multiframe).inTuning then s.countMultiframe input.multiframe
        else (s.countMultiframe input.multiframe).trackSite r input.sync) = s.recordCounted r input := by
    rw [hmultiframe]
    by_cases htuning : s.access.state = .tuning
    · simp [State.inTuning, State.recordCounted, htuning]
    · simp [State.inTuning, State.recordCounted, htuning, State.trackSite]
      rfl
  rw [State.registrationRecord]
  rw [hcounted]

/-- R52, R121: a beacon of another site. -/
theorem State.mismatches_of_other {s : State} {input : AccessInput} {b : Summary} (hb : input.beacon = some b)
    (hcode : b.code ≠ s.access.target) : s.mismatches input = true := by
  simp [State.mismatches, hb, hcode]

/-- R52, R121: no beacon of another site. -/
theorem State.mismatches_of_target {s : State} {input : AccessInput}
    (h : ∀ b, input.beacon = some b → b.code = s.access.target) : s.mismatches input = false := by
  cases hb : input.beacon with
  | none => simp [State.mismatches, hb]
  | some b => simp [State.mismatches, hb, h b hb]

end Sys2Proof.Machine
end

section
/-! SUPPORT. The access parameters of a registration (R110) and a redirect (R120). -/

namespace Sys2Proof.Machine

/-- R110: the last watch beacon fixes the parameters when it names the target. -/
theorem State.registrationParams_of_watch {s : State} {b : Summary} (hb : s.beacon.lastWatch = some b)
    (hcode : b.code = s.access.target) : s.registrationParams = { slots := b.slots, window := b.window } := by
  simp [State.registrationParams, hb, hcode]

/-- R110: else the target's digest fixes them, or the fallback. -/
theorem State.registrationParams_of_no_watch {s : State}
    (h : ∀ b, s.beacon.lastWatch = some b → b.code ≠ s.access.target) :
    s.registrationParams =
      ((s.findCode s.access.target).bind fun i => (s.entry i).accessParams).getD fallbackParams := by
  rw [State.registrationParams]
  cases hf : s.findCode s.access.target <;> cases hb : s.beacon.lastWatch with
  | none => simp
  | some b => simp [h b hb]

/-- R110: the parameters an OWN BEACON digest gives. -/
theorem Entry.accessParams_of_own {e : Entry} {d : Digest} {o : OwnBeacon} (hd : e.digest = some d) (ho : d.own = some o) :
    e.accessParams = some { slots := o.slots, window := o.window } := by
  simp [Entry.accessParams, Entry.own, hd, ho]

/-- R110: a digest without an OWN BEACON source gives none. -/
theorem Entry.accessParams_of_no_own {e : Entry} (h : ∀ d, e.digest = some d → d.own = none) : e.accessParams = none := by
  have hown : e.own = none := Option.bind_eq_none_iff.2 h
  simp [Entry.accessParams, hown]

/-- R120: a second redirect. -/
theorem State.takeRedirect_of_used {s : State} (h : s.access.redirectUsed = true) (code channel colour : Nat) :
    s.takeRedirect code channel colour = s.failRoam .redirectLoop (some 0) := if_pos h

section Redirect

variable {s t : State} {code channel colour : Nat} (hused : s.access.redirectUsed = false)
include hused

/-- R120: a redirect to a site that a conflict keeps out. -/
theorem State.takeRedirect_of_conflict
    (h : s.admitFound code { channel := channel, colour := colour } = (t, .conflict)) :
    s.takeRedirect code channel colour = t.failRoam .redirectRefused (some 0) := by
  simp [State.takeRedirect, hused, h]

/-- R120: a redirect to a site that a full table keeps out. -/
theorem State.takeRedirect_of_full (h : s.admitFound code { channel := channel, colour := colour } = (t, .full)) :
    s.takeRedirect code channel colour = t.failRoam .tableFull (some 0) := by
  simp [State.takeRedirect, hused, h]

/-- R120: a redirect to a site the table holds. -/
theorem State.takeRedirect_of_admitted {i : Nat}
    (h : s.admitFound code { channel := channel, colour := colour } = (t, .admitted i)) :
    s.takeRedirect code channel colour =
      if (t.entry i).status = .serving ∨ (t.entry i).barred ≠ 0 then t.failRoam .redirectRefused (some 0)
      else t.followRedirect i := by
  simp [State.takeRedirect, hused, h]

end Redirect

/-- R111, R120: the unit, the tuning and the Watch Store's owner once a redirect is followed. -/
theorem State.followRedirect_effect (s : State) (i : Nat) :
    (s.followRedirect i).access =
        { s.access with
          state := .tuning, target := (s.entry i).code, attempts := 0, backoff := 0, outstanding := none
          redirectUsed := true, params := none, sitePosition := none, wait := 0
          skipReading := s.alreadyRead (s.entry i) }
      ∧ (s.followRedirect i).frontEnd = s.frontEnd ++ [FrontEndRecord.tune (s.entry i).channel]
      ∧ (s.followRedirect i).beacon.owner = some (s.entry i).pair := by
  refine ⟨by simp [State.followRedirect], by simp [State.followRedirect, State.tune, State.issue], ?_⟩
  simp only [State.followRedirect, State.tune_frame, State.setOwner_beacon]
  split
  · assumption
  · rfl

end Sys2Proof.Machine
end

section
/-! PROOFS. The backoff, the phases of a registration and the redirect (O23). -/

namespace Sys2Proof.Proofs

open Sys2Proof Sys2Proof.Machine

/-- R116: a record in CONTENDING with no burst outstanding, at a known site position. -/
theorem contend_counts {s : State} {w : AccessParams} {p : Nat} (input : AccessInput) (hst : s.access.state = .contending)
    (hw : s.access.params = some w) (hout : s.access.outstanding = none) (hp : s.access.sitePosition = some p) :
    let slot (q : Nat) : Bool := decide (q % 2 = 1 ∧ q < 2 * w.slots)
    let count := if slot p then s.access.backoff - 1 else s.access.backoff
    let counted := s.setAccess { s.access with backoff := count }
    s.contend input =
      if count = 1 ∧ slot ((p + 1) % 16) ∧ s.access.attempts < s.access.attemptLimit then
        counted.registerSent ((p + 1) % 16)
      else counted := by
  intro slot count counted
  have hslots : s.slots = w.slots := by simp [State.slots, hw]
  have hcount : s.backoffCounted = count := by simp [State.backoffCounted, hp, hslots, count, slot]
  have hdue : counted.dueNow =
      if count = 1 ∧ slot ((p + 1) % 16) = true ∧ s.access.attempts < s.access.attemptLimit then some ((p + 1) % 16)
      else none := by
    refine (State.burstDue_known hp count s.slots s.access.attempts s.access.attemptLimit).trans ?_
    simp [hslots, slot, and_assoc]
  rw [State.contend_counting input hst hout, hcount, hdue]
  split <;> rfl

/-- R118, R119: a record in CONTENDING with a burst outstanding. -/
theorem contend_outstanding {s : State} {b : Burst} {p : Nat} (input : AccessInput) (hst : s.access.state = .contending)
    (hout : s.access.outstanding = some b) (hp : s.access.sitePosition = some p) :
    let echo : Prop := p = (b.position + 1) % 16 ∧ input.sync = true
    (p = b.position ∨ (p + 1) % 16 = b.position → s.contend input = s)
      ∧ (p ≠ b.position → (p + 1) % 16 ≠ b.position →
          (¬echo ∨ (input.echo = none ∧ input.grant = none) → s.losesBurst b (s.contend input) s.access.collisions)
            ∧ (echo → ∀ radio slot, input.echo = some (radio, slot) →
                (s.groups.identity = some radio → slot = (b.position - 1) / 2 → s.contend input = s.echoWon)
                  ∧ (s.groups.identity = some radio → slot ≠ (b.position - 1) / 2 →
                      s.losesBurst b (s.contend input) s.access.collisions)
                  ∧ (s.groups.identity ≠ some radio →
                      s.losesBurst b (s.contend input) (min (s.access.collisions + 1) 65535)))
            ∧ (echo → input.echo = none → ∀ g, input.grant = some g →
                s.contend input = if g.acts s.access.queuedUsed = true then s.echoWon.takeGrant g else s.echoWon)) := by
  intro echo
  have hlost (collisions : Nat)
      (h : s.contend input = (s.setAccess { s.access with collisions := collisions }).echoLost b) :
      s.losesBurst b (s.contend input) collisions := by
    rw [h]
    exact State.echoLost_losesBurst b collisions hst
  refine ⟨fun hbefore => ?_, fun hslot hbefore => ?_⟩
  · refine State.contend_before_echo hout (Bool.eq_false_iff.2 fun hj => ?_)
    obtain ⟨hslot, hnext⟩ := (State.judgesEcho_iff hp).1 hj
    exact hbefore.elim hslot hnext
  have hj : s.judgesEcho b = true := (State.judgesEcho_iff hp).2 ⟨hslot, hbefore⟩
  refine ⟨fun h => hlost _ (State.contend_lost hout hj ?_), fun hecho radio slot hblock => ?_,
    fun hecho hnone g hgrant => ?_⟩
  · by_cases hecho : echo
    · obtain ⟨hnone, hgrant⟩ := h.resolve_left (not_not.2 hecho)
      exact State.judgeEcho_of_nothing hp hecho hnone (.inr hgrant)
    · exact State.judgeEcho_of_no_echo hp hecho
  · have hjudged := State.judgeEcho_of_block hp hecho hblock
    refine ⟨fun hid hs => ?_, fun hid hs => ?_, fun hid => ?_⟩
    · rw [if_pos hid, if_pos hs] at hjudged
      exact State.contend_won hout hj hjudged
    · rw [if_pos hid, if_neg hs] at hjudged
      exact hlost _ (State.contend_lost hout hj hjudged)
    · rw [if_neg hid] at hjudged
      exact hlost _ (State.contend_collided hout hj hjudged)
  · exact State.contend_granted hout hj (State.judgeEcho_of_grant hp hecho (by simp [hst]) hnone hgrant)

/-- R119: the wait for a grant that runs out at a record: by the attempts left. -/
theorem awaitGrant_lapses {s : State} {input : AccessInput} (hwait : s.access.grantWait ≤ s.access.wait + 1)
    (hgrant : input.grant = none ∨ input.grant = some .other
      ∨ (s.access.queuedUsed = true ∧ input.grant = some .queued)) :
    (s.access.attemptLimit ≤ s.access.attempts → s.awaitGrant input = s.countWait.failRoam .noAccess (some 0))
      ∧ (s.access.attempts < s.access.attemptLimit → s.access.outstanding = none → ∀ g, s.access.generator = some g →
          s.awaitGrant input =
            (s.grantLapsed.drawn g).dueNow.elim (s.grantLapsed.drawn g) (s.grantLapsed.drawn g).registerSent) := by
  rw [State.awaitGrant_of_no_acts (no_grant_acts hgrant), if_pos hwait]
  refine ⟨fun hnone => if_neg (Nat.not_lt.2 hnone), fun hleft hout g hg => ?_⟩
  rw [State.grantTimeout_of_attempts hleft, State.drawAtRecord_register (s := s.grantLapsed) hg hout nofun]

/-- R111, R112, R113: a record in TUNING. -/
theorem registrationPhase_tuning {s : State} {input : AccessInput} (hst : s.access.state = .tuning) :
    let t := s.registrationPhase input
    (∀ b, input.beacon = some b → s.judgedTo t b.closed b.emergencyOnly b.hold)
      ∧ (input.beacon = none → s.access.skipReading = false →
          t = s.setAccess { s.access with state := .reading, wait := 0 })
      ∧ (input.beacon = none → s.access.skipReading = true →
          (∀ b, s.beacon.lastWatch = some b → b.code = s.access.target → s.judgedTo t b.closed b.emergencyOnly b.hold)
            ∧ ((∀ b, s.beacon.lastWatch = some b → b.code ≠ s.access.target) →
              ∀ i, s.findCode s.access.target = some i →
                (∀ d o, (s.entry i).digest = some d → d.own = some o → s.judgedTo t o.closed o.emergencyOnly 0)
                ∧ ((∀ d, (s.entry i).digest = some d → d.own = none) → s.contendsTo t))) := by
  refine ⟨fun b hb => ?_, fun hb hskip => ?_, fun hb hskip => ?_⟩
  · rw [State.registrationPhase_tuning_beacon hst hb]
    exact s.judgeBeacon_judgedTo b
  · rw [State.registrationPhase_tuning hst hb, if_neg (by simp [hskip])]
  rw [State.registrationPhase_tuning hst hb, if_pos hskip]
  refine ⟨fun b hwatch hcode => ?_, fun hwatch i hf => ⟨fun d o hd ho => ?_, fun hown => ?_⟩⟩
  · rw [State.judgeTarget_of_watch hwatch hcode]
    exact s.judgeBeacon_judgedTo b
  · rw [State.judgeTarget_of_no_watch hwatch, State.judgeDigest_of_own hf hd ho]
    exact s.judgeFlags_judgedTo _ _ _
  · rw [State.judgeTarget_of_no_watch hwatch, State.judgeDigest_of_no_own hf hown]
    exact s.enterContending_contendsTo

/-- Settles O23: the generator and the draw, then a record in each phase of a registration, then a record as a whole. -/
theorem backoffDrawStaysInTheWindow : Obligations.BackoffDrawStaysInTheWindow := by
  refine ⟨generatorSeed_ne_zero, fun g => ⟨fun k hk => generatorStep_getLsbD_of_lt g hk, ?_, generatorStep_ne_zero⟩,
    fun s g hg hwindow => ?_, fun s w input hst hw hout => ?_,
    fun s b p input hst hout hp => contend_outstanding input hst hout hp, fun s input hst => ?_, fun s input => ?_,
    fun s used => ?_, fun s input => ?_, fun s => ?_, fun s r input hreg => ?_, fun s code channel colour => ?_,
    fun s r engine input he => ?_⟩
  · rw [generatorStep_getLsbD_last, generatorBit, Bool.xor_assoc _ (g.getLsbD 3)]
  · rw [State.draw_eq_drawn hg]
    exact ⟨rfl, Nat.succ_pos _, Nat.mod_lt _ hwindow⟩
  · refine ⟨fun hp => State.contend_of_unknown input hst hout hp, fun p hp => ?_⟩
    exact contend_counts input hst hw hout hp
  · intro counted
    have hacts {g : Grant} (hgrant : input.grant = some g) (h : g ≠ .other ∧ (s.access.queuedUsed = true → g ≠ .queued)) :
        s.awaitGrant input = counted.takeGrant g := State.awaitGrant_of_acts hgrant ((g.acts_iff _).2 h)
    have hwaits (hwait : s.access.wait + 1 < s.access.grantWait) (hgrant : input.grant = none
        ∨ input.grant = some .other ∨ (s.access.queuedUsed = true ∧ input.grant = some .queued)) :
        s.awaitGrant input = counted :=
      (State.awaitGrant_of_no_acts (no_grant_acts hgrant)).trans (if_neg (Nat.not_le.2 hwait))
    refine ⟨fun hwait h => hwaits hwait (h.imp_right .inl), fun hwait hused h => hwaits hwait (.inr (.inr ⟨hused, h⟩)),
      fun hused h => hacts h (by simp [hused]), fun count h => hacts h (by simp), fun hold h => hacts h (by simp),
      fun code channel colour h => hacts h (by simp), fun hwait h => ?_⟩
    obtain ⟨hfails, hdraws⟩ := awaitGrant_lapses hwait h
    refine ⟨hfails, fun hleft hout g hg => ?_⟩
    intro drawn
    have hdue : (s.grantLapsed.drawn g).dueNow =
        s.burstDue drawn.backoff s.slots s.access.attempts s.access.attemptLimit := rfl
    rw [hdraws hleft hout g hg, hdue]
    cases s.burstDue drawn.backoff s.slots s.access.attempts s.access.attemptLimit <;> rfl
  · exact ⟨fun hst => by rw [State.registrationPhase, hst], fun hst => by rw [State.registrationPhase, hst]⟩
  · exact ⟨fun g => g.acts_iff used, fun _ => rfl, fun _ => rfl, fun _ _ _ => rfl, rfl⟩
  · intro params contends judged counted
    refine ⟨fun hst => registrationPhase_tuning hst, fun hst => ⟨fun b hb => ?_, fun hb => ?_⟩⟩
    · have hcounted (v : State) (h : s.countWait.contendsTo v) : contends counted v := h
      obtain ⟨hclosed, hemergency, hpassed⟩ := s.countWait.judgeBeacon_judgedTo b
      rw [s.failRoam_countWait] at hclosed hemergency
      rw [State.registrationPhase_reading_beacon hst hb]
      exact ⟨hclosed, hemergency, fun hopen hcall => hcounted _ (hpassed hopen hcall)⟩
    · rw [State.registrationPhase_reading hst hb, s.failRoam_countWait]
      rfl
  · refine ⟨fun b hb hcode => State.registrationParams_of_watch hb hcode, fun hwatch => ?_⟩
    rw [State.registrationParams_of_no_watch hwatch]
    refine ⟨fun i d o hf hd ho => ?_, fun hown => ?_⟩
    · rw [hf, Option.bind_some, Entry.accessParams_of_own hd ho, Option.getD_some]
    · have hnone : ((s.findCode s.access.target).bind fun i => (s.entry i).accessParams) = none :=
        Option.bind_eq_none_iff.2 fun i hf => Entry.accessParams_of_no_own fun d hd => hown i d hf hd
      rw [hnone]
      rfl
  · intro moved ran
    refine ⟨fun b hb hcode => ?_, fun hbeacon => ?_⟩
    · rw [State.registrationRecord_eq, if_pos (State.mismatches_of_other (s := s.recordCounted r input) hb hcode),
        State.failRoam_recordCounted]
    · rw [State.registrationRecord_eq,
        if_neg (by rw [State.mismatches_of_target (s := s.recordCounted r input) hbeacon]; simp)]
      rfl
  · refine ⟨fun hused => State.takeRedirect_of_used hused code channel colour, fun hused t answer h => ?_⟩
    cases answer with
    | conflict => exact State.takeRedirect_of_conflict hused h
    | full => exact State.takeRedirect_of_full hused h
    | admitted i =>
      have htaken := State.takeRedirect_of_admitted hused h
      dsimp only
      split
      · next hrefused => rw [htaken, if_pos hrefused]
      · next hfollowed =>
        obtain ⟨haccess, hfront, howner⟩ := t.followRedirect_effect i
        rw [htaken, if_neg hfollowed]
        exact ⟨haccess, hfront, howner, by simp, by simp⟩
  · refine ⟨fun hfrom => ?_, fun hfrom => ⟨fun b hb hcode => ?_, fun hbeacon => ?_⟩⟩
    · rw [State.accessRecord, he]
      exact if_pos hfrom
    · rw [State.accessRecord, he]
      exact (if_neg hfrom).trans (if_pos (State.mismatches_of_other hb hcode))
    · rw [State.accessRecord, he]
      exact (if_neg hfrom).trans (if_neg (by simp [State.mismatches_of_target hbeacon]))

end Sys2Proof.Proofs
end

section
/-! SUPPORT. The groups that a wait for AFFIL ACK, continuation and an exchange leave (R124, R125, R137), in the terms of the
statements. -/

namespace Sys2Proof.Machine

/-! ## Delivery states (R137) -/

/-- R137: every SENT entry returns, in the terms of the statements. -/
theorem State.returnSent_eq (s : State) : s.returnSent = s.setGroups s.groupsAllReturned := rfl

/-- Some entry is UNSENT. -/
theorem State.anyUnsent_iff (s : State) : s.anyUnsent = true ↔ ∃ e ∈ s.groups.groups, e.delivery = .unsent := by
  simp [State.anyUnsent]

/-- R137: an entry returned is UNSENT unless it is CONFIRMED. -/
theorem Group.returned_eq (g : Group) :
    g.returned = if g.delivery = .confirmed then g else { g with delivery := .unsent } := by
  obtain ⟨id, mask, delivery⟩ := g
  cases delivery <;> rfl

/-- R137: with every SENT entry returned, some entry is UNSENT unless all are CONFIRMED. -/
theorem State.returnSent_anyUnsent (s : State) :
    s.returnSent.anyUnsent = true ↔ ¬∀ e ∈ s.groups.groups, e.delivery = .confirmed := by
  have hreturned (g : Group) : g.returned.delivery = .unsent ↔ ¬g.delivery = .confirmed := by
    rw [Group.returned_eq]
    split <;> simp [*]
  simp [State.anyUnsent_iff, State.returnSent, State.setGroupList, hreturned]

/-- R137: the entries of a lost burst returned, then every SENT one. -/
theorem State.returnSent_of_returned (s : State) (carried : List Nat) :
    (s.setGroups (s.groupsReturned carried)).groupsAllReturned = s.groupsAllReturned := by
  have hentry (i : Nat) (e : Group) :
      (if i ∈ carried ∧ e.delivery = .sent then ({ e with delivery := .unsent } : Group) else e).returned = e.returned := by
    obtain ⟨id, mask, delivery⟩ := e
    cases delivery <;> by_cases hi : i ∈ carried <;> simp [hi, Group.returned]
  have hlist : ((s.groupsReturned carried).groups.map Group.returned) = s.groups.groups.map Group.returned :=
    List.ext_getElem (by simp [State.groupsReturned]) fun i _ _ => by simp [State.groupsReturned, hentry]
  exact congrArg (fun l => { s.groups with groups := l }) hlist

/-- R137: the groups of a burst that may be outstanding over a list with nothing SENT, by place: `delivered` of the statements. -/
def deliveredUnder (outstanding : Option Burst) (groups : List Group) : List Group :=
  groups.mapIdx fun i e =>
    if e.delivery = .confirmed then e
    else
      { e with
        delivery :=
          match outstanding with
          | some b => if i ∈ b.carried then .sent else .unsent
          | none => .unsent }

/-- R137: with no burst outstanding the entries returned stand. -/
theorem deliveredUnder_none (groups : List Group) : deliveredUnder none groups = groups.map Group.returned := by
  refine List.ext_getElem (by simp [deliveredUnder]) fun i _ _ => ?_
  simp [deliveredUnder, Group.returned_eq]

/-- R125: the first up to 4 entries that are not CONFIRMED. -/
theorem State.returnSent_firstUnsent (s : State) :
    s.returnSent.firstUnsent =
      ((List.range s.groups.groups.length).filter fun i =>
        (s.groups.groups[i]?.map fun e => e.delivery) ≠ some .confirmed).take 4 := by
  have hlen : s.returnSent.groups.groups.length = s.groups.groups.length := by simp [State.returnSent, State.setGroupList]
  rw [State.firstUnsent, hlen]
  refine congrArg (List.take 4) (List.filter_congr fun i hi => ?_)
  have hi' : i < s.groups.groups.length := List.mem_range.1 hi
  have hget : s.returnSent.groups.groups[i]? = some s.groups.groups[i].returned := by
    simp [State.returnSent, State.setGroupList, hi']
  rw [hget, List.getElem?_eq_getElem hi', Option.map_some, Option.map_some, Group.returned_eq]
  split <;> simp [*]

/-- R125: the places a burst takes hold UNSENT entries. -/
theorem State.unsent_of_mem_firstUnsent {s : State} {i : Nat} (h : i ∈ s.firstUnsent) :
    s.groups.groups[i]?.map Group.delivery = some .unsent := by
  have hmem := List.mem_of_mem_take h
  simpa using (List.mem_filter.1 hmem).2

/-- R137: the entries of a burst over returned ones, by place. -/
theorem State.returnSent_groupsSent (s : State) (q : Nat) :
    (s.returnSent.groupsSent s.returnSent.firstUnsent).groups =
      deliveredUnder (some { position := q, carried := s.returnSent.firstUnsent }) s.groups.groups := by
  refine List.ext_getElem (by simp [State.groupsSent, deliveredUnder, State.returnSent, State.setGroupList])
    fun i hi _ => ?_
  have hi' : i < s.groups.groups.length := by
    simpa [State.groupsSent, State.returnSent, State.setGroupList] using hi
  have hget : s.returnSent.groups.groups[i]? = some s.groups.groups[i].returned := by
    simp [State.returnSent, State.setGroupList, hi']
  have hplace (carried : List Nat) (hc : i < (s.returnSent.groupsSent carried).groups.length) :
      (s.returnSent.groupsSent carried).groups[i] =
        if i ∈ carried then { s.groups.groups[i].returned with delivery := .sent } else s.groups.groups[i].returned := by
    simp [State.groupsSent, State.returnSent, State.setGroupList]
  have hunder : (deliveredUnder (some { position := q, carried := s.returnSent.firstUnsent }) s.groups.groups)[i] =
      if s.groups.groups[i].delivery = .confirmed then s.groups.groups[i]
      else { s.groups.groups[i] with delivery := if i ∈ s.returnSent.firstUnsent then .sent else .unsent } := by
    simp [deliveredUnder]
  rw [hplace, hunder, Group.returned_eq]
  by_cases hmem : i ∈ s.returnSent.firstUnsent
  · have hunsent := State.unsent_of_mem_firstUnsent hmem
    rw [hget, Option.map_some, Option.some_inj, Group.returned_eq] at hunsent
    by_cases hconfirmed : s.groups.groups[i].delivery = .confirmed
    · rw [if_pos hconfirmed, hconfirmed] at hunsent
      cases hunsent
    · simp [hmem, hconfirmed]
  · simp [hmem]

/-- R124, R125: what an exchange's burst says of the groups. -/
theorem State.returnSent_groupBurst (s : State) (q : Nat) (kind : BurstKind) (carried : List Nat) :
    s.returnSent.groupBurst q kind carried = s.groupBurst q kind carried := by
  have hid (i : Nat) :
      (match s.returnSent.groups.groups[i]? with
        | some e => be24 e.id.toNat
        | none => []) =
      match s.groups.groups[i]? with
        | some e => be24 e.id.toNat
        | none => [] := by
    have hget : s.returnSent.groups.groups[i]? = s.groups.groups[i]?.map Group.returned := by
      simp [State.returnSent, State.setGroupList]
    rw [hget]
    cases s.groups.groups[i]? with
    | none => rfl
    | some e =>
      simp only [Option.map_some, Group.returned_eq]
      split <;> rfl
  exact congrArg (fun l => FrontEndRecord.burst q kind (BitVec.ofNat 8 carried.length :: l))
    (List.flatMap_congr fun i _ => hid i)

end Sys2Proof.Machine
end

section
/-! SUPPORT. The exchange that begins, contends again or ends (R79, R124, R125), and a record in CONTINUING and in AFFILIATING. -/

namespace Sys2Proof.Machine

/-! ## An exchange begins (R79, R125) -/

/-- R125: the Access Unit as an exchange begins, field by field. -/
theorem State.beginExchange_unit (s : State) (position : Option Nat) :
    ∃ generator backoff,
      (s.beginExchange position).access =
          { s.access.idle with
            state := .affiliating, attemptLimit := s.par .attemptLimit, grantWait := s.par .grantWait
            params := some s.servingParams, sitePosition := position, generator := generator, backoff := backoff }
        ∧ ∀ g, s.access.generator = some g →
            generator = some (generatorStep g)
              ∧ backoff = (generatorStep g).toNat % s.servingParams.window + 1 := by
  obtain ⟨generator, backoff, free, hdraw, hseeded⟩ :=
    (s.setAccess
      { s.access.idle with
        state := .affiliating, attemptLimit := s.par .attemptLimit, grantWait := s.par .grantWait
        params := some s.servingParams, sitePosition := position }).draw_shape
  refine ⟨generator, backoff, ?_, hseeded⟩
  rw [State.beginExchange, hdraw]
  simp

/-- R79: the visit that an exchange abandons, or none. -/
theorem State.exchangeBegins_cases (s : State) :
    s.exchangeBegins = s
      ∨ s.scan.visit ≠ none ∧ s.exchangeBegins = (s.setScan { s.scan with visit := none }).tuneServing := by
  cases hvisit : s.scan.visit with
  | none => exact .inl (by rw [State.exchangeBegins, hvisit])
  | some v =>
    have habandon : s.abandonVisit = (s.setScan { s.scan with visit := none }).tuneServing := by
      rw [State.abandonVisit, hvisit]
    have hcases (hit : Bool) : (if hit then s.abandonVisit else s) = s
        ∨ some v ≠ none ∧ (if hit then s.abandonVisit else s) = (s.setScan { s.scan with visit := none }).tuneServing := by
      cases hit with
      | false => exact .inl rfl
      | true => exact .inr ⟨nofun, habandon⟩
    rw [State.exchangeBegins, hvisit]
    exact hcases _

/-- R79: an exchange that abandons a visit sends TUNE with the serving channel. -/
theorem State.exchangeBegins_frontEnd (s : State) :
    s.exchangeBegins.frontEnd =
      s.frontEnd ++
        (if s.exchangeBegins.scan.visit = s.scan.visit then []
        else (s.serving.map fun i => FrontEndRecord.tune (s.entry i).channel).toList) := by
  obtain hstands | ⟨hvisit, habandoned⟩ := s.exchangeBegins_cases
  · simp [hstands]
  · rw [habandoned, State.tuneServing_eq, if_neg (by simpa using Ne.symm hvisit)]
    rfl

/-- R79, R125: what the beginning of an exchange sends. -/
theorem State.beginExchange_frontEnd (s : State) (position : Option Nat) :
    (s.beginExchange position).frontEnd =
      s.frontEnd ++
        (if (s.beginExchange position).scan.visit = s.scan.visit then []
        else (s.serving.map fun i => FrontEndRecord.tune (s.entry i).channel).toList) := by
  rw [State.beginExchange, State.exchangeBegins_frontEnd]
  have hserving : (s.setAccess
      { s.access.idle with
        state := .affiliating, attemptLimit := s.par .attemptLimit, grantWait := s.par .grantWait
        params := some s.servingParams, sitePosition := position }).draw.serving = s.serving :=
    State.serving_congr (by simp)
  have hentry : (s.setAccess
      { s.access.idle with
        state := .affiliating, attemptLimit := s.par .attemptLimit, grantWait := s.par .grantWait
        params := some s.servingParams, sitePosition := position }).draw.entry = s.entry :=
    State.entry_congr (by simp)
  simp [hserving, hentry]

/-- R79: the slot count of an exchange that begins. -/
theorem State.beginExchange_slots (s : State) (position : Option Nat) :
    (s.beginExchange position).slots = s.servingParams.slots := by
  obtain ⟨generator, backoff, hunit, -⟩ := s.beginExchange_unit position
  rw [State.slots, hunit]

/-- R116, R125: what stands and what moves of the Access Unit as an AFFILIATE burst is sent, where one is due. -/
theorem State.sendIfDue_unit {s : State} (hst : s.access.state = .affiliating) (hout : s.access.outstanding = none) :
    ∃ outstanding,
      s.sendIfDue.access =
        { s.access with
          attempts := s.access.attempts + (if outstanding = none then 0 else 1), outstanding := outstanding }
        ∧ (outstanding = none → s.sendIfDue = s) := by
  rw [State.sendIfDue_affiliate hout hst]
  cases s.dueNow with
  | none => exact ⟨none, by simp [← hout], fun _ => rfl⟩
  | some q => exact ⟨some { position := q, carried := s.firstUnsent }, rfl, nofun⟩

/-- R125: an exchange that begins, with the burst it may send at once. -/
theorem State.beginExchange_sent (s : State) (position : Option Nat) :
    let t := (s.beginExchange position).sendIfDue
    t.access.state = .affiliating ∧ t.access.awaitingAck = false ∧ t.access.params = some s.servingParams
      ∧ t.access.attemptLimit = s.par .attemptLimit ∧ t.access.grantWait = s.par .grantWait
      ∧ t.access.sitePosition = position ∧ t.access.attempts = (if t.access.outstanding = none then 0 else 1)
      ∧ ∀ g, s.access.generator = some g → t.access.generator = some (generatorStep g) := by
  intro t
  obtain ⟨generator, backoff, hunit, hseeded⟩ := s.beginExchange_unit position
  obtain ⟨outstanding, hsent, -⟩ :=
    State.sendIfDue_unit (s := s.beginExchange position) (by rw [hunit]) (by rw [hunit]; rfl)
  have ht : t.access = _ := hsent
  rw [ht, hunit]
  exact ⟨rfl, rfl, rfl, rfl, rfl, rfl, Nat.zero_add _, fun g hg => (hseeded g hg).1⟩

/-! ## The wait that runs out (R124, R125, R137) -/

/-- R137: what a wait that runs out delivers, as the statements say it. -/
def State.deliversTo (s t : State) : Prop :=
  t.groups = { s.groups with groups := deliveredUnder t.access.outstanding s.groups.groups }
    ∧ ∀ b, t.access.outstanding = some b →
        b.carried =
          ((List.range s.groups.groups.length).filter fun i =>
            (s.groups.groups[i]?.map fun e => e.delivery) ≠ some .confirmed).take 4

/-- R137: with no burst outstanding every entry that is not CONFIRMED is UNSENT. -/
theorem State.deliversTo_of_returned {s t : State} (hgroups : t.groups = s.groupsAllReturned)
    (hout : t.access.outstanding = none) : s.deliversTo t := by
  refine ⟨?_, fun b hb => by simp [hout] at hb⟩
  rw [hgroups, hout, deliveredUnder_none]
  rfl

/-- R116, R125: the contention that follows a wait that runs out, as the statements say it. -/
def State.contendsAgain (s t : State) (window slots attempts limit : Nat) (before : List FrontEndRecord) : Prop :=
  t.access.state = .affiliating ∧ t.access.awaitingAck = false
    ∧ t.access.attempts = attempts + (if t.access.outstanding = none then 0 else 1)
    ∧ (∀ g, s.access.generator = some g →
        t.access.generator = some (generatorStep g) ∧ t.access.backoff = (generatorStep g).toNat % window + 1)
    ∧ t.access.outstanding.map Burst.position = s.burstDue t.access.backoff slots attempts limit
    ∧ t.frontEnd =
        before ++ (t.access.outstanding.map fun b => s.groupBurst b.position .affiliate b.carried).toList

/-- R125: `d` is the state of an exchange that has made its draw after `s`'s wait ran out, every SENT entry returned. -/
structure State.Redrawn (s d : State) (window slots attempts limit : Nat) (before : List FrontEndRecord) : Prop where
  affiliating : d.access.state = .affiliating
  noWait : d.access.awaitingAck = false
  noBurst : d.access.outstanding = none
  groups : d.groups = s.returnSent.groups
  position : d.access.sitePosition = s.access.sitePosition
  attempts : d.access.attempts = attempts
  limit : d.access.attemptLimit = limit
  slots : d.slots = slots
  frontEnd : d.frontEnd = before
  seeded : ∀ g, s.access.generator = some g →
    d.access.generator = some (generatorStep g) ∧ d.access.backoff = (generatorStep g).toNat % window + 1

section Redrawn

variable {s d : State} {window slots attempts limit : Nat} {before : List FrontEndRecord}
  (h : s.Redrawn d window slots attempts limit before)
include h

/-- R125: the burst that is due after the draw. -/
theorem State.Redrawn.dueNow_eq : d.dueNow = s.burstDue d.access.backoff slots attempts limit := by
  rw [State.dueNow, State.burstDue, h.position, h.slots, h.attempts, h.limit, State.burstDue]

/-- R125: the entries the burst takes. -/
theorem State.Redrawn.firstUnsent_eq : d.firstUnsent = s.returnSent.firstUnsent := by
  rw [State.firstUnsent, h.groups, State.firstUnsent]

/-- R125: the burst on the Front-End Link. -/
theorem State.Redrawn.groupBurst_eq (q : Nat) (carried : List Nat) :
    d.groupBurst q .affiliate carried = s.groupBurst q .affiliate carried := by
  rw [← State.returnSent_groupBurst s, State.groupBurst, h.groups, State.groupBurst]

/-- R116, R125, R137: the exchange contends again after its draw. -/
theorem State.Redrawn.contends : s.deliversTo d.sendIfDue ∧ s.contendsAgain d.sendIfDue window slots attempts limit before := by
  rw [State.sendIfDue_affiliate h.noBurst h.affiliating]
  have hdue := h.dueNow_eq
  cases hnow : d.dueNow with
  | none =>
    rw [hnow] at hdue
    rw [Option.elim_none]
    refine ⟨State.deliversTo_of_returned h.groups h.noBurst, h.affiliating, h.noWait, ?_, h.seeded, ?_, ?_⟩
    · simp [h.attempts, h.noBurst]
    · rw [h.noBurst, ← hdue]
      rfl
    · simp [h.frontEnd, h.noBurst]
  | some q =>
    rw [hnow] at hdue
    rw [Option.elim_some]
    have hout : (d.affiliateSent q).access.outstanding = some { position := q, carried := s.returnSent.firstUnsent } := by
      rw [← h.firstUnsent_eq]
      rfl
    refine ⟨⟨?_, fun b hb => ?_⟩, h.affiliating, h.noWait, ?_, h.seeded, ?_, ?_⟩
    · have hgroups : (d.affiliateSent q).groups = s.returnSent.groupsSent s.returnSent.firstUnsent := by
        rw [← h.firstUnsent_eq, State.groupsSent, ← h.groups]
        rfl
      rw [hgroups, hout, ← State.returnSent_groupsSent]
      rfl
    · rw [hout] at hb
      cases hb
      exact s.returnSent_firstUnsent
    · rw [hout, if_neg nofun, ← h.attempts]
      rfl
    · rw [hout]
      exact hdue
    · have hfront : (d.affiliateSent q).frontEnd = before ++ [s.groupBurst q .affiliate s.returnSent.firstUnsent] := by
        rw [← h.frontEnd, ← h.firstUnsent_eq, ← h.groupBurst_eq]
        rfl
      rw [hfront, hout]
      rfl

end Redrawn

/-- R125: the exchange whose wait has run out, with attempts left. -/
def State.ackLapsed (s : State) : State := s.returnSent.setAccess { s.access with awaitingAck := false, wait := 0 }

/-- R125: an exchange contends again by its groups. -/
theorem State.contendAgain_eq (s : State) :
    s.contendAgain = if s.anyUnsent then s.draw.sendIfDue else s.draw.accessIdle := by
  have hgroups : s.draw.anyUnsent = s.anyUnsent := by simp [State.anyUnsent]
  rw [State.contendAgain, hgroups]

/-- R125: the draw after the wait of an exchange has run out. -/
theorem State.ackLapsed_redrawn {s : State} (hst : s.access.state = .affiliating) (hout : s.access.outstanding = none) :
    s.Redrawn s.ackLapsed.draw s.window s.slots s.access.attempts s.access.attemptLimit s.frontEnd := by
  obtain ⟨generator, backoff, free, hdraw, hseeded⟩ := s.ackLapsed.draw_shape
  rw [hdraw]
  exact ⟨hst, rfl, hout, rfl, rfl, rfl, rfl, rfl, rfl, hseeded⟩

/-- R124, R125: the draw as an exchange begins once the wait of the continuation has run out. -/
theorem State.continuation_redrawn (s : State) :
    let d := s.countWait.returnSent.beginExchange s.access.sitePosition
    s.Redrawn d s.servingParams.window s.servingParams.slots 0 (s.par .attemptLimit)
      (s.frontEnd ++
        (if d.scan.visit = s.scan.visit then []
        else (s.serving.map fun i => FrontEndRecord.tune (s.entry i).channel).toList)) := by
  intro d
  obtain ⟨generator, backoff, hunit, hseeded⟩ := s.countWait.returnSent.beginExchange_unit s.access.sitePosition
  have hd : d.access = _ := hunit
  have hgroups : d.groups = s.returnSent.groups := by simp [d, State.returnSent_eq]; rfl
  exact ⟨by rw [hd], by rw [hd]; rfl, by rw [hd]; rfl, hgroups, by rw [hd], by rw [hd]; rfl, by rw [hd]; rfl,
    State.beginExchange_slots _ _, State.beginExchange_frontEnd _ _, by rw [hd]; exact hseeded⟩

end Sys2Proof.Machine
end

section
/-! SUPPORT. One record in CONTINUING and in AFFILIATING, and the rows of the wait for AFFIL ACK (R114, R116, R118, R124, R125,
R137). -/

namespace Sys2Proof.Machine

/-! ## The end of the group work (R124) -/

/-- R124: where the group work of a record ends, as the statements say it. -/
def State.workEnds (s t : State) : Prop :=
  (¬(∃ e ∈ s.groups.groups, e.delivery = .unsent) →
      t.access.state = .idle ∧ t.access.outstanding = none ∧ t.groups = s.groups ∧ t.frontEnd = s.frontEnd)
    ∧ ((∃ e ∈ s.groups.groups, e.delivery = .unsent) →
        t.access.state = .affiliating ∧ t.access.awaitingAck = false
          ∧ t.access.attempts = (if t.access.outstanding = none then 0 else 1)
          ∧ (∀ g, s.access.generator = some g → t.access.generator = some (generatorStep g)))
    ∧ t.table = s.table ∧ t.roam = s.roam ∧ t.host = s.host

/-- R124, R125: the group work of a record ends in IDLE or in an exchange. -/
theorem State.affiliateOrIdle_workEnds (s : State) : s.workEnds s.affiliateOrIdle := by
  refine ⟨fun hnone => ?_, fun hsome => ?_, by simp, by simp, by simp⟩
  · rw [State.affiliateOrIdle, if_neg (mt s.anyUnsent_iff.1 hnone)]
    exact ⟨rfl, rfl, rfl, rfl⟩
  · rw [State.affiliateOrIdle, if_pos (s.anyUnsent_iff.2 hsome)]
    obtain ⟨hstate, hack, -, -, -, -, hattempts, hgen⟩ := s.beginExchange_sent s.access.sitePosition
    exact ⟨hstate, hack, hattempts, hgen⟩

/-! ## A record in CONTINUING (R124) -/

section Waiting

variable {s : State} {input : AccessInput} (hwaiting : s.access.awaitingAck = true)
include hwaiting

/-- R124: an AFFIL ACK ends the wait of the continuation. -/
theorem State.continueRecord_of_ack (hack : input.ack = true) : s.continueRecord input = s.affiliateOrIdle := by
  rw [State.continueRecord, if_pos hwaiting, if_pos hack]

/-- R124: the wait of the continuation counts a frame. -/
theorem State.continueRecord_of_wait (hack : input.ack = false) (hwait : s.access.wait + 1 < s.access.grantWait) :
    s.continueRecord input = s.countWait := by
  rw [State.continueRecord, if_pos hwaiting, if_neg (by simp [hack])]
  exact if_neg (Nat.not_le.2 hwait)

/-- R125: an AFFIL ACK ends the wait of an exchange. -/
theorem State.affiliateRecord_of_ack (hack : input.ack = true) : s.affiliateRecord input = s.affiliateOrIdle := by
  rw [State.affiliateRecord, if_pos hwaiting, if_pos hack]

/-- R125: the wait of an exchange counts a frame. -/
theorem State.affiliateRecord_of_wait (hack : input.ack = false) (hwait : s.access.wait + 1 < s.access.grantWait) :
    s.affiliateRecord input = s.countWait := by
  rw [State.affiliateRecord, if_pos hwaiting, if_neg (by simp [hack])]
  exact if_neg (Nat.not_le.2 hwait)

end Waiting

/-- R124: a record of the continuation outside the wait, by the reserved occurrences and the site position. -/
theorem State.continueRecord_of_no_wait {s : State} (input : AccessInput) (hwaiting : s.access.awaitingAck = false) :
    s.continueRecord input =
      if s.access.reserved = 0 then s.beginAckWait
      else if s.access.sitePosition = some 0 then
        if s.anyUnsent then s.sendContinue else if s.access.burstSent then s.beginAckWait else s.affiliateOrIdle
      else s := by
  rw [State.continueRecord, if_neg (by simp [hwaiting])]

/-- R124: the CONTINUE burst of a reserved occurrence. -/
theorem State.sendContinue_eq (s : State) :
    s.sendContinue =
      { s with
        access :=
          { s.access with
            reserved := s.access.reserved - 1, burstSent := true
            outstanding := some { position := 1, carried := s.firstUnsent } }
        groups := s.groupsSent s.firstUnsent
        frontEnd := s.frontEnd ++ [s.groupBurst 1 .continuation s.firstUnsent] } := by
  rw [State.sendContinue, State.sendGroups_eq]
  rfl

/-! ## A record in AFFILIATING (R116, R118, R125) -/

/-- R116, R125: a record with no burst outstanding. -/
theorem State.affiliateRecord_counting {s : State} (input : AccessInput) (hwaiting : s.access.awaitingAck = false)
    (hout : s.access.outstanding = none) :
    s.affiliateRecord input = if s.anyUnsent then s.countdown else s.accessIdle := by
  rw [State.affiliateRecord, if_neg (by simp [hwaiting]), hout]

/-- R116, R125: the countdown of an exchange. -/
theorem State.countdown_affiliate {s : State} (hst : s.access.state = .affiliating) (hout : s.access.outstanding = none) :
    let counted := s.setAccess { s.access with backoff := s.backoffCounted }
    s.countdown = counted.dueNow.elim counted counted.affiliateSent := by
  intro counted
  rw [State.countdown, State.countSlot_eq, State.sendIfDue_affiliate (s := counted) hout hst]

section Echo

variable {s : State} {b : Burst} {input : AccessInput} (hwaiting : s.access.awaitingAck = false)
  (hout : s.access.outstanding = some b)
include hwaiting hout

/-- R118: the burst's slot or the record before it. -/
theorem State.affiliateRecord_before_echo (h : s.judgesEcho b = false) : s.affiliateRecord input = s := by
  simp [State.affiliateRecord, hwaiting, hout, h]

variable (hj : s.judgesEcho b = true)
include hj

/-- R118, R125: WON, and the wait for AFFIL ACK begins. -/
theorem State.affiliateRecord_won (h : s.judgeEcho b input = .won) :
    s.affiliateRecord input = s.setAccess { s.access with outstanding := none, awaitingAck := true, wait := 0 } := by
  simp [State.affiliateRecord, hwaiting, hout, hj, h]
  rfl

/-- R118, R125: LOST. -/
theorem State.affiliateRecord_lost (h : s.judgeEcho b input = .lost) : s.affiliateRecord input = s.affiliateLost b := by
  simp [State.affiliateRecord, hwaiting, hout, hj, h]

/-- R118, R125: LOST to another radio. -/
theorem State.affiliateRecord_collided (h : s.judgeEcho b input = .collided) :
    s.affiliateRecord input = s.countCollision.affiliateLost b := by
  simp [State.affiliateRecord, hwaiting, hout, hj, h]

end Echo

/-- R118, R125, R137: where a LOST burst of an exchange leads, as the statements say it. -/
def State.losesExchangeBurst (s : State) (b : Burst) (t : State) (collisions : Nat) : Prop :=
  t.access.collisions = collisions
    ∧ (s.access.attemptLimit ≤ s.access.attempts →
        t.access.state = .idle ∧ t.groups = s.groupsAllReturned ∧ t.frontEnd = s.frontEnd
          ∧ t.access.generator = s.access.generator)
    ∧ (s.access.attempts < s.access.attemptLimit →
        (∀ g, s.access.generator = some g → t.access.generator = some (generatorStep g))
          ∧ (if ∀ e ∈ (s.groupsReturned b.carried).groups, e.delivery ≠ .unsent then
              t.access.state = .idle ∧ t.groups = s.groupsReturned b.carried ∧ t.frontEnd = s.frontEnd
            else
              t.access.state = .affiliating
                ∧ t.access.attempts = s.access.attempts + (if t.access.outstanding = none then 0 else 1)
                ∧ (t.access.outstanding = none → t.groups = s.groupsReturned b.carried ∧ t.frontEnd = s.frontEnd)))

/-- R118, R125: a LOST burst of an exchange, by the attempts left. -/
theorem State.affiliateLost_eq (s : State) (b : Burst) (collisions : Nat) :
    (s.setAccess { s.access with collisions := collisions }).affiliateLost b =
      if s.access.attemptLimit ≤ s.access.attempts then (s.burstCleared b collisions).returnSent.accessIdle
      else (s.burstCleared b collisions).contendAgain := by
  have hlost : (s.setAccess { s.access with collisions := collisions }).burstLost b = s.burstCleared b collisions :=
    State.burstLost_eq _ b
  rw [State.affiliateLost, hlost]
  rfl

/-- R125, R137: the exchange that a LOST burst leaves contends again, or ends with no entry UNSENT (log 46). -/
theorem State.burstCleared_contendAgain {s : State} (b : Burst) (collisions : Nat) (hst : s.access.state = .affiliating) :
    let t := (s.burstCleared b collisions).contendAgain
    t.access.collisions = collisions
      ∧ (∀ g, s.access.generator = some g → t.access.generator = some (generatorStep g))
      ∧ (if ∀ e ∈ (s.groupsReturned b.carried).groups, e.delivery ≠ .unsent then
          t.access.state = .idle ∧ t.groups = s.groupsReturned b.carried ∧ t.frontEnd = s.frontEnd
        else
          t.access.state = .affiliating
            ∧ t.access.attempts = s.access.attempts + (if t.access.outstanding = none then 0 else 1)
            ∧ (t.access.outstanding = none → t.groups = s.groupsReturned b.carried ∧ t.frontEnd = s.frontEnd)) := by
  obtain ⟨generator, backoff, free, hdraw, hseeded⟩ := (s.burstCleared b collisions).draw_shape
  have hunsent : (s.burstCleared b collisions).anyUnsent = true ↔
      ¬∀ e ∈ (s.groupsReturned b.carried).groups, e.delivery ≠ .unsent := by
    rw [State.anyUnsent_iff]
    simp [State.burstCleared]
  intro t
  have ht : t = _ := State.contendAgain_eq (s.burstCleared b collisions)
  rw [hdraw] at ht
  by_cases hnone : ∀ e ∈ (s.groupsReturned b.carried).groups, e.delivery ≠ .unsent
  · rw [if_neg (not_not.2 hnone ∘ hunsent.1)] at ht
    rw [if_pos hnone, ht]
    exact ⟨rfl, fun g hg => (hseeded g hg).1, rfl, rfl, rfl⟩
  · rw [if_pos (hunsent.2 hnone)] at ht
    rw [if_neg hnone, ht]
    obtain ⟨outstanding, hunit, hstands⟩ := State.sendIfDue_unit
      (s := ((s.burstCleared b collisions).setAccess
        { (s.burstCleared b collisions).access with generator := generator, backoff := backoff }).setFree free) hst rfl
    rw [hunit]
    exact ⟨rfl, fun g hg => (hseeded g hg).1, hst, rfl, fun hout => by rw [hstands hout]; exact ⟨rfl, rfl⟩⟩

/-- R118, R125, R137: where a LOST burst of an exchange leads. -/
theorem State.affiliateLost_losesExchangeBurst {s : State} (b : Burst) (collisions : Nat)
    (hst : s.access.state = .affiliating) :
    s.losesExchangeBurst b ((s.setAccess { s.access with collisions := collisions }).affiliateLost b) collisions := by
  rw [State.affiliateLost_eq]
  by_cases hleft : s.access.attemptLimit ≤ s.access.attempts
  · rw [if_pos hleft]
    refine ⟨rfl, fun _ => ⟨rfl, ?_, rfl, rfl⟩, fun h => absurd hleft (Nat.not_le.2 h)⟩
    exact s.returnSent_of_returned b.carried
  · rw [if_neg hleft]
    obtain ⟨hcollisions, hgen, hends⟩ := State.burstCleared_contendAgain b collisions hst
    exact ⟨hcollisions, fun h => absurd h hleft, fun _ => ⟨hgen, hends⟩⟩

/-! ## The rows (R124, R125) -/

section Row

variable {s : State} (hsup : s.pins.supply = .running) (hwaiting : s.access.awaitingAck = true)
  (hwait : s.access.grantWait ≤ s.access.wait + 1)
include hsup hwaiting hwait

/-- R124: the row of the wait in continuation. -/
theorem exec_affilAckWaitTimeout_continuing (hst : s.access.state = .continuing) :
    exec .affilAckWaitTimeout s = .next s.countWait.continueTimeout := by
  refine congrArg Host.Outcome.next ((whileRunning_of_running hsup).trans ?_)
  rw [State.affilAckWaitTimeout, if_pos ⟨hwaiting, hwait⟩, hst]

/-- R125: the row of the wait in an exchange. -/
theorem exec_affilAckWaitTimeout_affiliating (hst : s.access.state = .affiliating) :
    exec .affilAckWaitTimeout s =
      .next (if s.access.attempts < s.access.attemptLimit then s.ackLapsed.contendAgain else s.returnSent.accessIdle) := by
  refine congrArg Host.Outcome.next ((whileRunning_of_running hsup).trans ?_)
  rw [State.affilAckWaitTimeout, if_pos ⟨hwaiting, hwait⟩, hst]
  rfl

end Row

end Sys2Proof.Machine
end

section
/-! PROOFS. The wait for AFFIL ACK, continuation and the affiliation exchange (O60). -/

namespace Sys2Proof.Proofs

open Sys2Proof Sys2Proof.Machine

/-- R125, R137: the wait of an exchange that runs out with attempts left. -/
theorem ackLapsed_contends {s : State} (hst : s.access.state = .affiliating) (hout : s.access.outstanding = none) :
    let t := s.ackLapsed.contendAgain
    s.deliversTo t
      ∧ (if ∀ e ∈ s.groups.groups, e.delivery = .confirmed then
          t.access.state = .idle ∧ t.access.outstanding = none ∧ t.frontEnd = s.frontEnd
            ∧ ∀ g, s.access.generator = some g → t.access.generator = some (generatorStep g)
        else s.contendsAgain t s.window s.slots s.access.attempts s.access.attemptLimit s.frontEnd) := by
  have hredrawn := State.ackLapsed_redrawn hst hout
  have hunsent : s.ackLapsed.anyUnsent = true ↔ ¬∀ e ∈ s.groups.groups, e.delivery = .confirmed := s.returnSent_anyUnsent
  rw [State.contendAgain_eq]
  by_cases hall : ∀ e ∈ s.groups.groups, e.delivery = .confirmed
  · rw [if_neg (not_not.2 hall ∘ hunsent.1)]
    intro t
    rw [if_pos hall]
    exact ⟨State.deliversTo_of_returned hredrawn.groups rfl, rfl, rfl,
      hredrawn.frontEnd, fun g hg => (hredrawn.seeded g hg).1⟩
  · rw [if_pos (hunsent.2 hall)]
    intro t
    rw [if_neg hall]
    exact hredrawn.contends

/-- R124, R125, R137: the wait of the continuation that runs out. -/
theorem continueTimeout_contends (s : State) :
    let t := s.countWait.continueTimeout
    s.deliversTo t
      ∧ (if ∀ e ∈ s.groups.groups, e.delivery = .confirmed then
          t.access.state = .idle ∧ t.access.outstanding = none ∧ t.access.generator = s.access.generator
            ∧ t.scan = s.scan ∧ t.frontEnd = s.frontEnd
        else
          s.contendsAgain t s.servingParams.window s.servingParams.slots 0 (s.par .attemptLimit)
            (s.frontEnd ++
              (if t.scan.visit = s.scan.visit then []
              else (s.serving.map fun i => FrontEndRecord.tune (s.entry i).channel).toList))) := by
  have hunsent : s.countWait.returnSent.anyUnsent = true ↔ ¬∀ e ∈ s.groups.groups, e.delivery = .confirmed :=
    s.returnSent_anyUnsent
  rw [State.continueTimeout, State.affiliateOrIdle]
  by_cases hall : ∀ e ∈ s.groups.groups, e.delivery = .confirmed
  · rw [if_neg (not_not.2 hall ∘ hunsent.1)]
    intro t
    rw [if_pos hall]
    exact ⟨State.deliversTo_of_returned rfl rfl, rfl, rfl, rfl, rfl, rfl⟩
  · rw [if_pos (hunsent.2 hall)]
    intro t
    rw [if_neg hall]
    have hscan : t.scan = (s.countWait.returnSent.beginExchange s.access.sitePosition).scan := by
      simp [t]
      rfl
    rw [hscan]
    exact s.continuation_redrawn.contends

/-- R118, R125: a record of an exchange with a burst outstanding. -/
theorem affiliateRecord_outstanding {s : State} {b : Burst} {p : Nat} (input : AccessInput)
    (hst : s.access.state = .affiliating) (hwaiting : s.access.awaitingAck = false)
    (hout : s.access.outstanding = some b) (hp : s.access.sitePosition = some p) :
    let t := s.affiliateRecord input
    let echo : Prop := p = (b.position + 1) % 16 ∧ input.sync = true
    (p = b.position ∨ (p + 1) % 16 = b.position → t = s)
      ∧ (p ≠ b.position → (p + 1) % 16 ≠ b.position →
          (¬echo ∨ input.echo = none → s.losesExchangeBurst b t s.access.collisions)
            ∧ (echo → ∀ radio slot, input.echo = some (radio, slot) →
                (s.groups.identity = some radio → slot = (b.position - 1) / 2 →
                  t = s.setAccess { s.access with outstanding := none, awaitingAck := true, wait := 0 })
                ∧ (s.groups.identity = some radio → slot ≠ (b.position - 1) / 2 →
                    s.losesExchangeBurst b t s.access.collisions)
                ∧ (s.groups.identity ≠ some radio →
                    s.losesExchangeBurst b t (min (s.access.collisions + 1) 65535)))) := by
  intro t echo
  have hlost (collisions : Nat)
      (h : t = (s.setAccess { s.access with collisions := collisions }).affiliateLost b) :
      s.losesExchangeBurst b t collisions := by
    rw [h]
    exact State.affiliateLost_losesExchangeBurst b collisions hst
  refine ⟨fun hbefore => ?_, fun hslot hbefore => ?_⟩
  · refine State.affiliateRecord_before_echo hwaiting hout (Bool.eq_false_iff.2 fun hj => ?_)
    obtain ⟨hslot, hnext⟩ := (State.judgesEcho_iff hp).1 hj
    exact hbefore.elim hslot hnext
  have hj : s.judgesEcho b = true := (State.judgesEcho_iff hp).2 ⟨hslot, hbefore⟩
  refine ⟨fun h => hlost _ (State.affiliateRecord_lost hwaiting hout hj ?_), fun hecho radio slot hblock => ?_⟩
  · by_cases hecho : echo
    · exact State.judgeEcho_of_nothing hp hecho (h.resolve_left (not_not.2 hecho)) (.inl hst)
    · exact State.judgeEcho_of_no_echo hp hecho
  · have hjudged := State.judgeEcho_of_block hp hecho hblock
    refine ⟨fun hid hs => ?_, fun hid hs => ?_, fun hid => ?_⟩
    · rw [if_pos hid, if_pos hs] at hjudged
      exact State.affiliateRecord_won hwaiting hout hj hjudged
    · rw [if_pos hid, if_neg hs] at hjudged
      exact hlost _ (State.affiliateRecord_lost hwaiting hout hj hjudged)
    · rw [if_neg hid] at hjudged
      exact hlost _ (State.affiliateRecord_collided hwaiting hout hj hjudged)

/-- R124: a record of the continuation outside the wait. -/
theorem continueRecord_no_wait {s : State} (input : AccessInput) (hwaiting : s.access.awaitingAck = false) :
    let t := s.continueRecord input
    (s.access.reserved = 0 → t = s.beginAckWait)
      ∧ (s.access.reserved ≠ 0 → s.access.sitePosition ≠ some 0 → t = s)
      ∧ (s.access.reserved ≠ 0 → s.access.sitePosition = some 0 →
          ((∃ e ∈ s.groups.groups, e.delivery = .unsent) → t = s.sendContinue)
            ∧ (¬(∃ e ∈ s.groups.groups, e.delivery = .unsent) → s.access.burstSent = true → t = s.beginAckWait)
            ∧ (¬(∃ e ∈ s.groups.groups, e.delivery = .unsent) → s.access.burstSent = false → s.workEnds t)) := by
  rw [State.continueRecord_of_no_wait input hwaiting]
  refine ⟨fun hzero => if_pos hzero, fun hleft hp => ?_, fun hleft hp => ?_⟩
  · rw [if_neg hleft, if_neg hp]
  · rw [if_neg hleft, if_pos hp]
    refine ⟨fun hsome => if_pos (s.anyUnsent_iff.2 hsome), fun hnone hsent => ?_, fun hnone hsent => ?_⟩
    · rw [if_neg (mt s.anyUnsent_iff.1 hnone), if_pos hsent]
    · rw [if_neg (mt s.anyUnsent_iff.1 hnone), if_neg (by simp [hsent])]
      exact s.affiliateOrIdle_workEnds

/-- R116, R125: a record of an exchange with no burst outstanding. -/
theorem affiliateRecord_no_burst {s : State} (input : AccessInput) (hst : s.access.state = .affiliating)
    (hwaiting : s.access.awaitingAck = false) (hout : s.access.outstanding = none) :
    let t := s.affiliateRecord input
    let counted := s.setAccess { s.access with backoff := s.backoffCounted }
    (¬(∃ e ∈ s.groups.groups, e.delivery = .unsent) →
        t.access.state = .idle ∧ t.groups = s.groups ∧ t.frontEnd = s.frontEnd)
      ∧ ((∃ e ∈ s.groups.groups, e.delivery = .unsent) →
          t = counted.dueNow.elim counted counted.affiliateSent) := by
  rw [State.affiliateRecord_counting input hwaiting hout]
  refine ⟨fun hnone => ?_, fun hsome => ?_⟩
  · rw [if_neg (mt s.anyUnsent_iff.1 hnone)]
    exact ⟨rfl, rfl, rfl⟩
  · rw [if_pos (s.anyUnsent_iff.2 hsome), State.countdown_affiliate hst hout]

/-- Settles O60: the wait that runs out, a record in CONTINUING and in AFFILIATING, and the record that begins an exchange. -/
theorem affilAckWaitRunsOut : Obligations.AffilAckWaitRunsOut := by
  refine ⟨fun s hsup hwaiting hwait => ?_, fun s input => ?_, fun s engine multiframe => ?_, fun s r engine input => ?_⟩
  · intro delivered contends
    refine ⟨fun hst hnone => ?_, fun hst hleft hout => ?_, fun hst => ?_⟩
    · refine ⟨_, (exec_affilAckWaitTimeout_affiliating hsup hwaiting hwait hst).trans
        (congrArg Host.Outcome.next (if_neg (Nat.not_lt.2 hnone))), ?_⟩
      exact ⟨rfl, rfl, rfl, rfl, rfl, rfl, rfl, rfl, rfl⟩
    · obtain ⟨hdelivered, hends⟩ := ackLapsed_contends hst hout
      refine ⟨s.ackLapsed.contendAgain, (exec_affilAckWaitTimeout_affiliating hsup hwaiting hwait hst).trans
        (congrArg Host.Outcome.next (if_pos hleft)), hdelivered, hends, ?_⟩
      simp [State.ackLapsed]
    · obtain ⟨hdelivered, hends⟩ := continueTimeout_contends s
      refine ⟨s.countWait.continueTimeout, exec_affilAckWaitTimeout_continuing hsup hwaiting hwait hst, hdelivered, hends, ?_⟩
      simp
  · intro unsent counted waits ended
    refine ⟨fun hst => ?_, fun hst => ?_⟩
    · intro t
      refine ⟨fun hwaiting => ⟨fun hack => ?_, fun hack hwait => State.continueRecord_of_wait hwaiting hack hwait⟩,
        fun hwaiting => ?_⟩
      · have ht : t = s.affiliateOrIdle := State.continueRecord_of_ack hwaiting hack
        rw [ht]
        exact s.affiliateOrIdle_workEnds
      obtain ⟨hzero, haway, hoccurrence⟩ := continueRecord_no_wait input hwaiting
      refine ⟨hzero, haway, fun hleft hp => ?_⟩
      obtain ⟨hsome, hbegins, hends⟩ := hoccurrence hleft hp
      exact ⟨fun h => (hsome h).trans s.sendContinue_eq, hbegins, hends⟩
    · intro t
      refine ⟨fun hwaiting => ⟨fun hack => ?_, fun hack hwait => State.affiliateRecord_of_wait hwaiting hack hwait⟩,
        fun hwaiting hout => ?_, fun hwaiting b hout => ⟨fun hp => ?_, fun p hp => ?_⟩⟩
      · have ht : t = s.affiliateOrIdle := State.affiliateRecord_of_ack hwaiting hack
        rw [ht]
        exact s.affiliateOrIdle_workEnds
      · obtain ⟨hnone, hsome⟩ := affiliateRecord_no_burst input hst hwaiting hout
        refine ⟨hnone, fun h => ?_⟩
        intro count
        have hdue : (s.setAccess { s.access with backoff := s.backoffCounted }).dueNow =
            s.burstDue count s.slots s.access.attempts s.access.attemptLimit := rfl
        refine Eq.trans (hsome h) ?_
        rw [hdue]
        cases s.burstDue count s.slots s.access.attempts s.access.attemptLimit <;> rfl
      · exact State.affiliateRecord_before_echo hwaiting hout (by rw [State.judgesEcho, hp])
      · exact affiliateRecord_outstanding input hst hwaiting hout hp
  · refine ⟨fun hm he hsome => ?_, fun hno => ?_⟩
    · intro t
      have ht : t = (s.beginExchange s.positionFromIdle).sendIfDue := if_pos ⟨hm, he, s.anyUnsent_iff.2 hsome⟩
      obtain ⟨hstate, -, hparams, hlimit, hgrant, hposition, hattempts, -⟩ := s.beginExchange_sent s.positionFromIdle
      rw [ht]
      exact ⟨hstate, hparams, hlimit, hgrant, hposition, hattempts, by simp, by simp, by simp⟩
    · exact if_neg fun hc => hno ⟨hc.1, hc.2.1, s.anyUnsent_iff.1 hc.2.2⟩
  · intro moved
    refine ⟨fun hcamped hregistering => ?_, fun he => ⟨fun hst => ?_, fun hst => ?_, fun hst => ?_⟩⟩
    · cases he : s.roam.engine with
      | camped => exact absurd he hcamped
      | registering => exact absurd he hregistering
      | stopped | hunt | direct => rw [State.accessRecord, he]
    · rw [State.accessRecord, he, hst]
      rfl
    · rw [State.accessRecord, he, hst]
      rfl
    · rw [State.accessRecord, he, hst]

end Sys2Proof.Proofs
end

section
/-! SUPPORT. The parts of SET GROUPS and their assembly (12.4.1, R136, R167). -/

namespace Sys2Proof.Machine

/-! ## The head of a part (12.4.1) -/

/-- 12.4.1: the head byte of a part that is not final. -/
theorem partHead_open : ∀ n < 8, bits (BitVec.ofNat 8 n) 0 3 = n ∧ flag (BitVec.ofNat 8 n) 7 = false := by decide

/-- 12.4.1: the head byte of a final part. -/
theorem partHead_final :
    ∀ n < 8, bits (BitVec.ofNat 8 (128 + n)) 0 3 = n ∧ flag (BitVec.ofNat 8 (128 + n)) 7 = true := by decide

section Command

variable {s : State} {f : HostFrame} {n : Nat} {pairs : List GroupPair}

/-- R136, R167: SET GROUPS of up to 6 pairs is handled as the part its head byte names. -/
theorem State.setGroupsCommand_eq {head : Byte} (hlen : pairs.length ≤ 6)
    (hb : f.body = head :: pairs.flatMap fun p => be24 p.id.toNat ++ be24 p.mask.toNat) :
    s.setGroupsCommand f = s.groupPart f (bits head 0 3) (flag head 7) pairs := by
  rw [State.setGroupsCommand, hb]
  simp only [readPairs_flatMap]
  exact if_neg (Nat.not_lt.2 hlen)

/-- R167: a part that is not final. -/
theorem State.setGroupsCommand_open (hn : n < 8) (hlen : pairs.length ≤ 6)
    (hb : f.body = BitVec.ofNat 8 n :: pairs.flatMap fun p => be24 p.id.toNat ++ be24 p.mask.toNat) :
    s.setGroupsCommand f = s.groupPart f n false pairs := by
  obtain ⟨hnumber, hfinal⟩ := partHead_open n hn
  rw [State.setGroupsCommand_eq hlen hb, hnumber, hfinal]

/-- R167: a final part. -/
theorem State.setGroupsCommand_final (hn : n < 8) (hlen : pairs.length ≤ 6)
    (hb : f.body = BitVec.ofNat 8 (128 + n) :: pairs.flatMap fun p => be24 p.id.toNat ++ be24 p.mask.toNat) :
    s.setGroupsCommand f = s.groupPart f n true pairs := by
  obtain ⟨hnumber, hfinal⟩ := partHead_final n hn
  rw [State.setGroupsCommand_eq hlen hb, hnumber, hfinal]

end Command

/-! ## The assembly (R167) -/

/-- R167: a part above 0 is joined to the assembly that expects it. -/
theorem joinPart_in_turn {assembly : Option Assembly} {a : Assembly} {n : Nat} (pairs : List GroupPair)
    (ha : assembly = some a) (hnext : a.next = n) (hpos : 0 < n) :
    joinPart assembly n pairs = some (a.pairs ++ pairs) := by
  unfold joinPart
  rw [if_neg hpos.ne', ha]
  exact if_pos hnext

/-- R167: a part above 0 that no assembly expects is out of turn. -/
theorem joinPart_out_of_turn {assembly : Option Assembly} {n : Nat} (pairs : List GroupPair)
    (h : ∀ a, assembly = some a → a.next ≠ n) (hpos : 0 < n) : joinPart assembly n pairs = none := by
  unfold joinPart
  rw [if_neg hpos.ne']
  cases assembly with
  | none => rfl
  | some a => exact if_neg (h a rfl)

section Part

variable {s : State} {n : Nat} {pairs gathered : List GroupPair} (f : HostFrame)

/-- R167: a part out of turn discards the assembly. -/
theorem State.groupPart_out_of_turn (final : Bool) (h : joinPart s.host.assembly n pairs = none) :
    s.groupPart f n final pairs = (s.setAssembly none).reply f .format := by
  simp only [State.groupPart, h]

/-- R167: a part below 7 that is not final is kept, and the next one expected. -/
theorem State.groupPart_kept (h : joinPart s.host.assembly n pairs = some gathered) (hn : n ≠ 7) :
    s.groupPart f n false pairs = (s.setAssembly (some { pairs := gathered, next := n + 1 })).reply f .ok := by
  simp only [State.groupPart, h]
  exact if_neg hn

/-- R167: part 7 that is not final discards the assembly, in turn or not. -/
theorem State.groupPart_seven (s : State) (pairs : List GroupPair) :
    s.groupPart f 7 false pairs = (s.setAssembly none).reply f .format := by
  cases h : joinPart s.host.assembly 7 pairs with
  | none => exact State.groupPart_out_of_turn f false h
  | some gathered =>
    simp only [State.groupPart, h]
    rfl

/-- R136, R167: a final part in turn ends the assembly and replaces the list. -/
theorem State.groupPart_final (h : joinPart s.host.assembly n pairs = some gathered) :
    s.groupPart f n true pairs =
      ((s.setAssembly none).replaceGroups gathered).reply f (if gathered.length ≤ maxGroups then .ok else .adjusted) := by
  simp only [State.groupPart, h]
  rfl

end Part

/-- R126, R136: outside CAMPED with no exchange in progress the first 16 pairs become the list, and nothing else moves. -/
theorem State.replaceGroups_of_no_exchange {s : State} (pairs : List GroupPair) (he : s.roam.engine ≠ .camped)
    (hexchange : s.access.state.exchange = false) : s.replaceGroups pairs = s.groupsListed (pairs.take 16) := by
  have habandon : (s.groupsListed (pairs.take 16)).abandonWork = s.groupsListed (pairs.take 16) :=
    if_neg (by simp [State.groupsListed, hexchange])
  have hlisted : s.setGroupList ((pairs.take maxGroups).map GroupPair.toGroup) = s.groupsListed (pairs.take 16) := rfl
  rw [State.replaceGroups, hlisted, habandon]
  exact if_neg fun hc => he hc.1

end Sys2Proof.Machine
end

section
/-! PROOFS. The parts of SET GROUPS (O39). -/

namespace Sys2Proof.Proofs

open Sys2Proof Sys2Proof.Machine

/-- Settles O39: a part that is not final and a final one, each in turn and out of turn. -/
theorem groupPartsAreGathered : Obligations.GroupPartsAreGathered := by
  intro s f rest n pairs h hk hn hlen discarded
  have hrow : exec .setGroups s = .next ((s.setHost (s.host.taken rest)).setGroupsCommand f) :=
    congrArg Host.Outcome.next (takeKind_of_offers h hk)
  rw [hrow]
  refine ⟨fun hb => ?_, fun hb hpos => ?_⟩
  · rw [State.setGroupsCommand_open hn hlen hb]
    refine ⟨?_, fun a ha hnext hpos hlast => ?_, ?_⟩
    · rintro rfl
      exact congrArg Host.Outcome.next (State.groupPart_kept f rfl (by decide))
    · exact congrArg Host.Outcome.next (State.groupPart_kept f (joinPart_in_turn pairs ha hnext hpos) hlast.ne)
    · rintro (rfl | ⟨hpos, hout⟩)
      · exact congrArg Host.Outcome.next (State.groupPart_seven f _ pairs)
      · exact congrArg Host.Outcome.next (State.groupPart_out_of_turn f false (joinPart_out_of_turn pairs hout hpos))
  · rw [State.setGroupsCommand_final hn hlen hb]
    refine ⟨fun hout => ?_, fun a ha hnext he hexchange => ?_⟩
    · exact congrArg Host.Outcome.next (State.groupPart_out_of_turn f true (joinPart_out_of_turn pairs hout hpos))
    · rw [State.groupPart_final (s := s.setHost (s.host.taken rest)) f (joinPart_in_turn pairs ha hnext hpos),
        State.replaceGroups_of_no_exchange (s := (s.setHost (s.host.taken rest)).setAssembly none) _ he hexchange]
      rfl

end Sys2Proof.Proofs
end

section
/-! SUPPORT. The Address Filter (R128 to R133), MOVE (R98) and AFFIL ACK (R138). -/

namespace Sys2Proof.Machine

/-! ## The matching of destinations (R130) -/

/-- R130: a group matches a destination that agrees with its id outside the mask. -/
theorem Group.matches_iff (g : Group) (d : Identity) :
    g.matches d = true ↔ ∀ i < 24, g.mask.getLsbD i = false → d.getLsbD i = g.id.getLsbD i := by
  have hbits : g.matches d = true ↔ ∀ i, i < 24 → ((d ^^^ g.id) &&& ~~~g.mask).getLsbD i = (0#24).getLsbD i := by
    rw [Group.matches, beq_iff_eq]
    exact BitVec.eq_of_getLsbD_eq_iff
  rw [hbits]
  refine forall₂_congr fun i hi => ?_
  simp only [BitVec.getLsbD_and, BitVec.getLsbD_xor, BitVec.getLsbD_not, BitVec.getLsbD_zero, hi, decide_true]
  cases g.mask.getLsbD i <;> simp

/-- R130: the matching entry is the first that matches. -/
theorem State.matchingGroup_eq_some {s : State} {d : Identity} {k : Nat} (h : s.matchingGroup d = some k) :
    (∃ g, s.groups.groups[k]? = some g ∧ g.matches d = true)
      ∧ ∀ j < k, ∀ g, s.groups.groups[j]? = some g → g.matches d = false := by
  obtain ⟨hk, hmatch, hbefore⟩ := List.findIdx?_eq_some_iff_getElem.1 h
  refine ⟨⟨_, List.getElem?_eq_getElem hk, hmatch⟩, fun j hj g hg => ?_⟩
  obtain ⟨hlt, rfl⟩ := List.getElem?_eq_some_iff.1 hg
  exact Bool.eq_false_iff.2 (hbefore j hj)

/-- R130: a block passes to its radio, to a group of the list, or to all when ALL CALL is enabled. -/
theorem State.passes_iff (s : State) (b : ControlBlock) :
    s.passes b = true ↔
      (b.kind = 0 ∧ s.groups.identity = some b.destination)
        ∨ (b.kind = 1 ∧ ∃ g ∈ s.groups.groups, g.matches b.destination = true)
        ∨ (b.kind = 2 ∧ s.par .allCallEnable = 1) := by
  obtain ⟨kind, destination, code, payload⟩ := b
  match kind with
  | 0 => simp [State.passes]
  | 1 => simp [State.passes, State.matchingGroup]
  | 2 => simp [State.passes, State.isOn]
  | k + 3 => simp [State.passes]

/-- R130: a block of destination kind RADIO. -/
theorem State.passes_radio (s : State) {b : ControlBlock} (h : b.kind = 0) :
    s.passes b = true ↔ s.groups.identity = some b.destination := by
  simp [State.passes_iff, h]

/-! ## The records read (R129) -/

section Read

variable {s : State} {r : Frame} {b : ControlBlock} {m : Message}

/-- R129: in CAMPED all six types are read from a serving sync record. -/
theorem State.reads_of_camped (h : s.roam.engine = .camped) : s.reads r m = s.servingSync r := by
  simp only [State.reads, h]

/-- R129: in REGISTERING two types are read from a site sync record of the target. -/
theorem State.reads_of_registering (h : s.roam.engine = .registering) :
    s.reads r m = (s.targetSync r && m.forRegistration) := by
  simp only [State.reads, h]

/-- R129: in any other state none is read. -/
theorem State.reads_elsewhere (hcamped : s.roam.engine ≠ .camped) (hregistering : s.roam.engine ≠ .registering) :
    s.reads r m = false := by
  unfold State.reads
  split
  · next h => exact absurd h hcamped
  · next h => exact absurd h hregistering
  · rfl

/-- R129: the types set aside in REGISTERING are those other than ECHO and GRANT. -/
theorem Message.forRegistration_eq_false (hecho : ∀ slot, m ≠ .echo slot) (hgrant : ∀ g, m ≠ .grant g) :
    m.forRegistration = false := by
  cases m with
  | echo slot => exact absurd rfl (hecho slot)
  | grant g => exact absurd rfl (hgrant g)
  | affilAck | page | groupNotice | move => rfl

/-- R129: a block with no message that is read leaves everything as it was. -/
theorem State.filterRecord_of_unread (hb : r.block = some b)
    (h : ∀ m, readMessage b = some m → s.reads r m = false) : s.filterRecord r = (s, FilterOutput.nothing) := by
  have hread : s.readRecord r = none := by
    simp only [State.readRecord, hb]
    split
    · rfl
    · split
      · next m hm => exact if_neg (by simp [h m hm])
      · rfl
  simp only [State.filterRecord, hread]

variable (hb : r.block = some b) (hset : r.settling = false) (hcheck : r.check = .pass) (hm : readMessage b = some m)
  (hreads : s.reads r m = true)
include hb hset hcheck hm hreads

/-- R128, R129: the message of a record that is read. -/
theorem State.readRecord_of_reads : s.readRecord r = some (b, m) := by
  simp [State.readRecord, hb, hset, hcheck, hm, hreads]

/-- R131: an ECHO that is read is handed on, whatever radio it names. -/
theorem State.filterRecord_of_echo {slot : Nat} (h : m = .echo slot) :
    s.filterRecord r = (s, { FilterOutput.nothing with echo := some (b.destination, slot) }) := by
  simp only [State.filterRecord, State.readRecord_of_reads hb hset hcheck hm hreads, h]

/-- R130, R132: any other message that is read is delivered when its block passes. -/
theorem State.filterRecord_of_reads (h : ∀ slot, m ≠ .echo slot) :
    s.filterRecord r = if s.passes b = true then s.deliver b m else (s, FilterOutput.nothing) := by
  rw [State.filterRecord, State.readRecord_of_reads hb hset hcheck hm hreads]
  cases m with
  | echo slot => exact absurd rfl (h slot)
  | grant | affilAck | page | groupNotice | move => rfl

end Read

/-! ## MOVE (R98) -/

section Move

variable {s t : State} {code i : Nat} {p : Pair}

/-- R98: the state with a MOVE IGNORED event. -/
def State.moveIgnored (t : State) (code : Nat) (p : Pair) (cause : MoveCause) : State :=
  { t with host := t.host.offer (.moveIgnored code p.channel p.colour cause) }

/-- R98: outside CAMPED a MOVE is discarded. -/
theorem State.takeMove_elsewhere (h : s.roam.engine ≠ .camped) : s.takeMove code p = s := if_neg h

variable (he : s.roam.engine = .camped)
include he

/-- R98: a MOVE to a site that a conflict keeps out. -/
theorem State.takeMove_of_conflict (h : s.admitFound code p = (t, .conflict)) :
    s.takeMove code p = t.moveIgnored code p .conflict := by
  rw [State.takeMove, if_pos he, h]
  exact State.event_eq t _

/-- R98: a MOVE to a site that a full table keeps out. -/
theorem State.takeMove_of_full (h : s.admitFound code p = (t, .full)) :
    s.takeMove code p = t.moveIgnored code p .tableFull := by
  rw [State.takeMove, if_pos he, h]
  exact State.event_eq t _

/-- R98: a MOVE to a site the table holds. -/
theorem State.takeMove_of_admitted (h : s.admitFound code p = (t, .admitted i)) :
    s.takeMove code p =
      if (t.entry i).status = .serving then t.moveIgnored code p .serving
      else if (t.entry i).barred ≠ 0 then t.moveIgnored code p .barred
      else t.startRegistration i .move t.previousServing .registration := by
  rw [State.takeMove, if_pos he, h]
  simp only [State.event_eq, ne_eq, ite_not]
  rfl

end Move

/-! ## AFFIL ACK (R138) -/

/-- R138: the number of SENT entries before a place of the list. -/
def sentBefore (groups : List Group) (i : Nat) : Nat := (groups.take i).countP fun g => g.delivery == .sent

/-- R138: an entry as an acknowledgement of `m` leaves it, with `before` SENT entries ahead of it. -/
def Group.acknowledged (g : Group) (m before : Nat) : Group :=
  if g.delivery = .sent then { g with delivery := if before < m then .confirmed else .unsent } else g

/-- R138: a SENT entry takes one of the acknowledgement's count, and any other leaves it. -/
theorem acknowledge_cons (m : Nat) (g : Group) (rest : List Group) :
    acknowledge m (g :: rest) =
      g.acknowledged m 0 :: acknowledge (if g.delivery = .sent then m - 1 else m) rest := by
  by_cases hsent : g.delivery = .sent
  · cases m <;> simp [acknowledge, Group.acknowledged, hsent]
  · simp [acknowledge, Group.acknowledged, hsent]

/-- R138: one SENT entry more ahead counts as one acknowledged less. -/
theorem Group.acknowledged_pred (g : Group) (m before : Nat) :
    g.acknowledged (m - 1) before = g.acknowledged m (before + 1) := by
  have hlt : before < m - 1 ↔ before + 1 < m := by omega
  simp only [Group.acknowledged, hlt]

/-- R138: an acknowledgement, place by place. -/
theorem acknowledge_getElem? (m : Nat) (groups : List Group) (i : Nat) :
    (acknowledge m groups)[i]? = groups[i]?.map fun g => g.acknowledged m (sentBefore groups i) := by
  induction groups generalizing m i with
  | nil => rfl
  | cons g rest ih =>
    rw [acknowledge_cons]
    cases i with
    | zero => rfl
    | succ i =>
      rw [List.getElem?_cons_succ, List.getElem?_cons_succ, ih]
      by_cases hsent : g.delivery = .sent
      · have hbefore : sentBefore (g :: rest) (i + 1) = sentBefore rest i + 1 := by simp [sentBefore, hsent]
        simp only [if_pos hsent, hbefore, Group.acknowledged_pred]
      · have hbefore : sentBefore (g :: rest) (i + 1) = sentBefore rest i := by simp [sentBefore, hsent]
        simp only [if_neg hsent, hbefore]

/-- R128: an AFFIL ACK to a radio; a count above 16 is taken as 16. -/
theorem readMessage_affilAck {b : ControlBlock} {m : Byte} {payload : List Byte} (hkind : b.kind = 0) (hcode : b.code = 3)
    (hp : b.payload = m :: payload) : readMessage b = some (.affilAck (min m.toNat 16)) := by
  simp [readMessage, hkind, hcode, hp, at8]

end Sys2Proof.Machine
end

section
/-! PROOFS. The Address Filter and MOVE (O25), and AFFIL ACK (O24). -/

namespace Sys2Proof.Proofs

open Sys2Proof Sys2Proof.Machine

section Filter

variable {s : State} {r : Frame} {b : ControlBlock} (hb : r.block = some b)
include hb

/-- R37, R128, R129: the records whose block is not read. -/
theorem filterRecord_unread
    (h : r.settling = true ∨ r.check ≠ .pass ∨ readMessage b = none
      ∨ (s.roam.engine ≠ .camped ∧ s.roam.engine ≠ .registering)
      ∨ (s.roam.engine = .camped ∧ s.servingSync r = false)
      ∨ (s.roam.engine = .registering ∧ s.targetSync r = false)) :
    s.filterRecord r = (s, FilterOutput.nothing) := by
  rcases h with hset | hcheck | hnone | ⟨hcamped, hregistering⟩ | ⟨he, hsync⟩ | ⟨he, hsync⟩
  · exact State.filterRecord_of_settling hset s
  · exact State.filterRecord_of_check s hcheck
  · exact State.filterRecord_of_unread hb (by simp [hnone])
  · exact State.filterRecord_of_unread hb fun m _ => State.reads_elsewhere hcamped hregistering
  · exact State.filterRecord_of_unread hb fun m _ => (State.reads_of_camped he).trans hsync
  · exact State.filterRecord_of_unread hb fun m _ => by rw [State.reads_of_registering he, hsync, Bool.false_and]

/-- R129: in REGISTERING a block of another type than ECHO and GRANT is set aside. -/
theorem filterRecord_set_aside (he : s.roam.engine = .registering) (hecho : ∀ slot, readMessage b ≠ some (.echo slot))
    (hgrant : ∀ g, readMessage b ≠ some (.grant g)) : s.filterRecord r = (s, FilterOutput.nothing) :=
  State.filterRecord_of_unread hb fun m hm => by
    have hother : m.forRegistration = false :=
      Message.forRegistration_eq_false (fun slot heq => hecho slot (heq ▸ hm)) fun g heq => hgrant g (heq ▸ hm)
    rw [State.reads_of_registering he, hother, Bool.and_false]

variable (hset : r.settling = false) (hcheck : r.check = .pass)
include hset hcheck

/-- R129, R131: an ECHO and a GRANT in CAMPED and in REGISTERING. -/
theorem filterRecord_echo_grant
    (hsource : (s.roam.engine = .camped ∧ s.servingSync r = true)
      ∨ (s.roam.engine = .registering ∧ s.targetSync r = true)) :
    (∀ slot, readMessage b = some (.echo slot) →
      s.filterRecord r = (s, { FilterOutput.nothing with echo := some (b.destination, slot) }))
      ∧ ∀ g, readMessage b = some (.grant g) →
        s.filterRecord r =
          (s, if s.passes b = true then { FilterOutput.nothing with grant := some g } else FilterOutput.nothing) := by
  have hreads {m : Message} (hm : m.forRegistration = true) : s.reads r m = true := by
    rcases hsource with ⟨he, hsync⟩ | ⟨he, hsync⟩
    · rw [State.reads_of_camped he, hsync]
    · rw [State.reads_of_registering he, hsync, hm, Bool.true_and]
  refine ⟨fun slot hm => State.filterRecord_of_echo hb hset hcheck hm (hreads rfl) rfl, fun g hm => ?_⟩
  rw [State.filterRecord_of_reads hb hset hcheck hm (hreads rfl) (by nofun)]
  exact (apply_ite (Prod.mk s) _ _ _).symm

variable (he : s.roam.engine = .camped) (hsync : s.servingSync r = true)
include he hsync

/-- R129, R130, R132: a serving sync record in CAMPED with any message but an ECHO. -/
theorem filterRecord_camped {m : Message} (hm : readMessage b = some m) (hecho : ∀ slot, m ≠ .echo slot) :
    s.filterRecord r = if s.passes b = true then s.deliver b m else (s, FilterOutput.nothing) :=
  State.filterRecord_of_reads hb hset hcheck hm ((State.reads_of_camped he).trans hsync) hecho

/-- R130: in CAMPED a block that does not pass is set aside, but for an ECHO. -/
theorem filterRecord_not_passed (hpass : s.passes b = false) (hecho : ∀ slot, readMessage b ≠ some (.echo slot)) :
    s.filterRecord r = (s, FilterOutput.nothing) := by
  cases hm : readMessage b with
  | none => exact State.filterRecord_of_unread hb (by simp [hm])
  | some m =>
    rw [filterRecord_camped hb hset hcheck he hsync hm fun slot heq => hecho slot (heq ▸ hm)]
    exact if_neg (by simp [hpass])

/-- R130, R132: in CAMPED a block that passes is delivered by its type. -/
theorem filterRecord_passed (hpass : s.passes b = true) {m : Message} (hm : readMessage b = some m)
    (hecho : ∀ slot, m ≠ .echo slot) : s.filterRecord r = s.deliver b m :=
  (filterRecord_camped hb hset hcheck he hsync hm hecho).trans (if_pos hpass)

end Filter

/-- R99, R100, R108, R111, R141: the registration that a MOVE starts. -/
theorem takeMove_starts {s t : State} {code i : Nat} {p : Pair} (he : s.roam.engine = .camped)
    (h : s.admitFound code p = (t, .admitted i)) (hserving : (t.entry i).status ≠ .serving)
    (hbarred : ¬(t.entry i).barred ≠ 0) :
    (s.takeMove code p).roam =
        { t.roam with
          engine := .registering, previous := t.serving.map fun j => (t.entry j).code
          reason := some .move, enteredFrom := .camped }
      ∧ (s.takeMove code p).access.state = .tuning
      ∧ (s.takeMove code p).access.target = (t.entry i).code
      ∧ (s.takeMove code p).pins.txinh = true
      ∧ (s.takeMove code p).frontEnd = t.frontEnd ++ [FrontEndRecord.tune (t.entry i).channel]
      ∧ (s.takeMove code p).table = t.table := by
  have hfrom : t.roam.engine = .camped := (congrArg RoamEngine.engine (State.admitFound_keeps h).1).trans he
  have hstart : s.takeMove code p = t.startRegistration i .move t.previousServing .registration :=
    (State.takeMove_of_admitted he h).trans ((if_neg hserving).trans (if_neg hbarred))
  obtain ⟨htable, hroam, hstate, htarget, htxinh, -⟩ :=
    t.startRegistration_effect i .move t.previousServing .registration
  obtain ⟨-, -, -, hfront⟩ := t.startRegistration_tuning i .move t.previousServing .registration
  rw [hfrom] at hroam
  rw [hstart]
  exact ⟨hroam, hstate, htarget, htxinh, hfront, htable⟩

/-- Settles O25: the match by mask, the lowest match, what passes, the filter in each engine state, and MOVE. -/
theorem groupMatchesOutsideItsMask : Obligations.GroupMatchesOutsideItsMask := by
  refine ⟨Group.matches_iff, fun s d => ⟨List.findIdx?_eq_none_iff.1, fun k => State.matchingGroup_eq_some⟩,
    State.passes_iff, fun s r b hb => ⟨filterRecord_unread hb, filterRecord_echo_grant hb,
      fun hset hcheck he hsync => ⟨filterRecord_not_passed hb hset hcheck he hsync, fun hpass payload hm => ?_,
        fun hpass payload hm => ?_, fun hpass code channel colour hm => ?_⟩,
      filterRecord_set_aside hb⟩, fun s code p => ⟨State.takeMove_elsewhere, fun he t answer h => ?_⟩⟩
  · rw [filterRecord_passed hb hset hcheck he hsync hpass hm (by nofun), State.deliver, State.event_eq]
    rfl
  · rw [filterRecord_passed hb hset hcheck he hsync hpass hm (by nofun), State.deliver, State.event_eq]
    rfl
  · rw [filterRecord_passed hb hset hcheck he hsync hpass hm (by nofun), State.deliver]
  · intro ignored
    cases answer with
    | conflict => exact State.takeMove_of_conflict he h
    | full => exact State.takeMove_of_full he h
    | admitted i =>
      have hmove := State.takeMove_of_admitted he h
      dsimp only
      split
      · next hserving => exact hmove.trans (if_pos hserving)
      · next hserving =>
        split
        · next hbarred => exact hmove.trans ((if_neg hserving).trans (if_pos hbarred))
        · next hbarred => exact takeMove_starts he h hserving hbarred

/-- Settles O24: the acknowledgement of the list place by place, and the delivery of an AFFIL ACK with its event. -/
theorem acknowledgementConfirmsTheFirstSent : Obligations.AcknowledgementConfirmsTheFirstSent := by
  refine ⟨acknowledge_getElem?, fun s r b m payload hb hkind hcode hp hset hcheck he hsync => ?_⟩
  intro groups
  have hmessage := readMessage_affilAck hkind hcode hp
  rw [filterRecord_camped hb hset hcheck he hsync hmessage (by nofun)]
  refine if_congr (s.passes_radio hkind) ?_ rfl
  rw [State.deliver, State.affilAck, State.event_eq]
  rfl

end Sys2Proof.Proofs
end

section
/-! SUPPORT. TXINH and the engine state (R141): the changes of state and the handling of a taken record. -/

namespace Sys2Proof.Machine

/-! ## TXINH while the LN742 runs -/

/-- R141: the LN742 runs, and TXINH is what the engine state asks for. -/
structure State.InhibitFollows (s : State) : Prop where
  running : s.pins.supply = .running
  txinh : s.pins.txinh = s.roam.engine.inhibits

/-- R141: while the LN742 runs, the inhibit is sound exactly when TXINH follows the engine state. -/
theorem State.inhibitSound_iff {s : State} (hs : s.pins.supply = .running) : s.inhibitSound ↔ s.InhibitFollows :=
  ⟨fun h => ⟨hs, by simpa [State.inhibitSound, hs] using h⟩, fun h => by simp [State.inhibitSound, hs, h.txinh]⟩

namespace State.InhibitFollows

variable {s : State}

/-- An operation that leaves the pins and the engine state. -/
theorem frame (h : s.InhibitFollows) {t : State} (ht : t.pins = s.pins ∧ t.roam.engine = s.roam.engine) :
    t.InhibitFollows where
  running := ht.1 ▸ h.running
  txinh := by rw [ht.1, ht.2, h.txinh]

/-- An operation that acts or not. -/
theorem ite {c : Prop} [Decidable c] {u v : State} (hu : u.InhibitFollows) (hv : v.InhibitFollows) :
    (if c then u else v).InhibitFollows := by
  split
  · exact hu
  · exact hv

/-! ## The changes of engine state (R89, R90, R141) -/

/-- R141: TXINH follows the engine state that is entered, whatever it was before. -/
theorem of_entered (hs : s.pins.supply = .running) {new : Engine} {t : State} (hengine : t.roam.engine = new)
    (hpins : t.pins = { s.pins with txinh := new.inhibits }) : t.InhibitFollows where
  running := by rw [hpins]; exact hs
  txinh := by rw [hpins, hengine]

theorem enterHunt (hs : s.pins.supply = .running) (cause : EngineCause) : (s.enterHunt cause).InhibitFollows := by
  obtain ⟨hroam, hpins, -⟩ := s.enterHunt_engine cause
  exact of_entered hs (congrArg RoamEngine.engine hroam) hpins

theorem enterDirect (hs : s.pins.supply = .running) (cause : EngineCause) : (s.enterDirect cause).InhibitFollows := by
  obtain ⟨hroam, hpins, -⟩ := s.enterDirect_engine cause
  exact of_entered hs (congrArg RoamEngine.engine hroam) hpins

theorem returnToCamped (hs : s.pins.supply = .running) : s.returnToCamped.InhibitFollows := by
  obtain ⟨hroam, hpins, -⟩ := s.returnToCamped_engine
  exact of_entered hs (congrArg RoamEngine.engine hroam) hpins

theorem startRegistration (hs : s.pins.supply = .running) (i : Nat) (reason : Reason) (previous : Option Nat)
    (cause : EngineCause) : (s.startRegistration i reason previous cause).InhibitFollows := by
  obtain ⟨-, hroam, -, -, htxinh, -⟩ := s.startRegistration_effect i reason previous cause
  exact ⟨by simpa using hs, by rw [htxinh, hroam]; rfl⟩

theorem startEngine (hs : s.pins.supply = .running) : s.startEngine.InhibitFollows := by
  obtain ⟨hroam, hpins, -⟩ := s.startEngine_engine
  exact of_entered hs (congrArg RoamEngine.engine hroam) hpins

theorem stopEngine (hs : s.pins.supply = .running) : s.stopEngine.InhibitFollows := by
  obtain ⟨hroam, hpins, -⟩ := s.stopEngine_engine
  exact of_entered hs (congrArg RoamEngine.engine hroam) hpins

/-- R102: ACCEPT leads to CAMPED. -/
theorem accepted (hs : s.pins.supply = .running) (i : Nat) : (s.accepted i).InhibitFollows :=
  of_entered hs (new := .camped) (by simp [State.accepted, State.clearRoam, State.enterEngine])
    (by simp [State.accepted, State.enterEngine])

theorem leaveRegistering (hs : s.pins.supply = .running) : s.leaveRegistering.InhibitFollows := by
  obtain ⟨-, heq⟩ | ⟨-, heq⟩ | ⟨-, heq⟩ := s.leaveRegistering_cases <;> rw [heq]
  · exact returnToCamped hs
  · exact enterDirect hs _
  · exact enterHunt hs _

/-- R103: a registration that fails leads to CAMPED, DIRECT or HUNT. -/
theorem failRoam (hs : s.pins.supply = .running) (cause : FailureCause) (bar : Option Nat) :
    (s.failRoam cause bar).InhibitFollows := by
  have hleft : (s.failureJudged cause bar).leaveRegistering.InhibitFollows :=
    leaveRegistering (by rw [(s.failureJudged_frame cause bar).2.2.2.2.2.2.2.2.1]; exact hs)
  rw [State.failRoam_eq]
  exact hleft.frame (by simp [State.clearRoam])

/-- R96: a loss in CAMPED leads to REGISTERING or HUNT. -/
theorem takeLost (h : s.InhibitFollows) (cause : EngineCause) : (s.takeLost cause).InhibitFollows := by
  have hcleared :
      ((s.setPins { s.pins with txinh := true }).abandonWork.endServing 0).clearServingWork.restartHunt.pins.supply
        = .running := by simpa using h.running
  unfold State.takeLost
  refine ite ?_ h
  dsimp only
  split
  · exact startRegistration hcleared _ _ _ _
  · exact enterHunt hcleared _

/-! ## Triggers, MOVE and hunt acceptance -/

theorem roamFromCamped (h : s.InhibitFollows) (target : Nat) (reason : Reason) :
    (s.roamFromCamped target reason).InhibitFollows := by
  unfold State.roamFromCamped
  split
  · exact startRegistration h.running _ _ _ _
  · exact h

theorem takeTrigger (h : s.InhibitFollows) (t : Trigger) : (s.takeTrigger t).InhibitFollows := by
  unfold State.takeTrigger
  refine ite ?_ h
  split
  · exact (h.roamFromCamped _ _).ite h
  · exact (h.roamFromCamped _ _).ite h
  · exact h

theorem takeTriggers (h : s.InhibitFollows) (ts : List Trigger) : (s.takeTriggers ts).InhibitFollows := by
  unfold State.takeTriggers
  induction ts generalizing s with
  | nil => exact h
  | cons t rest ih => exact ih (h.takeTrigger t)

theorem admitFound (h : s.InhibitFollows) (code : Nat) (p : Pair) : (s.admitFound code p).1.InhibitFollows :=
  h.frame (by simp)

theorem takeMove (h : s.InhibitFollows) (code : Nat) (p : Pair) : (s.takeMove code p).InhibitFollows := by
  have hadmit := h.admitFound code p
  unfold State.takeMove
  generalize s.admitFound code p = r at hadmit ⊢
  obtain ⟨s1, answer⟩ := r
  replace hadmit : s1.InhibitFollows := hadmit
  refine ite ?_ h
  cases answer with
  | admitted i =>
    exact (hadmit.frame (by simp)).ite ((startRegistration hadmit.running _ _ _ _).ite (hadmit.frame (by simp)))
  | conflict => exact hadmit.frame (by simp)
  | full => exact hadmit.frame (by simp)

/-- R101: a fit beacon starts a registration; any other ends the hunt-listen, which leaves the engine state. -/
theorem huntAccept (h : s.InhibitFollows) (b : Summary) (l : Listen) : (s.huntAccept b l).InhibitFollows := by
  have hended : s.endListen.InhibitFollows := h.frame (by simp)
  have hadmit := h.admitFound b.code { channel := l.channel, colour := l.colour }
  unfold State.huntAccept
  dsimp only
  generalize s.admitFound b.code { channel := l.channel, colour := l.colour } = r at hadmit ⊢
  obtain ⟨s1, answer⟩ := r
  replace hadmit : s1.InhibitFollows := hadmit
  refine ite ?_ (hended.ite (hended.ite (hended.ite ?_)))
  · cases answer with
    | admitted i => exact hadmit.frame (by simp)
    | conflict => exact hadmit.frame (by simp)
    | full => exact hadmit.frame (by simp)
  · cases answer with
    | admitted i => exact startRegistration (by simpa using hadmit.running) _ _ _ _
    | conflict => exact hadmit.frame (by simp)
    | full => exact hadmit.frame (by simp)

theorem acceptRoam (h : s.InhibitFollows) (count : Nat) : (s.acceptRoam count).InhibitFollows := by
  cases hfind : s.findCode s.access.target with
  | some i =>
    rw [State.acceptRoam_eq count hfind]
    exact (accepted h.running i).frame (by simp)
  | none => simpa [State.acceptRoam, hfind] using h

/-- R105: at the hunt limit HUNT becomes DIRECT; in a registration the expiry flag alone is set. -/
theorem huntTick (h : s.InhibitFollows) : s.huntTick.InhibitFollows := by
  have hcounted (timer : Nat) (expired : Bool) :
      (s.setRoam { s.roam with huntTimer := timer, expired := expired }).InhibitFollows := h.frame ⟨rfl, rfl⟩
  unfold State.huntTick
  dsimp only
  refine ite (ite ?_ ?_) ?_
  · exact enterDirect (hcounted _ true).running .huntLimit
  · exact hcounted _ _
  · exact hcounted _ _

theorem huntWork (h : s.InhibitFollows) (ran multiframe : Bool) : (s.huntWork ran multiframe).InhibitFollows :=
  h.huntTick.ite h

/-! ## Registration (R100 to R123) -/

theorem judgeFlags (h : s.InhibitFollows) (closed emergencyOnly : Bool) (hold : Nat) :
    (s.judgeFlags closed emergencyOnly hold).InhibitFollows :=
  (failRoam h.running _ _).ite ((failRoam h.running _ _).ite (h.frame (by simp)))

theorem judgeBeacon (h : s.InhibitFollows) (b : Summary) : (s.judgeBeacon b).InhibitFollows := h.judgeFlags _ _ _

theorem judgeDigest (h : s.InhibitFollows) : s.judgeDigest.InhibitFollows := by
  unfold State.judgeDigest
  split
  · exact h.judgeFlags _ _ _
  · exact h.frame (by simp)

theorem judgeTarget (h : s.InhibitFollows) : s.judgeTarget.InhibitFollows := by
  unfold State.judgeTarget
  split
  · exact (h.judgeBeacon _).ite h.judgeDigest
  · exact h.judgeDigest

theorem takeRedirect (h : s.InhibitFollows) (code channel colour : Nat) :
    (s.takeRedirect code channel colour).InhibitFollows := by
  have hadmit := h.admitFound code { channel := channel, colour := colour }
  unfold State.takeRedirect
  generalize s.admitFound code { channel := channel, colour := colour } = r at hadmit ⊢
  obtain ⟨s1, answer⟩ := r
  replace hadmit : s1.InhibitFollows := hadmit
  refine (failRoam h.running _ _).ite ?_
  cases answer with
  | admitted i => exact (failRoam hadmit.running _ _).ite (hadmit.frame (by simp))
  | conflict => exact failRoam hadmit.running _ _
  | full => exact failRoam hadmit.running _ _

theorem takeGrant (h : s.InhibitFollows) (g : Grant) : (s.takeGrant g).InhibitFollows := by
  unfold State.takeGrant
  split
  · exact h.acceptRoam _
  · exact failRoam h.running _ _
  · exact h.takeRedirect _ _ _
  · exact h.frame (by simp)
  · exact h

theorem grantTimeout (h : s.InhibitFollows) : s.grantTimeout.InhibitFollows :=
  (h.frame (by simp)).ite (failRoam h.running _ _)

theorem awaitGrant (h : s.InhibitFollows) (input : AccessInput) : (s.awaitGrant input).InhibitFollows := by
  have hcounted : s.countWait.InhibitFollows := h.frame (by simp)
  unfold State.awaitGrant
  dsimp only
  split
  · exact (hcounted.takeGrant _).ite (hcounted.grantTimeout.ite hcounted)
  · exact hcounted.grantTimeout.ite hcounted

theorem echoLost (h : s.InhibitFollows) (b : Burst) : (s.echoLost b).InhibitFollows := by
  have hlost : (s.burstLost b).InhibitFollows := h.frame (by simp)
  exact (failRoam hlost.running _ _).ite (hlost.frame (by simp))

theorem contend (h : s.InhibitFollows) (input : AccessInput) : (s.contend input).InhibitFollows := by
  have hwon : s.echoWon.InhibitFollows := h.frame (by simp)
  have hcollided : s.countCollision.InhibitFollows := h.frame (by simp)
  unfold State.contend
  split
  · exact h.frame (by simp)
  · refine ite ?_ h
    split
    · exact hwon
    · exact (hwon.takeGrant _).ite hwon
    · exact h.echoLost _
    · exact hcollided.echoLost _

theorem registrationPhase (h : s.InhibitFollows) (input : AccessInput) :
    (s.registrationPhase input).InhibitFollows := by
  have hcounted : s.countWait.InhibitFollows := h.frame (by simp)
  unfold State.registrationPhase
  split
  · split
    · exact h.judgeBeacon _
    · exact h.judgeTarget.ite (h.frame (by simp))
  · dsimp only
    split
    · exact hcounted.judgeBeacon _
    · exact (failRoam hcounted.running _ _).ite hcounted
  · exact h.contend _
  · exact h.awaitGrant _
  · exact h

theorem checkTooLong (h : s.InhibitFollows) : s.checkTooLong.InhibitFollows := (failRoam h.running _ _).ite h

theorem registrationRecord (h : s.InhibitFollows) (r : Frame) (input : AccessInput) :
    (s.registrationRecord r input).InhibitFollows := by
  have hcounted : (s.countMultiframe input.multiframe).InhibitFollows := h.frame (by simp)
  have htracked := hcounted.ite (c := (s.countMultiframe input.multiframe).inTuning = true)
    (hcounted.frame (t := (s.countMultiframe input.multiframe).trackSite r input.sync) (by simp))
  exact (failRoam htracked.running _ _).ite (htracked.registrationPhase _).checkTooLong

/-- R124, R125: an exchange at the serving site leaves the engine state. -/
theorem accessRecord (h : s.InhibitFollows) (r : Frame) (engine0 : Engine) (input : AccessInput) :
    (s.accessRecord r engine0 input).InhibitFollows := by
  unfold State.accessRecord
  split
  · exact (h.registrationRecord _ _).ite ((failRoam h.running _ _).ite h)
  · split
    · exact h.frame (by simp)
    · exact h.frame (by simp)
    · exact h.frame (by simp)
    · exact h
  · exact h

/-! ## The Address Filter and the Beacon Assembler -/

theorem deliver (h : s.InhibitFollows) (b : ControlBlock) (m : Message) : (s.deliver b m).1.InhibitFollows := by
  cases m with
  | move code channel colour => exact h.takeMove _ _
  | echo slot => exact h
  | grant g => exact h
  | affilAck count => exact h.frame (by simp [State.deliver])
  | page payload => exact h.frame (by simp [State.deliver])
  | groupNotice payload => exact h.frame (by simp [State.deliver])

theorem filterRecord (h : s.InhibitFollows) (r : Frame) : (s.filterRecord r).1.InhibitFollows := by
  unfold State.filterRecord
  split
  · exact h
  · split
    · exact h.deliver _ _
    · exact h
  · exact h

theorem acceptWatch (h : s.InhibitFollows) (b : Summary) : (s.acceptWatch b).1.InhibitFollows := by
  unfold State.acceptWatch
  split
  · exact h.frame (by simp)
  · exact h.frame (by simp)
  · exact h
  · split
    · exact h.huntAccept b _
    · exact h

theorem watchFragment (h : s.InhibitFollows) (position : Nat) (f : Fragment) :
    (s.watchFragment position f).1.InhibitFollows := by
  have hcleared : (s.setWatchStore Store.cleared).InhibitFollows := h.frame (by simp)
  unfold State.watchFragment
  dsimp only
  split
  · split
    · exact (hcleared.frame (by simp)).acceptWatch _
    · exact hcleared.frame (by simp)
  · exact h.frame (by simp)

/-- R101: of the beacon's work the acceptance of a hunt-listen alone changes the engine state. -/
theorem beaconRecord (h : s.InhibitFollows) (r : Frame) : (s.beaconRecord r).1.InhibitFollows := by
  unfold State.beaconRecord
  split
  · split
    · exact h
    · split
      · split
        · exact h.frame (by simp)
        · exact h
      · split
        · exact h.watchFragment _ _
        · exact h
  · exact h

/-! ## A taken record -/

variable {r : Frame}

theorem scanRecord (h : s.InhibitFollows) (engine0 : Engine) (listening multiframe : Bool) :
    (s.scanRecord engine0 listening multiframe).InhibitFollows := h.frame (by simp)

theorem filterWithIdentity (h : s.InhibitFollows) (lost first : Bool) (late : List Trigger) (place : Nat) :
    (s.filterWithIdentity r lost first late place).1.InhibitFollows := by
  cases lost with
  | false => exact (h.filterRecord r).takeTriggers late
  | true =>
    obtain ⟨x, -, heq | heq⟩ := s.filterWithIdentity_cases r first late place <;> rw [heq]
    · exact ((((h.takeTriggers _).takeLost _).takeTriggers _).filterRecord r).takeTriggers _
    · exact ((((h.takeTriggers _).filterRecord r).takeTriggers _).takeLost _).takeTriggers _

theorem afterRanking (h : s.InhibitFollows) (base : State) (multiframe first : Bool) (late : List Trigger)
    (place : Nat) : (s.afterRanking base r multiframe first late place).InhibitFollows := by
  have hlisten : (s.listenIfFound r).InhibitFollows := h.frame (by simp)
  have hfilter := (hlisten.beaconRecord r).filterWithIdentity (r := r) ((s.listenIfFound r).beaconRecord r).2.identityLost
    first late place
  exact (((hfilter.huntWork base.roam.huntRuns multiframe).accessRecord r _ _).scanRecord _ _ _).frame ⟨rfl, rfl⟩

theorem rankRecord (h : s.InhibitFollows) (role : Role) (multiframe : Bool) :
    (s.rankRecord r role multiframe).1.InhibitFollows := h.frame (by simp)

theorem blocksHandle (h : s.InhibitFollows) (base : State) (role : Role) (multiframe lossRaised : Bool) :
    (s.blocksHandle base r role multiframe lossRaised).InhibitFollows := by
  obtain ⟨u, late, hlost, hnot, heq⟩ := s.blocksInOrder_cases base r role multiframe lossRaised
    (Config.triggersLate s.free) (Config.identityFirst s.free) (Config.lateTriggers s.free) (Config.lossOrder s.free)
  rw [State.blocksHandle, heq]
  refine afterRanking ?_ _ _ _ _ _
  cases lossRaised with
  | true =>
    obtain ⟨-, rfl | rfl | rfl⟩ := hlost rfl
    · exact ((h.takeLost _).rankRecord _ _).takeTriggers _
    · exact ((h.rankRecord _ _).takeLost _).takeTriggers _
    · exact ((h.rankRecord _ _).takeTriggers _).takeLost _
  | false =>
    obtain ⟨rfl, -⟩ | ⟨rfl, -⟩ := hnot rfl
    · exact (h.rankRecord _ _).takeTriggers _
    · exact h.rankRecord _ _

/-- R30, R31, R37: the naming of a record leaves the pins and the Roam Engine. -/
theorem recordNamed_leaves (s : State) (rest : List Frame) :
    (s.recordNamed r rest).1.pins = s.pins ∧ (s.recordNamed r rest).1.roam = s.roam := by
  have htaken : (s.frameTaken r rest).pins = s.pins ∧ (s.frameTaken r rest).roam = s.roam := ⟨rfl, rfl⟩
  by_cases hmulti : (s.frameTaken r rest).atMultiframe <;> simp [State.recordNamed, hmulti, htaken]

theorem handleRecord (h : s.InhibitFollows) (rest : List Frame) : (s.handleRecord r rest).InhibitFollows := by
  obtain ⟨hpins, hroam⟩ := recordNamed_leaves (r := r) s rest
  have hnamed : (s.recordNamed r rest).1.InhibitFollows := h.frame ⟨hpins, congrArg RoamEngine.engine hroam⟩
  rw [State.handleRecord_eq]
  exact hnamed.blocksHandle _ _ _ _

theorem takeRecord (h : s.InhibitFollows) : s.takeRecord.InhibitFollows := by
  unfold State.takeRecord
  split
  · exact h.handleRecord _
  · exact h

end State.InhibitFollows

end Sys2Proof.Machine
end

section
/-! SUPPORT. TXINH and the engine state (R141) under every row of the table. -/

namespace Sys2Proof.Machine

namespace State.InhibitFollows

variable {s : State}

/-! ## The Front-End receiver and the limit rows -/

theorem modemRecord (h : s.InhibitFollows) (kind : Byte) (body : List Byte) : (s.modemRecord kind body).InhibitFollows := by
  unfold State.modemRecord
  split
  · exact h.frame (by simp)
  · exact h.frame (by simp)
  · exact h.frame (by simp)

theorem frontEndReceive (h : s.InhibitFollows) (n : Nat) (bytes : List Byte) :
    (Machine.frontEndReceive n bytes s).InhibitFollows := by
  induction n generalizing bytes s with
  | zero => exact h.frame ⟨rfl, rfl⟩
  | succ n ih =>
    have hcounted : s.countCheckError.InhibitFollows := h.frame (by simp)
    have hreceived (rest : List Byte) : (s.setIntake { s.intake with received := rest }).InhibitFollows :=
      h.frame ⟨rfl, rfl⟩
    unfold Machine.frontEndReceive
    split
    · exact hreceived _
    · exact hreceived _
    · exact (ih hcounted _).ite ((hreceived _).ite ((ih (h.modemRecord _ _) _).ite (ih hcounted _)))

theorem receiveFrontEnd (h : s.InhibitFollows) (bytes : List Byte) : (s.receiveFrontEnd bytes).InhibitFollows :=
  h.frontEndReceive _ _

theorem setEntry (h : s.InhibitFollows) (i : Nat) (e : Entry) : (s.setEntry i e).InhibitFollows := h.frame (by simp)

theorem heardAgeLimit (h : s.InhibitFollows) (i : Nat) : (s.heardAgeLimit i).InhibitFollows := ite (h.frame (by simp)) h

theorem barEnd (h : s.InhibitFollows) (i : Nat) : (s.barEnd i).InhibitFollows := (h.setEntry i _).ite h

theorem departureDecay (h : s.InhibitFollows) : s.departureDecay.InhibitFollows := ite (h.frame (by simp)) h

theorem digestAgeLimit (h : s.InhibitFollows) (i : Nat) : (s.digestAgeLimit i).InhibitFollows := (h.setEntry i _).ite h

theorem servingReport (h : s.InhibitFollows) : s.servingReport.InhibitFollows := ite (h.frame (by simp)) h

theorem servingLossLimit (h : s.InhibitFollows) : s.servingLossLimit.InhibitFollows :=
  ((h.frame (t := s.raiseLost) (by simp)).takeLost _).ite h

theorem huntListenReadLimit (h : s.InhibitFollows) : s.huntListenReadLimit.InhibitFollows := by
  unfold State.huntListenReadLimit
  split
  · exact ite (h.frame (by simp)) h
  · exact h

theorem huntLimit (h : s.InhibitFollows) : s.huntLimit.InhibitFollows := h.huntTick.ite h

theorem readingUnreadable (h : s.InhibitFollows) : s.readingUnreadable.InhibitFollows :=
  ite (failRoam (s := s.countWait) (by simpa using h.running) _ _) h

theorem grantWaitTimeout (h : s.InhibitFollows) : s.grantWaitTimeout.InhibitFollows :=
  (grantTimeout (s := s.countWait) (h.frame (by simp))).ite h

theorem tooLong (h : s.InhibitFollows) : s.tooLong.InhibitFollows :=
  ite (failRoam (s := s.countMultiframe true) (by simpa using h.running) _ _) h

theorem affilAckWaitTimeout (h : s.InhibitFollows) : s.affilAckWaitTimeout.InhibitFollows := by
  unfold State.affilAckWaitTimeout
  refine ite ?_ h
  split
  · exact h.frame (by simp)
  · exact h.frame (by simp)
  · exact h

theorem silenceTimeout (h : s.InhibitFollows) : s.silenceTimeout.InhibitFollows := by
  have hsilent : ((s.setIntake { s.intake with silenceRunning := false, timing := .holdover }).event
      .frontEndSilent).InhibitFollows := h.frame (by simp)
  exact (((hsilent.frame (by simp)).takeLost .silence).ite hsilent).ite h

/-! ## The Host Link and the commands -/

theorem reply (h : s.InhibitFollows) (f : HostFrame) (code : ReplyCode) (result : List Byte := []) :
    (s.reply f code result).InhibitFollows := h.frame (by simp)

theorem setHost (h : s.InhibitFollows) (x : HostLink) : (s.setHost x).InhibitFollows := h.frame ⟨rfl, rfl⟩

theorem setScan (h : s.InhibitFollows) (x : ScanSequencer) : (s.setScan x).InhibitFollows := h.frame ⟨rfl, rfl⟩

theorem setRecallArea (h : s.InhibitFollows) (x : RecallArea) : (s.setRecallArea x).InhibitFollows := h.frame ⟨rfl, rfl⟩

theorem frameDamaged (h : s.InhibitFollows) : s.frameDamaged.InhibitFollows := by
  unfold State.frameDamaged
  dsimp only
  split
  · exact h.setHost _
  · exact h.frame (by simp)

theorem placeHostFrame (h : s.InhibitFollows) (f : HostFrame) : (s.placeHostFrame f).InhibitFollows :=
  ite (h.setHost _) (ite (h.setHost _) ((h.setHost _).reply f .busy))

theorem hostReceive (h : s.InhibitFollows) (n : Nat) (bytes : List Byte) : (Machine.hostReceive n bytes s).InhibitFollows := by
  induction n generalizing bytes s with
  | zero => exact h.setHost _
  | succ n ih =>
    unfold Machine.hostReceive
    split
    · exact h.setHost _
    · exact h.setHost _
    · exact (ih h.frameDamaged _).ite (ite (h.setHost _) ((ih (h.placeHostFrame _) _).ite (ih h.frameDamaged _)))

theorem gapTimeout (h : s.InhibitFollows) : s.gapTimeout.InhibitFollows := by
  unfold State.gapTimeout
  split
  · exact h
  · exact h.frameDamaged.hostReceive _ _

/-- R157: the taking of a command moves the command intake queue alone. -/
theorem takeCommand (h : s.InhibitFollows) (mine : Byte → Bool) {handle : State → HostFrame → State}
    (hhandle : ∀ u f, u.InhibitFollows → (handle u f).InhibitFollows) : (s.takeCommand mine handle).InhibitFollows := by
  obtain ⟨f, rest, -, -, -, heq⟩ | heq := takeCommand_cases s mine handle <;> rw [heq]
  · exact hhandle _ f (h.setHost _)
  · exact h

theorem provision (h : s.InhibitFollows) (f : HostFrame) : (s.provision f).InhibitFollows :=
  (h.reply f _).ite ((h.reply f _).ite ((h.reply f _).ite ((h.frame (t := s.acceptIdentity _) ⟨rfl, rfl⟩).reply f _)))

theorem setParameters (h : s.InhibitFollows) (f : HostFrame) : (s.setParameters f).InhibitFollows := by
  unfold State.setParameters
  split
  · exact (h.reply f _).ite ((h.setHost _).reply f _)
  · exact h.reply f _

theorem loadSiteCommand (h : s.InhibitFollows) (f : HostFrame) : (s.loadSiteCommand f).InhibitFollows := by
  unfold State.loadSiteCommand
  dsimp only
  split
  · exact (h.reply f _).ite ((h.frame (by simp)).reply f _ _)
  · exact h.reply f _

theorem dropSiteCommand (h : s.InhibitFollows) (f : HostFrame) : (s.dropSiteCommand f).InhibitFollows := by
  unfold State.dropSiteCommand
  refine (h.reply f _).ite ?_
  split
  · exact h.reply f _
  · exact (h.reply f _).ite ((h.frame (by simp)).reply f _ _)

theorem setHuntChannels (h : s.InhibitFollows) (f : HostFrame) : (s.setHuntChannels f).InhibitFollows := by
  unfold State.setHuntChannels
  split
  · exact (h.reply f _).ite ((h.setScan _).reply f _)
  · exact h.reply f _

theorem groupPart (h : s.InhibitFollows) (f : HostFrame) (part : Nat) (final : Bool) (pairs : List GroupPair) :
    (s.groupPart f part final pairs).InhibitFollows := by
  have hassembly (a : Option Assembly) : (s.setAssembly a).InhibitFollows := h.setHost _
  have hreplaced (gathered : List GroupPair) : ((s.setAssembly none).replaceGroups gathered).InhibitFollows := by
    unfold State.replaceGroups
    exact ite ((hassembly none).frame (by simp)) ((hassembly none).frame (by simp))
  unfold State.groupPart
  split
  · exact (hassembly none).reply f _
  · exact ((hreplaced _).reply f _).ite (((hassembly none).reply f _).ite ((hassembly _).reply f _))

theorem setGroupsCommand (h : s.InhibitFollows) (f : HostFrame) : (s.setGroupsCommand f).InhibitFollows := by
  unfold State.setGroupsCommand
  split
  · split
    · exact (h.reply f _).ite (h.groupPart f _ _ _)
    · exact h.reply f _
  · exact h.reply f _

/-- R91: START enters HUNT. -/
theorem startCommand (h : s.InhibitFollows) (f : HostFrame) : (s.startCommand f).InhibitFollows :=
  (h.reply f _).ite ((h.reply f _).ite ((h.reply f _).ite ((startEngine h.running).reply f _)))

/-- R92: STOP enters STOPPED. -/
theorem stopCommand (h : s.InhibitFollows) (f : HostFrame) : (s.stopCommand f).InhibitFollows :=
  (h.reply f _).ite ((h.reply f _).ite ((stopEngine h.running).reply f _))

theorem callStateCommand (h : s.InhibitFollows) (f : HostFrame) : (s.callStateCommand f).InhibitFollows := by
  have hacts (c : CallRecord) : (s.setCall c).callActs.InhibitFollows := h.frame (by simp)
  unfold State.callStateCommand
  split
  · exact (h.reply f _).ite ((hacts _).reply f _ _)
  · exact h.reply f _

theorem roamHoldCommand (h : s.InhibitFollows) (f : HostFrame) : (s.roamHoldCommand f).InhibitFollows := by
  unfold State.roamHoldCommand
  split
  · exact (h.reply f _).ite ((h.frame (t := s.setRoam _) (by simp)).reply f _)
  · exact h.reply f _

theorem roamToCommand (h : s.InhibitFollows) (f : HostFrame) : (s.roamToCommand f).InhibitFollows := by
  unfold State.roamToCommand
  refine (h.reply f _).ite ((h.reply f _).ite ?_)
  split
  · exact h.reply f _
  · exact (h.reply f _).ite ((h.reply f _).ite
      ((startRegistration h.running _ .forced s.previousServing .registration).reply f _ _))

theorem roamAbortCommand (h : s.InhibitFollows) (f : HostFrame) : (s.roamAbortCommand f).InhibitFollows := by
  have haborted : ((s.failRoam .aborted none).reply f .ok).InhibitFollows := (failRoam h.running _ _).reply f _
  unfold State.roamAbortCommand
  refine (h.reply f _).ite ?_
  split
  · exact haborted
  · exact haborted
  · exact haborted.ite (h.reply f _)
  all_goals exact h.reply f _

theorem querySite (h : s.InhibitFollows) (f : HostFrame) : (s.querySite f).InhibitFollows :=
  (h.reply f _).ite (h.reply f _ _)

theorem queryStatus (h : s.InhibitFollows) (f : HostFrame) : (s.queryStatus f).InhibitFollows :=
  (h.reply f _).ite (h.reply f _ _)

theorem recallClear (h : s.InhibitFollows) (f : HostFrame) : (s.recallClear f).InhibitFollows :=
  (h.reply f _).ite ((h.setRecallArea _).reply f _)

theorem resetCommand (h : s.InhibitFollows) (f : HostFrame) : (s.resetCommand f).InhibitFollows :=
  (h.reply f _).ite ((h.setHost _).reply f _)

/-! ## The recall writer, power and the resets -/

theorem recallWriteComplete (h : s.InhibitFollows) : s.recallWriteComplete.InhibitFollows := by
  unfold State.recallWriteComplete
  split
  · exact h.frame ⟨rfl, rfl⟩
  · exact h

theorem recallEraseComplete (h : s.InhibitFollows) : s.recallEraseComplete.InhibitFollows := by
  unfold State.recallEraseComplete
  split
  · exact h.frame ⟨rfl, rfl⟩
  · exact h

/-- R89, R141, R164: after a reset the LN742 runs, with the engine STOPPED and TXINH released. -/
theorem takeResetValues (s : State) (area : RecallArea) (cause : EngineCause) :
    (s.takeResetValues area cause).InhibitFollows := ⟨rfl, rfl⟩

theorem recordSent (h : s.InhibitFollows) : s.recordSent.InhibitFollows := by
  unfold State.recordSent
  split
  · exact (takeResetValues s _ _).ite (h.frame ⟨rfl, rfl⟩)
  · exact h

theorem softResetDue (h : s.InhibitFollows) : s.softResetDue.InhibitFollows := by
  unfold State.softResetDue
  split
  · exact (takeResetValues s _ _).ite h
  · exact h

end State.InhibitFollows

/-! ## Every row -/

namespace State.inhibitSound

variable {s : State}

theorem ite {c : Prop} [Decidable c] {u v : State} (hu : u.inhibitSound) (hv : v.inhibitSound) :
    (if c then u else v).inhibitSound := by
  split
  · exact hu
  · exact hv

/-- R141: a row of the running LN742; without power or under RSTN it does nothing. -/
theorem whileRunning (h : s.inhibitSound) {f : State → State} (hf : s.InhibitFollows → (f s).InhibitFollows) :
    (whileRunning f s).inhibitSound := by
  by_cases hs : s.pins.supply = .running
  · have hafter := hf ((s.inhibitSound_iff hs).1 h)
    rw [whileRunning_of_running hs]
    exact (State.inhibitSound_iff hafter.running).2 hafter
  · simpa [Machine.whileRunning, hs] using h

theorem takeKind (h : s.inhibitSound) (kind : Byte) {handle : State → HostFrame → State}
    (hhandle : ∀ u f, u.InhibitFollows → (handle u f).InhibitFollows) : (takeKind kind handle s).inhibitSound :=
  h.whileRunning fun hs => hs.takeCommand _ hhandle

/-- R141, log 16: RSTN low and power loss release TXINH. -/
theorem powerDown (s : State) {supply : Supply} (hdown : supply ≠ .running) : (s.powerDown supply).inhibitSound := by
  simp [State.inhibitSound, State.powerDown, hdown]

theorem powerOn (h : s.inhibitSound) : s.powerOn.inhibitSound :=
  ite h ((State.inhibitSound_iff rfl).2 (InhibitFollows.takeResetValues s _ _))

/-- R141, R164: every row keeps TXINH at what the engine state asks for. -/
theorem exec {c : Instr} {t : State} (h : s.inhibitSound) (hexec : exec c s = .next t) : t.inhibitSound := by
  have hnext {u : State} (heq : Host.Outcome.next (φ := Fault) (ρ := Refusal) u = .next t) (hu : u.inhibitSound) :
      t.inhibitSound := Host.Outcome.next.inj heq ▸ hu
  cases c with
  | frameRecordComplete bytes => exact hnext hexec (h.whileRunning fun hs => hs.receiveFrontEnd bytes)
  | burstDone bytes => exact hnext hexec (h.whileRunning fun hs => hs.receiveFrontEnd bytes)
  | recordTaken => exact hnext hexec (h.whileRunning fun hs => hs.takeRecord)
  | heardAgeLimit index => exact hnext hexec (h.whileRunning fun hs => hs.heardAgeLimit index)
  | barEnd index => exact hnext hexec (h.whileRunning fun hs => hs.barEnd index)
  | departureDecay => exact hnext hexec (h.whileRunning fun hs => hs.departureDecay)
  | digestAgeLimit index => exact hnext hexec (h.whileRunning fun hs => hs.digestAgeLimit index)
  | servingReport => exact hnext hexec (h.whileRunning fun hs => hs.servingReport)
  | servingLossLimit => exact hnext hexec (h.whileRunning fun hs => hs.servingLossLimit)
  | huntListenReadLimit => exact hnext hexec (h.whileRunning fun hs => hs.huntListenReadLimit)
  | huntLimit => exact hnext hexec (h.whileRunning fun hs => hs.huntLimit)
  | readingUnreadable => exact hnext hexec (h.whileRunning fun hs => hs.readingUnreadable)
  | grantWaitTimeout => exact hnext hexec (h.whileRunning fun hs => hs.grantWaitTimeout)
  | tooLong => exact hnext hexec (h.whileRunning fun hs => hs.tooLong)
  | affilAckWaitTimeout => exact hnext hexec (h.whileRunning fun hs => hs.affilAckWaitTimeout)
  | silenceTimeout => exact hnext hexec (h.whileRunning fun hs => hs.silenceTimeout)
  | hostFrameComplete bytes => exact hnext hexec (h.whileRunning fun hs => hs.hostReceive _ _)
  | interByteGapTimeout => exact hnext hexec (h.whileRunning fun hs => hs.gapTimeout)
  | unknownKindCommand =>
    exact hnext hexec (h.whileRunning fun hs => hs.takeCommand _ fun _ f hu => hu.reply f .unknownKind)
  | provision => exact hnext hexec (h.takeKind _ fun _ f hu => hu.provision f)
  | setParameters => exact hnext hexec (h.takeKind _ fun _ f hu => hu.setParameters f)
  | loadSite => exact hnext hexec (h.takeKind _ fun _ f hu => hu.loadSiteCommand f)
  | dropSite => exact hnext hexec (h.takeKind _ fun _ f hu => hu.dropSiteCommand f)
  | setHuntChannels => exact hnext hexec (h.takeKind _ fun _ f hu => hu.setHuntChannels f)
  | setGroups => exact hnext hexec (h.takeKind _ fun _ f hu => hu.setGroupsCommand f)
  | start => exact hnext hexec (h.takeKind _ fun _ f hu => hu.startCommand f)
  | stop => exact hnext hexec (h.takeKind _ fun _ f hu => hu.stopCommand f)
  | callState => exact hnext hexec (h.takeKind _ fun _ f hu => hu.callStateCommand f)
  | roamHold => exact hnext hexec (h.takeKind _ fun _ f hu => hu.roamHoldCommand f)
  | roamTo => exact hnext hexec (h.takeKind _ fun _ f hu => hu.roamToCommand f)
  | roamAbort => exact hnext hexec (h.takeKind _ fun _ f hu => hu.roamAbortCommand f)
  | querySite => exact hnext hexec (h.takeKind _ fun _ f hu => hu.querySite f)
  | queryStatus => exact hnext hexec (h.takeKind _ fun _ f hu => hu.queryStatus f)
  | recallClear => exact hnext hexec (h.takeKind _ fun _ f hu => hu.recallClear f)
  | reset => exact hnext hexec (h.takeKind _ fun _ f hu => hu.resetCommand f)
  | recordSent => exact hnext hexec (h.whileRunning fun hs => hs.recordSent)
  | softReset => exact hnext hexec (h.whileRunning fun hs => hs.softResetDue)
  | rstnLow => exact hnext hexec ((powerDown s (by decide)).ite h)
  | powerOn => exact hnext hexec h.powerOn
  | recallWriteComplete => exact hnext hexec (h.whileRunning fun hs => hs.recallWriteComplete)
  | recallEraseComplete => exact hnext hexec (h.whileRunning fun hs => hs.recallEraseComplete)
  | powerLoss => exact hnext hexec (h.ite (powerDown s (by decide)))
  | hostFrameLengthDiscard bytes => exact hnext hexec (h.whileRunning fun hs => hs.hostReceive _ _)
  | frontEndLengthDiscard bytes => exact hnext hexec (h.whileRunning fun hs => hs.receiveFrontEnd bytes)

end State.inhibitSound

end Sys2Proof.Machine
end

section
/-! PROOFS. TXINH follows the engine state (O3). -/

namespace Sys2Proof.Proofs

open Sys2Proof Sys2Proof.Machine

/-- Settles O3: every change of engine state sets TXINH, and nothing else moves either of them while the LN742 runs. -/
theorem everyStepKeepsTheInhibitSound : Obligations.EveryStepKeepsTheInhibitSound := by
  intro s t h hstep
  unfold step at hstep
  split at hstep
  · next rest _ =>
    have hpending : (s.setPending rest).inhibitSound := h
    exact hpending.exec hstep
  · cases hstep
    exact h

end Sys2Proof.Proofs
end

section
/-! SUPPORT. What the host sets (R82, R94, R143, R152, R160 to R162, R167), and what every row leaves of it. -/

namespace Sys2Proof.Machine

/-! ## What the host sets -/

/-- What the host sets, with the recall list, which no command changes. -/
structure HostSettings where
  call : CallRecord
  hold : Bool
  identity : Option Identity
  locked : Bool
  huntChannels : List Nat
  assembly : Option Assembly
  active : List Nat
  pendingParams : List (Option Nat)
  recallList : List Site

/-- What the host has set in a state. -/
def State.settings (s : State) : HostSettings where
  call := s.call
  hold := s.roam.hold
  identity := s.groups.identity
  locked := s.host.locked
  huntChannels := s.scan.huntChannels
  assembly := s.host.assembly
  active := s.host.active
  pendingParams := s.host.pendingParams
  recallList := s.recallArea.list

/-- What a row other than a reset may change of the settings: each its own, RESET the assembly, and a taken record the
parameters (R162). -/
structure HostSettings.ChangedOnlyBy (c : Instr) (old new : HostSettings) : Prop where
  call : c ≠ .callState → new.call = old.call
  hold : c ≠ .roamHold → new.hold = old.hold
  identity : c ≠ .provision → new.identity = old.identity
  locked : c ≠ .provision → new.locked = old.locked
  huntChannels : c ≠ .setHuntChannels → new.huntChannels = old.huntChannels
  assembly : c ≠ .setGroups → c ≠ .reset → new.assembly = old.assembly
  discarded : c = .reset → new.assembly = old.assembly ∨ new.assembly = none
  active : c ≠ .recordTaken → new.active = old.active
  pendingParams : c ≠ .recordTaken → c ≠ .setParameters → new.pendingParams = old.pendingParams
  recallList : new.recallList = old.recallList

theorem HostSettings.ChangedOnlyBy.of_eq {c : Instr} {old new : HostSettings} (h : new = old) : old.ChangedOnlyBy c new := by
  subst h
  exact ⟨fun _ => rfl, fun _ => rfl, fun _ => rfl, fun _ => rfl, fun _ => rfl, fun _ _ => rfl, fun _ => .inl rfl,
    fun _ => rfl, fun _ _ => rfl, rfl⟩

namespace State

/-- An operation that acts or not. -/
theorem settings_ite {c : Prop} [Decidable c] {s u v : State} (hu : u.settings = s.settings) (hv : v.settings = s.settings) :
    (if c then u else v).settings = s.settings := by
  split
  · exact hu
  · exact hv

/-! ## The operations that the rows share -/

@[simp] theorem reply_settings (s : State) (f : HostFrame) (code : ReplyCode) (result : List Byte) :
    (s.reply f code result).settings = s.settings := by simp [settings]

@[simp] theorem event_settings (s : State) (e : Event) : (s.event e).settings = s.settings := by simp [settings]

theorem takeLost_settings (s : State) (cause : EngineCause) : (s.takeLost cause).settings = s.settings := by simp [settings]

theorem failRoam_settings (s : State) (cause : FailureCause) (bar : Option Nat) :
    (s.failRoam cause bar).settings = s.settings := by simp [settings]

/-! ## The Front-End receiver and the limit rows -/

theorem modemRecord_settings (s : State) (kind : Byte) (body : List Byte) :
    (s.modemRecord kind body).settings = s.settings := by
  unfold modemRecord
  split
  · simp [settings]
  · simp [settings]
  · simp [settings]

theorem frontEndReceive_settings (s : State) (n : Nat) (bytes : List Byte) :
    (frontEndReceive n bytes s).settings = s.settings := by
  induction n generalizing bytes s with
  | zero => rfl
  | succ n ih =>
    have hcounted (rest : List Byte) : (frontEndReceive n rest s.countCheckError).settings = s.settings := by
      rw [ih]
      simp [settings]
    unfold frontEndReceive
    split
    · rfl
    · rfl
    · refine settings_ite (hcounted _) (settings_ite rfl (settings_ite ?_ (hcounted _)))
      rw [ih, modemRecord_settings]

theorem receiveFrontEnd_settings (s : State) (bytes : List Byte) : (s.receiveFrontEnd bytes).settings = s.settings :=
  s.frontEndReceive_settings _ _

theorem heardAgeLimit_settings (s : State) (i : Nat) : (s.heardAgeLimit i).settings = s.settings :=
  settings_ite (by simp [settings]) rfl

theorem barEnd_settings (s : State) (i : Nat) : (s.barEnd i).settings = s.settings := settings_ite (by simp [settings]) rfl

theorem departureDecay_settings (s : State) : s.departureDecay.settings = s.settings := settings_ite (by simp [settings]) rfl

theorem digestAgeLimit_settings (s : State) (i : Nat) : (s.digestAgeLimit i).settings = s.settings :=
  settings_ite (by simp [settings]) rfl

theorem servingReport_settings (s : State) : s.servingReport.settings = s.settings := settings_ite (by simp [settings]) rfl

theorem servingLossLimit_settings (s : State) : s.servingLossLimit.settings = s.settings :=
  settings_ite (by simp [settings]) rfl

theorem huntListenReadLimit_settings (s : State) : s.huntListenReadLimit.settings = s.settings := by
  unfold huntListenReadLimit
  split
  · exact settings_ite (by simp [settings]) rfl
  · rfl

theorem huntLimit_settings (s : State) : s.huntLimit.settings = s.settings := settings_ite (by simp [settings]) rfl

theorem readingUnreadable_settings (s : State) : s.readingUnreadable.settings = s.settings :=
  settings_ite (by simp [settings]) rfl

theorem grantWaitTimeout_settings (s : State) : s.grantWaitTimeout.settings = s.settings :=
  settings_ite (by simp [settings]) rfl

theorem tooLong_settings (s : State) : s.tooLong.settings = s.settings := settings_ite (by simp [settings]) rfl

theorem affilAckWaitTimeout_settings (s : State) : s.affilAckWaitTimeout.settings = s.settings := by
  unfold affilAckWaitTimeout
  refine settings_ite ?_ rfl
  split
  · simp [settings]
  · simp [settings]
  · rfl

theorem silenceTimeout_settings (s : State) : s.silenceTimeout.settings = s.settings := by
  have hsilent : ((s.setIntake { s.intake with silenceRunning := false, timing := .holdover }).event
      .frontEndSilent).settings = s.settings := event_settings _ _
  refine settings_ite (settings_ite ?_ hsilent) rfl
  rw [takeLost_settings]
  simp [settings]

/-! ## The Host Link -/

theorem frameDamaged_settings (s : State) : s.frameDamaged.settings = s.settings := by
  unfold frameDamaged
  dsimp only
  split
  · rfl
  · exact event_settings _ _

theorem placeHostFrame_settings (s : State) (f : HostFrame) : (s.placeHostFrame f).settings = s.settings :=
  settings_ite rfl (settings_ite rfl (reply_settings _ f .busy []))

theorem hostReceive_settings (s : State) (n : Nat) (bytes : List Byte) : (hostReceive n bytes s).settings = s.settings := by
  induction n generalizing bytes s with
  | zero => rfl
  | succ n ih =>
    have hdamaged (rest : List Byte) : (hostReceive n rest s.frameDamaged).settings = s.settings := by
      rw [ih, frameDamaged_settings]
    unfold hostReceive
    split
    · rfl
    · rfl
    · refine settings_ite (hdamaged _) (settings_ite rfl (settings_ite ?_ (hdamaged _)))
      rw [ih, placeHostFrame_settings]

theorem gapTimeout_settings (s : State) : s.gapTimeout.settings = s.settings := by
  unfold gapTimeout
  split
  · rfl
  · rw [hostReceive_settings, frameDamaged_settings]

/-! ## The commands that set nothing -/

theorem loadSiteCommand_settings (s : State) (f : HostFrame) : (s.loadSiteCommand f).settings = s.settings := by
  unfold loadSiteCommand
  dsimp only
  split
  · exact settings_ite (by simp) (by simp [settings])
  · simp

theorem dropSiteCommand_settings (s : State) (f : HostFrame) : (s.dropSiteCommand f).settings = s.settings := by
  unfold dropSiteCommand
  refine settings_ite (by simp) ?_
  split
  · simp
  · exact settings_ite (by simp) (by simp [settings])

theorem startCommand_settings (s : State) (f : HostFrame) : (s.startCommand f).settings = s.settings :=
  settings_ite (by simp) (settings_ite (by simp) (settings_ite (by simp) (by simp [settings])))

theorem stopCommand_settings (s : State) (f : HostFrame) : (s.stopCommand f).settings = s.settings :=
  settings_ite (by simp) (settings_ite (by simp) (by simp [settings]))

theorem roamToCommand_settings (s : State) (f : HostFrame) : (s.roamToCommand f).settings = s.settings := by
  unfold roamToCommand
  refine settings_ite (by simp) (settings_ite (by simp) ?_)
  split
  · simp
  · exact settings_ite (by simp) (settings_ite (by simp) (by simp [settings]))

theorem roamAbortCommand_settings (s : State) (f : HostFrame) : (s.roamAbortCommand f).settings = s.settings := by
  have haborted : ((s.failRoam .aborted none).reply f .ok).settings = s.settings := by
    rw [reply_settings, failRoam_settings]
  unfold roamAbortCommand
  refine settings_ite (by simp) ?_
  split
  · exact haborted
  · exact haborted
  · exact settings_ite haborted (by simp)
  all_goals simp

theorem querySite_settings (s : State) (f : HostFrame) : (s.querySite f).settings = s.settings :=
  settings_ite (by simp) (by simp)

theorem queryStatus_settings (s : State) (f : HostFrame) : (s.queryStatus f).settings = s.settings :=
  settings_ite (by simp) (by simp)

/-- R151, R152: RECALL CLEAR leaves the recall list. -/
theorem recallClear_settings (s : State) (f : HostFrame) : (s.recallClear f).settings = s.settings :=
  settings_ite (by simp) (by simp [settings, RecallArea.clear_list])

/-! ## The recall writer and power -/

theorem recallWriteComplete_settings (s : State) : s.recallWriteComplete.settings = s.settings := by
  unfold recallWriteComplete
  split
  · simp [settings, RecallArea.finishWrite_list]
  · rfl

theorem recallEraseComplete_settings (s : State) : s.recallEraseComplete.settings = s.settings := by
  unfold recallEraseComplete
  split
  · simp [settings, RecallArea.finishErase, RecallArea.nextWork_list]
  · rfl

theorem powerDown_settings (s : State) (supply : Supply) : (s.powerDown supply).settings = s.settings := by
  simp [settings, powerDown, RecallArea.interrupt_list]

theorem rstnLow_settings (s : State) : s.rstnLow.settings = s.settings := settings_ite (s.powerDown_settings _) rfl

theorem powerLoss_settings (s : State) : s.powerLoss.settings = s.settings := settings_ite rfl (s.powerDown_settings _)

/-! ## The rows that set something -/

/-- R162: up to the naming of a record the activation of the pending parameters alone touches the settings. -/
theorem recordNamed_settings (s : State) (r : Frame) (rest : List Frame) :
    (s.recordNamed r rest).1.settings =
      { s.settings with
        active := (s.recordNamed r rest).1.host.active
        pendingParams := (s.recordNamed r rest).1.host.pendingParams } := by
  have hcall : (s.frameTaken r rest).call = s.call := rfl
  have hrecall : (s.frameTaken r rest).recallArea = s.recallArea := rfl
  by_cases hmulti : (s.frameTaken r rest).atMultiframe <;> simp [recordNamed, hmulti, settings, hcall, hrecall]

/-- R162: a taken record changes the parameters at most. -/
theorem takeRecord_settings (s : State) :
    ∃ active pending, s.takeRecord.settings = { s.settings with active := active, pendingParams := pending } := by
  unfold takeRecord
  split
  · next r rest _ =>
    have hblocks (u : State) (role : Role) (multiframe lossRaised : Bool) :
        (u.blocksHandle s r role multiframe lossRaised).settings = u.settings := by simp [settings]
    rw [handleRecord_eq, hblocks]
    exact ⟨_, _, s.recordNamed_settings r rest⟩
  · exact ⟨_, _, rfl⟩

/-- R81, R86, R144: what a call state abandons is none of the settings. -/
theorem callActs_settings (s : State) : s.callActs.settings = s.settings :=
  settings_ite (by simp [settings]) (settings_ite (by simp [settings]) rfl)

/-- R143: CALL STATE sets the call state record at most. -/
theorem callStateCommand_settings (s : State) (f : HostFrame) :
    ∃ call, (s.callStateCommand f).settings = { s.settings with call := call } := by
  unfold callStateCommand
  split
  · next call emergency _ _ =>
    split
    · exact ⟨s.call, reply_settings _ _ _ _⟩
    · exact ⟨{ call := call, emergency := emergency }, (reply_settings _ _ _ _).trans (callActs_settings (s.setCall _))⟩
  · exact ⟨s.call, reply_settings _ _ _ _⟩

/-- R94: ROAM HOLD sets the hold at most. -/
theorem roamHoldCommand_settings (s : State) (f : HostFrame) :
    ∃ hold, (s.roamHoldCommand f).settings = { s.settings with hold := hold } := by
  unfold roamHoldCommand
  split
  · next hold _ =>
    split
    · exact ⟨s.roam.hold, reply_settings _ _ _ _⟩
    · exact ⟨hold, reply_settings _ _ _ _⟩
  · exact ⟨s.roam.hold, reply_settings _ _ _ _⟩

/-- R160: PROVISION sets the identity and the lock at most. -/
theorem provision_settings (s : State) (f : HostFrame) :
    ∃ identity locked, (s.provision f).settings = { s.settings with identity := identity, locked := locked } := by
  unfold provision
  dsimp only
  repeat' split
  · exact ⟨s.groups.identity, s.host.locked, reply_settings _ _ _ _⟩
  · exact ⟨s.groups.identity, s.host.locked, reply_settings _ _ _ _⟩
  · exact ⟨s.groups.identity, s.host.locked, reply_settings _ _ _ _⟩
  · exact ⟨some (BitVec.ofNat 24 (at24 f.body 0)), true, reply_settings _ _ _ _⟩

/-- R82: SET HUNT CHANNELS sets the hunt channel list at most. -/
theorem setHuntChannels_settings (s : State) (f : HostFrame) :
    ∃ channels, (s.setHuntChannels f).settings = { s.settings with huntChannels := channels } := by
  unfold setHuntChannels
  split
  · next channels _ =>
    split
    · exact ⟨s.scan.huntChannels, reply_settings _ _ _ _⟩
    · exact ⟨channels.take maxHuntChannels, reply_settings _ _ _ _⟩
  · exact ⟨s.scan.huntChannels, reply_settings _ _ _ _⟩

/-- R161: SET PARAMETERS sets the pending parameters at most. -/
theorem setParameters_settings (s : State) (f : HostFrame) :
    ∃ pending, (s.setParameters f).settings = { s.settings with pendingParams := pending } := by
  unfold setParameters
  split
  · next items _ =>
    split
    · exact ⟨s.host.pendingParams, reply_settings _ _ _ _⟩
    · exact ⟨writeItems s.host.pendingParams items, reply_settings _ _ _ _⟩
  · exact ⟨s.host.pendingParams, reply_settings _ _ _ _⟩

/-- R126, R136: a new group list is none of the settings. -/
theorem replaceGroups_settings (s : State) (pairs : List GroupPair) : (s.replaceGroups pairs).settings = s.settings := by
  unfold replaceGroups
  dsimp only
  split <;> simp [settings, setGroupList]

/-- R167: SET GROUPS sets the group assembly at most. -/
theorem setGroupsCommand_settings (s : State) (f : HostFrame) :
    ∃ assembly, (s.setGroupsCommand f).settings = { s.settings with assembly := assembly } := by
  have hreply (code : ReplyCode) : ∃ assembly, (s.reply f code).settings = { s.settings with assembly := assembly } :=
    ⟨s.host.assembly, reply_settings _ _ _ _⟩
  have hassembly (a : Option Assembly) (code : ReplyCode) :
      ∃ assembly, ((s.setAssembly a).reply f code).settings = { s.settings with assembly := assembly } :=
    ⟨a, reply_settings _ _ _ _⟩
  unfold setGroupsCommand
  split
  · split
    · split
      · exact hreply _
      · unfold groupPart
        split
        · exact hassembly _ _
        · split
          · exact ⟨none, by rw [reply_settings, replaceGroups_settings]; rfl⟩
          · split
            · exact hassembly _ _
            · exact hassembly _ _
    · exact hreply _
  · exact hreply _

/-- R167: RESET discards the group assembly. -/
theorem resetCommand_settings (s : State) (f : HostFrame) :
    (s.resetCommand f).settings = s.settings ∨ (s.resetCommand f).settings = { s.settings with assembly := none } := by
  unfold resetCommand
  split
  · exact .inl (reply_settings _ _ _ _)
  · exact .inr (reply_settings _ _ _ _)

end State

/-! ## Every row -/

/-- R157: a row of a command changes of the settings what its handling of a frame changes. -/
theorem takeCommand_changedOnlyBy {c : Instr} (s : State) (mine : Byte → Bool) {handle : State → HostFrame → State}
    (hhandle : ∀ (u : State) f, u.settings.ChangedOnlyBy c (handle u f).settings) :
    s.settings.ChangedOnlyBy c (whileRunning (fun u => u.takeCommand mine handle) s).settings := by
  unfold whileRunning
  dsimp only
  split
  · obtain ⟨f, rest, -, -, -, heq⟩ | heq := takeCommand_cases s mine handle <;> rw [heq]
    · exact hhandle (s.setHost (s.host.taken rest)) f
    · exact .of_eq rfl
  · exact .of_eq rfl

/-- A row of the running LN742 that sets nothing. -/
theorem whileRunning_changedOnlyBy {c : Instr} {s : State} {f : State → State} (hf : (f s).settings = s.settings) :
    s.settings.ChangedOnlyBy c (whileRunning f s).settings := .of_eq (State.settings_ite hf rfl)

/-- R82, R94, R143, R160 to R162, R167: every row but a reset changes of the settings its own alone. -/
theorem exec_changedOnlyBy {c : Instr} {s t : State} (hexec : exec c s = .next t) (hreset : mayReset c = false) :
    s.settings.ChangedOnlyBy c t.settings := by
  have hnext {u : State} (heq : Host.Outcome.next (φ := Fault) (ρ := Refusal) u = .next t)
      (hu : s.settings.ChangedOnlyBy c u.settings) : s.settings.ChangedOnlyBy c t.settings := Host.Outcome.next.inj heq ▸ hu
  have hplain {mine : Byte → Bool} {handle : State → HostFrame → State}
      (hhandle : ∀ u f, (handle u f).settings = u.settings) :
      s.settings.ChangedOnlyBy c (whileRunning (fun u => u.takeCommand mine handle) s).settings :=
    takeCommand_changedOnlyBy s mine fun u f => .of_eq (hhandle u f)
  cases c with
  | frameRecordComplete bytes => exact hnext hexec (whileRunning_changedOnlyBy (s.receiveFrontEnd_settings bytes))
  | burstDone bytes => exact hnext hexec (whileRunning_changedOnlyBy (s.receiveFrontEnd_settings bytes))
  | recordTaken =>
    refine hnext hexec ?_
    unfold whileRunning
    split
    · obtain ⟨active, pending, heq⟩ := s.takeRecord_settings
      rw [heq]
      constructor <;> simp
    · exact .of_eq rfl
  | heardAgeLimit index => exact hnext hexec (whileRunning_changedOnlyBy (s.heardAgeLimit_settings index))
  | barEnd index => exact hnext hexec (whileRunning_changedOnlyBy (s.barEnd_settings index))
  | departureDecay => exact hnext hexec (whileRunning_changedOnlyBy s.departureDecay_settings)
  | digestAgeLimit index => exact hnext hexec (whileRunning_changedOnlyBy (s.digestAgeLimit_settings index))
  | servingReport => exact hnext hexec (whileRunning_changedOnlyBy s.servingReport_settings)
  | servingLossLimit => exact hnext hexec (whileRunning_changedOnlyBy s.servingLossLimit_settings)
  | huntListenReadLimit => exact hnext hexec (whileRunning_changedOnlyBy s.huntListenReadLimit_settings)
  | huntLimit => exact hnext hexec (whileRunning_changedOnlyBy s.huntLimit_settings)
  | readingUnreadable => exact hnext hexec (whileRunning_changedOnlyBy s.readingUnreadable_settings)
  | grantWaitTimeout => exact hnext hexec (whileRunning_changedOnlyBy s.grantWaitTimeout_settings)
  | tooLong => exact hnext hexec (whileRunning_changedOnlyBy s.tooLong_settings)
  | affilAckWaitTimeout => exact hnext hexec (whileRunning_changedOnlyBy s.affilAckWaitTimeout_settings)
  | silenceTimeout => exact hnext hexec (whileRunning_changedOnlyBy s.silenceTimeout_settings)
  | hostFrameComplete bytes => exact hnext hexec (whileRunning_changedOnlyBy (s.hostReceive_settings _ _))
  | interByteGapTimeout => exact hnext hexec (whileRunning_changedOnlyBy s.gapTimeout_settings)
  | unknownKindCommand => exact hnext hexec (hplain fun u f => u.reply_settings f .unknownKind [])
  | provision =>
    refine hnext hexec (takeCommand_changedOnlyBy s _ fun u f => ?_)
    obtain ⟨identity, locked, heq⟩ := u.provision_settings f
    rw [heq]
    constructor <;> simp
  | setParameters =>
    refine hnext hexec (takeCommand_changedOnlyBy s _ fun u f => ?_)
    obtain ⟨pending, heq⟩ := u.setParameters_settings f
    rw [heq]
    constructor <;> simp
  | loadSite => exact hnext hexec (hplain State.loadSiteCommand_settings)
  | dropSite => exact hnext hexec (hplain State.dropSiteCommand_settings)
  | setHuntChannels =>
    refine hnext hexec (takeCommand_changedOnlyBy s _ fun u f => ?_)
    obtain ⟨channels, heq⟩ := u.setHuntChannels_settings f
    rw [heq]
    constructor <;> simp
  | setGroups =>
    refine hnext hexec (takeCommand_changedOnlyBy s _ fun u f => ?_)
    obtain ⟨assembly, heq⟩ := u.setGroupsCommand_settings f
    rw [heq]
    constructor <;> simp
  | start => exact hnext hexec (hplain State.startCommand_settings)
  | stop => exact hnext hexec (hplain State.stopCommand_settings)
  | callState =>
    refine hnext hexec (takeCommand_changedOnlyBy s _ fun u f => ?_)
    obtain ⟨call, heq⟩ := u.callStateCommand_settings f
    rw [heq]
    constructor <;> simp
  | roamHold =>
    refine hnext hexec (takeCommand_changedOnlyBy s _ fun u f => ?_)
    obtain ⟨hold, heq⟩ := u.roamHoldCommand_settings f
    rw [heq]
    constructor <;> simp
  | roamTo => exact hnext hexec (hplain State.roamToCommand_settings)
  | roamAbort => exact hnext hexec (hplain State.roamAbortCommand_settings)
  | querySite => exact hnext hexec (hplain State.querySite_settings)
  | queryStatus => exact hnext hexec (hplain State.queryStatus_settings)
  | recallClear => exact hnext hexec (hplain State.recallClear_settings)
  | reset =>
    refine hnext hexec (takeCommand_changedOnlyBy s _ fun u f => ?_)
    obtain heq | heq := u.resetCommand_settings f <;> rw [heq]
    · exact .of_eq rfl
    · constructor <;> simp
  | recordSent => cases hreset
  | softReset => cases hreset
  | rstnLow => exact hnext hexec (.of_eq s.rstnLow_settings)
  | powerOn => cases hreset
  | recallWriteComplete => exact hnext hexec (whileRunning_changedOnlyBy s.recallWriteComplete_settings)
  | recallEraseComplete => exact hnext hexec (whileRunning_changedOnlyBy s.recallEraseComplete_settings)
  | powerLoss => exact hnext hexec (.of_eq s.powerLoss_settings)
  | hostFrameLengthDiscard bytes => exact hnext hexec (whileRunning_changedOnlyBy (s.hostReceive_settings _ _))
  | frontEndLengthDiscard bytes => exact hnext hexec (whileRunning_changedOnlyBy (s.receiveFrontEnd_settings bytes))

end Sys2Proof.Machine
end

section
/-! PROOFS. What the host sets changes by its own command alone (O7). -/

namespace Sys2Proof.Proofs

open Sys2Proof Sys2Proof.Machine

/-- Settles O7: row by row, from what each row may change of the settings. -/
theorem hostSettingsChangeOnlyByTheirCommands : Obligations.HostSettingsChangeOnlyByTheirCommands := by
  intro c s t hexec hreset
  have h := exec_changedOnlyBy hexec hreset
  exact ⟨h.call, h.hold, fun hc => ⟨h.identity hc, h.locked hc⟩, h.huntChannels, h.assembly, h.discarded, h.active,
    h.pendingParams, h.recallList⟩

end Sys2Proof.Proofs
end

section
/-! SUPPORT. What an operation of the recall writer that ends unfinished leaves on the page (R153). -/

namespace Sys2Proof.Machine

/-- R149: a torn content is not blank, and its check does not match. -/
theorem tornSlot_torn (k : Nat) : slotBlank (tornSlot k) = false ∧ crc8 ((tornSlot k).take 5) ≠ at8 (tornSlot k) 5 := by
  unfold tornSlot
  dsimp only
  split
  · next h => exact h.2
  · exact ⟨by decide, by decide +kernel⟩

/-- R149: a content whose check does not match records no site. -/
theorem readSlot_of_bad_check {b : List Byte} (h : crc8 (b.take 5) ≠ at8 b 5) : readSlot b = none :=
  if_neg fun hvalid => h hvalid.2.1

/-- R149: blank bytes, as a slot, are a blank slot. -/
theorem slotUsed_of_blank {m : List Host.Cell} {slot : Nat}
    (h : readSlotBytes m slot = List.replicate slotSize blankByte) : slotUsed m slot = false := by
  rw [slotUsed, h]
  decide

/-- R149: a slot with a torn content is torn. -/
theorem slotTorn_of_tornSlot {m : List Host.Cell} {slot k : Nat} (h : readSlotBytes m slot = tornSlot k) :
    slotTorn m slot = true := by
  obtain ⟨hused, hcheck⟩ := tornSlot_torn k
  simp [slotTorn, slotUsed, slotSite, h, hused, readSlot_of_bad_check hcheck]

/-- R153: an interrupted write leaves its slot blank, torn or valid. -/
theorem interruptedSlot_cases (k : Nat) (site : Site) :
    interruptedSlot k site = List.replicate slotSize blankByte ∨ interruptedSlot k site = tornSlot k
      ∨ interruptedSlot k site = slotBytes site := by
  unfold interruptedSlot
  split
  · exact .inl rfl
  · split
    · exact .inr (.inl rfl)
    · exact .inr (.inr rfl)

theorem length_interruptedSlot (k : Nat) (site : Site) : (interruptedSlot k site).length = slotSize := by
  obtain h | h | h := interruptedSlot_cases k site <;> rw [h]
  · exact List.length_replicate
  · exact length_tornSlot k
  · exact length_slotBytes site

/-- R153: an interrupted write leaves every other slot as it was. -/
theorem interruptedWrite_other {m : List Host.Cell} {fill j : Nat} (hm : Memory.wf m = true) (k : Nat) (site : Site)
    (hj : j ≠ fill) : readSlotBytes (writeSlot m fill (interruptedSlot k site)) j = readSlotBytes m j :=
  readSlotBytes_writeSlot_other hm hj

/-- R153: the slot of an interrupted write, as the page holds it. -/
theorem interruptedWrite_same {m : List Host.Cell} {fill : Nat} (hm : Memory.wf m = true) (k : Nat) (site : Site)
    (hfill : fill < slotCount) :
    slotUsed (writeSlot m fill (interruptedSlot k site)) fill = false
      ∨ slotTorn (writeSlot m fill (interruptedSlot k site)) fill = true
      ∨ readSlotBytes (writeSlot m fill (interruptedSlot k site)) fill = slotBytes site := by
  have hread := readSlotBytes_writeSlot_same hm hfill (length_interruptedSlot k site)
  obtain h | h | h := interruptedSlot_cases k site
  · exact .inl (slotUsed_of_blank (hread.trans h))
  · exact .inr (.inl (slotTorn_of_tornSlot (hread.trans h)))
  · exact .inr (.inr (hread.trans h))

/-- R153: an interrupted erase leaves each slot blank or as it was: a slot once blank stays blank. -/
theorem interruptedErase_slot {m : List Host.Cell} (hm : Memory.wf m = true) (n : Nat) {k : Nat} (hk : k < slotCount) :
    slotUsed (interruptedErase n m) k = false ∨ readSlotBytes (interruptedErase n m) k = readSlotBytes m k := by
  unfold interruptedErase
  generalize List.range slotCount = slots
  induction slots generalizing m with
  | nil => exact .inr rfl
  | cons i rest ih =>
    rw [List.foldl_cons]
    split
    · obtain hblank | hkept := ih (wf_writeSlot i (List.replicate slotSize blankByte) hm)
      · exact .inl hblank
      · by_cases hki : k = i
        · subst hki
          exact .inl (slotUsed_of_blank (hkept.trans (readSlotBytes_writeSlot_same hm hk List.length_replicate)))
        · exact .inr (hkept.trans (readSlotBytes_writeSlot_other hm hki))
    · exact ih hm

/-- R153: no operation of the writer goes on. -/
theorem RecallArea.interrupt_writer (a : RecallArea) (k : Nat) : (a.interrupt k).writer = .idle := by
  unfold RecallArea.interrupt
  split
  · assumption
  · rfl
  · rfl

theorem RecallArea.interrupt_of_idle {a : RecallArea} (k : Nat) (h : a.writer = .idle) : a.interrupt k = a := by
  simp [RecallArea.interrupt, h]

theorem RecallArea.interrupt_page_of_writing {a : RecallArea} {x : Site} (k : Nat) (h : a.writer = .writing x) :
    (a.interrupt k).page = writeSlot a.page a.fill (interruptedSlot k x) := by
  simp [RecallArea.interrupt, h]

theorem RecallArea.interrupt_page_of_erasing {a : RecallArea} (k : Nat) (h : a.writer = .erasing) :
    (a.interrupt k).page = interruptedErase k a.page := by
  simp [RecallArea.interrupt, h]

/-! ## RSTN low and power loss -/

theorem State.powerDown_pins (s : State) (supply : Supply) : (s.powerDown supply).pins = { txinh := false, supply := supply } :=
  rfl

theorem State.powerDown_recallArea (s : State) (supply : Supply) :
    (s.powerDown supply).recallArea = s.recallArea.interrupt s.free := rfl

/-- R141, R164: RSTN low takes the running LN742 down. -/
theorem exec_rstnLow_of_running {s : State} (hs : s.pins.supply = .running) :
    exec .rstnLow s = .next (s.powerDown .resetHeld) := congrArg Host.Outcome.next (if_pos hs)

/-- R153: so does power loss. -/
theorem exec_powerLoss_of_running {s : State} (hs : s.pins.supply = .running) : exec .powerLoss s = .next (s.powerDown .off) :=
  congrArg Host.Outcome.next (if_neg (by simp [hs]))

end Sys2Proof.Machine
end

section
/-! PROOFS. RSTN low and power loss (O50). -/

namespace Sys2Proof.Proofs

open Sys2Proof Sys2Proof.Machine

/-- Settles O50: both rows take the LN742 down; the page is the writer's interrupted operation, taken case by case. -/
theorem powerDownReleasesTheInhibit : Obligations.PowerDownReleasesTheInhibit := by
  intro s hs hpage row hrow
  have hexec : exec row.1 s = .next (s.powerDown row.2) := by
    simp only [List.mem_cons, List.not_mem_nil, or_false] at hrow
    obtain rfl | rfl := hrow
    · exact exec_rstnLow_of_running hs
    · exact exec_powerLoss_of_running hs
  refine ⟨_, hexec, s.powerDown_pins _, ?_⟩
  rw [State.powerDown_recallArea]
  refine ⟨s.recallArea.interrupt_writer _, RecallArea.interrupt_of_idle _, fun x hx hfill => ?_, fun herase k hk => ?_⟩
  · rw [RecallArea.interrupt_page_of_writing _ hx]
    exact ⟨fun k _ hk => interruptedWrite_other hpage _ x hk, interruptedWrite_same hpage _ x hfill⟩
  · rw [RecallArea.interrupt_page_of_erasing _ herase]
    exact interruptedErase_slot hpage _ hk

end Sys2Proof.Proofs
end

section
/-! SUPPORT. What leaves the recall page as it is (R149): the operations that do not reach ACCEPT leave the whole Recall Area, and
ACCEPT, which appends to it (R102), leaves the page; so does every row but the ends of the writer's operations. -/

namespace Sys2Proof.Machine

namespace State

/-! ## The operations that leave the Recall Area -/

theorem acceptWatch_recallArea (s : State) (b : Summary) : (s.acceptWatch b).1.recallArea = s.recallArea := by
  simp only [acceptWatch]
  repeat' split
  all_goals simp

theorem watchFragment_recallArea (s : State) (position : Nat) (f : Fragment) :
    (s.watchFragment position f).1.recallArea = s.recallArea := by
  simp only [watchFragment]
  repeat' split
  all_goals simp [acceptWatch_recallArea]

theorem beaconRecord_recallArea (s : State) (r : Frame) : (s.beaconRecord r).1.recallArea = s.recallArea := by
  simp only [beaconRecord]
  repeat' split
  all_goals simp [watchFragment_recallArea]

theorem deliver_recallArea (s : State) (b : ControlBlock) (m : Message) : (s.deliver b m).1.recallArea = s.recallArea := by
  unfold deliver
  split <;> simp

theorem filterRecord_recallArea (s : State) (r : Frame) : (s.filterRecord r).1.recallArea = s.recallArea := by
  simp only [filterRecord]
  repeat' split
  all_goals simp [deliver_recallArea]

/-- R60, R95: in each place where a loss of the loss counter can be acted on. -/
theorem rankWithLoss_recallArea (s : State) (r : Frame) (role : Role) (multiframe : Bool) (order : Nat) :
    (s.rankWithLoss r role multiframe order).recallArea = s.recallArea := by
  obtain h | h | h := s.rankWithLoss_cases r role multiframe order <;> simp [h]

/-- R95, R129: in each order of an IDENTITY loss, the filter and the late triggers. -/
theorem filterWithIdentity_recallArea (s : State) (r : Frame) (lost first : Bool) (late : List Trigger) (place : Nat) :
    (s.filterWithIdentity r lost first late place).1.recallArea = s.recallArea := by
  cases lost with
  | false => simp [filterWithIdentity_of_not_lost, filterRecord_recallArea]
  | true =>
    obtain ⟨x, -, h | h⟩ := s.filterWithIdentity_cases r first late place <;> simp [h, filterRecord_recallArea]

theorem judgeFlags_recallArea (s : State) (closed emergencyOnly : Bool) (hold : Nat) :
    (s.judgeFlags closed emergencyOnly hold).recallArea = s.recallArea := by
  unfold judgeFlags
  split
  · simp
  · split <;> simp

theorem judgeBeacon_recallArea (s : State) (b : Summary) : (s.judgeBeacon b).recallArea = s.recallArea :=
  s.judgeFlags_recallArea _ _ _

theorem judgeDigest_recallArea (s : State) : s.judgeDigest.recallArea = s.recallArea := by
  unfold judgeDigest
  split
  · exact s.judgeFlags_recallArea _ _ _
  · simp

theorem judgeTarget_recallArea (s : State) : s.judgeTarget.recallArea = s.recallArea := by
  unfold judgeTarget
  split
  · split
    · exact s.judgeBeacon_recallArea _
    · exact s.judgeDigest_recallArea
  · exact s.judgeDigest_recallArea

theorem takeRedirect_recallArea (s : State) (code channel colour : Nat) :
    (s.takeRedirect code channel colour).recallArea = s.recallArea := by
  have hadmit := s.admitFound_frame code { channel := channel, colour := colour }
  unfold takeRedirect
  split
  · simp
  · split
    · next heq => split <;> simp_all
    · next heq => simp_all
    · next heq => simp_all

theorem grantTimeout_recallArea (s : State) : s.grantTimeout.recallArea = s.recallArea := by
  unfold grantTimeout
  split <;> simp

theorem echoLost_recallArea (s : State) (b : Burst) : (s.echoLost b).recallArea = s.recallArea := by
  unfold echoLost
  dsimp only
  split <;> simp

theorem checkTooLong_recallArea (s : State) : s.checkTooLong.recallArea = s.recallArea := by
  unfold checkTooLong
  split <;> simp

/-! ## The operations that can reach ACCEPT leave the page -/

/-- R102, R150: ACCEPT appends the site, which starts or defers a write and writes nothing yet. -/
theorem acceptRoam_page (s : State) (count : Nat) : (s.acceptRoam count).recallArea.page = s.recallArea.page := by
  unfold acceptRoam
  split <;> simp

theorem takeGrant_page (s : State) (g : Grant) : (s.takeGrant g).recallArea.page = s.recallArea.page := by
  unfold takeGrant
  split
  · exact s.acceptRoam_page _
  · simp
  · rw [takeRedirect_recallArea]
  · simp
  · rfl

theorem awaitGrant_page (s : State) (input : AccessInput) : (s.awaitGrant input).recallArea.page = s.recallArea.page := by
  unfold awaitGrant
  dsimp only
  repeat' split
  all_goals simp [takeGrant_page, grantTimeout_recallArea]

theorem contend_page (s : State) (input : AccessInput) : (s.contend input).recallArea.page = s.recallArea.page := by
  unfold contend
  repeat' split
  all_goals simp [takeGrant_page, echoLost_recallArea]

theorem registrationPhase_page (s : State) (input : AccessInput) :
    (s.registrationPhase input).recallArea.page = s.recallArea.page := by
  unfold registrationPhase
  dsimp only
  repeat' split
  all_goals simp [judgeBeacon_recallArea, judgeTarget_recallArea, contend_page, awaitGrant_page]

theorem registrationRecord_page (s : State) (r : Frame) (input : AccessInput) :
    (s.registrationRecord r input).recallArea.page = s.recallArea.page := by
  unfold registrationRecord
  dsimp only
  repeat' split
  all_goals simp [checkTooLong_recallArea, registrationPhase_page]

theorem accessRecord_page (s : State) (r : Frame) (engine0 : Engine) (input : AccessInput) :
    (s.accessRecord r engine0 input).recallArea.page = s.recallArea.page := by
  unfold accessRecord
  repeat' split
  all_goals simp [registrationRecord_page]

/-! ## A taken record -/

theorem afterRanking_page (s base : State) (r : Frame) (multiframe first : Bool) (late : List Trigger) (place : Nat) :
    (s.afterRanking base r multiframe first late place).recallArea.page = s.recallArea.page := by
  simp [afterRanking, accessRecord_page, filterWithIdentity_recallArea, beaconRecord_recallArea]

/-- R58, R60, R95: the blocks leave the page in each order that the rules allow. -/
theorem blocksHandle_page (s base : State) (r : Frame) (role : Role) (multiframe lossRaised : Bool) :
    (s.blocksHandle base r role multiframe lossRaised).recallArea.page = s.recallArea.page := by
  obtain ⟨u, put, hlost, hkept, heq⟩ := s.blocksInOrder_cases base r role multiframe lossRaised
    (Config.triggersLate s.free) (Config.identityFirst s.free) (Config.lateTriggers s.free) (Config.lossOrder s.free)
  have hu : u.recallArea = s.recallArea := by
    cases lossRaised with
    | true => obtain ⟨-, rfl | rfl | rfl⟩ := hlost rfl <;> simp
    | false => obtain ⟨rfl, -⟩ | ⟨rfl, -⟩ := hkept rfl <;> simp
  rw [blocksHandle, heq, afterRanking_page, hu]

theorem recordNamed_recallArea (s : State) (r : Frame) (rest : List Frame) :
    (s.recordNamed r rest).1.recallArea = s.recallArea := by
  have htaken : (s.frameTaken r rest).recallArea = s.recallArea := rfl
  by_cases hmulti : (s.frameTaken r rest).atMultiframe <;> simp [recordNamed, hmulti, htaken]

theorem takeRecord_page (s : State) : s.takeRecord.recallArea.page = s.recallArea.page := by
  unfold takeRecord
  split
  · rw [handleRecord_eq, blocksHandle_page, recordNamed_recallArea]
  · rfl

/-! ## The receivers -/

theorem modemRecord_recallArea (s : State) (kind : Byte) (body : List Byte) :
    (s.modemRecord kind body).recallArea = s.recallArea := by
  unfold modemRecord
  split <;> simp

theorem frontEndReceive_recallArea (s : State) (n : Nat) (bytes : List Byte) :
    (frontEndReceive n bytes s).recallArea = s.recallArea := by
  induction n generalizing bytes s with
  | zero => rfl
  | succ n ih =>
    unfold frontEndReceive
    dsimp only
    repeat' split
    all_goals simp [ih, modemRecord_recallArea]

theorem receiveFrontEnd_recallArea (s : State) (bytes : List Byte) : (s.receiveFrontEnd bytes).recallArea = s.recallArea :=
  s.frontEndReceive_recallArea _ _

theorem frameDamaged_recallArea (s : State) : s.frameDamaged.recallArea = s.recallArea := by
  unfold frameDamaged
  dsimp only
  split <;> simp

theorem placeHostFrame_recallArea (s : State) (f : HostFrame) : (s.placeHostFrame f).recallArea = s.recallArea := by
  unfold placeHostFrame
  dsimp only
  repeat' split
  all_goals simp

theorem hostReceive_recallArea (s : State) (n : Nat) (bytes : List Byte) :
    (hostReceive n bytes s).recallArea = s.recallArea := by
  induction n generalizing bytes s with
  | zero => rfl
  | succ n ih =>
    unfold hostReceive
    dsimp only
    repeat' split
    all_goals simp [ih, keepHostBytes, frameDamaged_recallArea, placeHostFrame_recallArea]

theorem receiveHost_recallArea (s : State) (bytes : List Byte) : (s.receiveHost bytes).recallArea = s.recallArea :=
  s.hostReceive_recallArea _ _

theorem gapTimeout_recallArea (s : State) : s.gapTimeout.recallArea = s.recallArea := by
  unfold gapTimeout
  split
  · rfl
  · rw [hostReceive_recallArea, frameDamaged_recallArea]

/-! ## The limit rows -/

/-- An operation that acts or not. -/
theorem recallArea_ite {c : Prop} [Decidable c] {s u v : State} (hu : u.recallArea = s.recallArea)
    (hv : v.recallArea = s.recallArea) : (if c then u else v).recallArea = s.recallArea := by
  split
  · exact hu
  · exact hv

theorem heardAgeLimit_recallArea (s : State) (i : Nat) : (s.heardAgeLimit i).recallArea = s.recallArea :=
  recallArea_ite (by simp) rfl

theorem barEnd_recallArea (s : State) (i : Nat) : (s.barEnd i).recallArea = s.recallArea := recallArea_ite (by simp) rfl

theorem departureDecay_recallArea (s : State) : s.departureDecay.recallArea = s.recallArea := recallArea_ite (by simp) rfl

theorem digestAgeLimit_recallArea (s : State) (i : Nat) : (s.digestAgeLimit i).recallArea = s.recallArea :=
  recallArea_ite (by simp) rfl

theorem servingReport_recallArea (s : State) : s.servingReport.recallArea = s.recallArea := recallArea_ite (by simp) rfl

theorem servingLossLimit_recallArea (s : State) : s.servingLossLimit.recallArea = s.recallArea :=
  recallArea_ite (by simp) rfl

theorem huntListenReadLimit_recallArea (s : State) : s.huntListenReadLimit.recallArea = s.recallArea := by
  unfold huntListenReadLimit
  split
  · exact recallArea_ite (by simp) rfl
  · rfl

theorem huntLimit_recallArea (s : State) : s.huntLimit.recallArea = s.recallArea := recallArea_ite (by simp) rfl

theorem readingUnreadable_recallArea (s : State) : s.readingUnreadable.recallArea = s.recallArea :=
  recallArea_ite (by simp) rfl

theorem grantWaitTimeout_recallArea (s : State) : s.grantWaitTimeout.recallArea = s.recallArea :=
  recallArea_ite (by simp [grantTimeout_recallArea]) rfl

theorem tooLong_recallArea (s : State) : s.tooLong.recallArea = s.recallArea := recallArea_ite (by simp) rfl

theorem affilAckWaitTimeout_recallArea (s : State) : s.affilAckWaitTimeout.recallArea = s.recallArea := by
  unfold affilAckWaitTimeout
  refine recallArea_ite ?_ rfl
  split <;> simp

theorem silenceTimeout_recallArea (s : State) : s.silenceTimeout.recallArea = s.recallArea :=
  recallArea_ite (recallArea_ite (by simp) (by simp)) rfl

/-! ## The commands -/

theorem provision_recallArea (s : State) (f : HostFrame) : (s.provision f).recallArea = s.recallArea :=
  recallArea_ite (by simp) (recallArea_ite (by simp) (recallArea_ite (by simp) (by simp [acceptIdentity])))

theorem setParameters_recallArea (s : State) (f : HostFrame) : (s.setParameters f).recallArea = s.recallArea := by
  unfold setParameters
  split
  · exact recallArea_ite (by simp) (by simp)
  · simp

theorem loadSiteCommand_recallArea (s : State) (f : HostFrame) : (s.loadSiteCommand f).recallArea = s.recallArea := by
  unfold loadSiteCommand
  dsimp only
  split
  · exact recallArea_ite (by simp) (by simp)
  · simp

theorem dropSiteCommand_recallArea (s : State) (f : HostFrame) : (s.dropSiteCommand f).recallArea = s.recallArea := by
  unfold dropSiteCommand
  refine recallArea_ite (by simp) ?_
  split
  · simp
  · exact recallArea_ite (by simp) (by simp)

theorem setHuntChannels_recallArea (s : State) (f : HostFrame) : (s.setHuntChannels f).recallArea = s.recallArea := by
  unfold setHuntChannels
  split
  · exact recallArea_ite (by simp) (by simp)
  · simp

theorem replaceGroups_recallArea (s : State) (pairs : List GroupPair) : (s.replaceGroups pairs).recallArea = s.recallArea :=
  recallArea_ite (by simp) (by simp)

theorem groupPart_recallArea (s : State) (f : HostFrame) (part : Nat) (final : Bool) (pairs : List GroupPair) :
    (s.groupPart f part final pairs).recallArea = s.recallArea := by
  unfold groupPart
  split
  · simp [setAssembly]
  · exact recallArea_ite (by simp [setAssembly, replaceGroups_recallArea])
      (recallArea_ite (by simp [setAssembly]) (by simp [setAssembly]))

theorem setGroupsCommand_recallArea (s : State) (f : HostFrame) : (s.setGroupsCommand f).recallArea = s.recallArea := by
  unfold setGroupsCommand
  split
  · split
    · exact recallArea_ite (by simp) (s.groupPart_recallArea f _ _ _)
    · simp
  · simp

theorem startCommand_recallArea (s : State) (f : HostFrame) : (s.startCommand f).recallArea = s.recallArea :=
  recallArea_ite (by simp) (recallArea_ite (by simp) (recallArea_ite (by simp) (by simp)))

theorem stopCommand_recallArea (s : State) (f : HostFrame) : (s.stopCommand f).recallArea = s.recallArea :=
  recallArea_ite (by simp) (recallArea_ite (by simp) (by simp))

theorem callStateCommand_recallArea (s : State) (f : HostFrame) : (s.callStateCommand f).recallArea = s.recallArea := by
  unfold callStateCommand
  split
  · exact recallArea_ite (by simp) (by simp)
  · simp

theorem roamHoldCommand_recallArea (s : State) (f : HostFrame) : (s.roamHoldCommand f).recallArea = s.recallArea := by
  unfold roamHoldCommand
  split
  · exact recallArea_ite (by simp) (by simp)
  · simp

theorem roamToCommand_recallArea (s : State) (f : HostFrame) : (s.roamToCommand f).recallArea = s.recallArea := by
  unfold roamToCommand
  refine recallArea_ite (by simp) (recallArea_ite (by simp) ?_)
  split
  · simp
  · exact recallArea_ite (by simp) (recallArea_ite (by simp) (by simp))

theorem roamAbortCommand_recallArea (s : State) (f : HostFrame) : (s.roamAbortCommand f).recallArea = s.recallArea := by
  unfold roamAbortCommand
  refine recallArea_ite (by simp) ?_
  split
  case h_3 => exact recallArea_ite (by simp) (by simp)
  all_goals simp

theorem querySite_recallArea (s : State) (f : HostFrame) : (s.querySite f).recallArea = s.recallArea :=
  recallArea_ite (by simp) (by simp)

theorem queryStatus_recallArea (s : State) (f : HostFrame) : (s.queryStatus f).recallArea = s.recallArea :=
  recallArea_ite (by simp) (by simp)

theorem resetCommand_recallArea (s : State) (f : HostFrame) : (s.resetCommand f).recallArea = s.recallArea :=
  recallArea_ite (by simp) (by simp)

/-- R151: RECALL CLEAR changes the Recall Area, but not yet the page. -/
theorem recallClear_page (s : State) (f : HostFrame) : (s.recallClear f).recallArea.page = s.recallArea.page := by
  unfold recallClear
  split <;> simp

/-! ## The resets -/

/-- R152: no reset touches the page. -/
theorem softReset_page (s : State) : s.softReset.recallArea.page = s.recallArea.page := s.recallArea.softReset_page

theorem recordSent_page (s : State) : s.recordSent.recallArea.page = s.recallArea.page := by
  unfold recordSent
  split
  · split
    · exact s.softReset_page
    · rfl
  · rfl

theorem softResetDue_page (s : State) : s.softResetDue.recallArea.page = s.recallArea.page := by
  unfold softResetDue
  split
  · split
    · exact s.softReset_page
    · rfl
  · rfl

theorem powerOn_page (s : State) : s.powerOn.recallArea.page = s.recallArea.page := by
  unfold powerOn
  split
  · rfl
  · exact s.recallArea.powerOn_page

/-! ## The ends of the writer's operations -/

/-- R153: an operation that power loss or RSTN ends leaves a canonical page. -/
theorem pageSound.powerDown {s : State} (h : s.pageSound) (supply : Supply) : (s.powerDown supply).pageSound :=
  RecallArea.wf_interrupt s.free h

theorem pageSound.rstnLow {s : State} (h : s.pageSound) : s.rstnLow.pageSound := by
  unfold State.rstnLow
  split
  · exact h.powerDown _
  · exact h

theorem pageSound.powerLoss {s : State} (h : s.pageSound) : s.powerLoss.pageSound := by
  unfold State.powerLoss
  split
  · exact h
  · exact h.powerDown _

/-- R150: so does a completed write, failed or not. -/
theorem pageSound.recallWriteComplete {s : State} (h : s.pageSound) : s.recallWriteComplete.pageSound := by
  unfold State.recallWriteComplete
  split
  · exact RecallArea.wf_finishWrite s.free _ h
  · exact h

/-- R150: so does a completed erase. -/
theorem pageSound.recallEraseComplete {s : State} (h : s.pageSound) : s.recallEraseComplete.pageSound := by
  unfold State.recallEraseComplete
  split
  · exact congrArg Memory.wf s.recallArea.finishErase_page
  · exact h

end State

/-! ## Every row -/

/-- What leaves the page as it was leaves it canonical. -/
theorem State.pageSound.of_page {s t : State} (h : s.pageSound) (hpage : t.recallArea.page = s.recallArea.page) :
    t.pageSound := by
  rw [State.pageSound, hpage]
  exact h

/-- A row of the running LN742. -/
theorem State.pageSound.whileRunning {s : State} (h : s.pageSound) {f : State → State} (hf : s.pageSound → (f s).pageSound) :
    (whileRunning f s).pageSound := by
  unfold Machine.whileRunning
  split
  · exact hf h
  · exact h

/-- R157: a row of a command leaves the page where its handling of a frame does. -/
theorem State.pageSound.takeCommand {s : State} (h : s.pageSound) (mine : Byte → Bool) {handle : State → HostFrame → State}
    (hhandle : ∀ u f, (handle u f).recallArea.page = u.recallArea.page) :
    (Machine.whileRunning (fun u => u.takeCommand mine handle) s).pageSound := by
  refine h.whileRunning fun h => ?_
  obtain ⟨f, rest, -, -, -, heq⟩ | heq := takeCommand_cases s mine handle
  · exact h.of_page (by rw [heq, hhandle, State.setHost_recallArea])
  · exact h.of_page (by rw [heq])

/-- R149: every row keeps the page canonical. -/
theorem exec_pageSound {c : Instr} {s t : State} (h : s.pageSound) (hexec : exec c s = .next t) : t.pageSound := by
  have hnext {u : State} (heq : Host.Outcome.next (φ := Fault) (ρ := Refusal) u = .next t) (hu : u.pageSound) :
      t.pageSound := Host.Outcome.next.inj heq ▸ hu
  have hrow {f : State → State} (hf : (f s).recallArea.page = s.recallArea.page) : (whileRunning f s).pageSound :=
    h.whileRunning fun h => h.of_page hf
  have harea {f : State → State} (hf : (f s).recallArea = s.recallArea) : (whileRunning f s).pageSound :=
    hrow (congrArg RecallArea.page hf)
  have hcommand {mine : Byte → Bool} {handle : State → HostFrame → State}
      (hhandle : ∀ u f, (handle u f).recallArea = u.recallArea) :
      (whileRunning (fun u => u.takeCommand mine handle) s).pageSound :=
    h.takeCommand mine fun u f => congrArg RecallArea.page (hhandle u f)
  cases c with
  | frameRecordComplete bytes => exact hnext hexec (harea (s.receiveFrontEnd_recallArea bytes))
  | burstDone bytes => exact hnext hexec (harea (s.receiveFrontEnd_recallArea bytes))
  | recordTaken => exact hnext hexec (hrow s.takeRecord_page)
  | heardAgeLimit index => exact hnext hexec (harea (s.heardAgeLimit_recallArea index))
  | barEnd index => exact hnext hexec (harea (s.barEnd_recallArea index))
  | departureDecay => exact hnext hexec (harea s.departureDecay_recallArea)
  | digestAgeLimit index => exact hnext hexec (harea (s.digestAgeLimit_recallArea index))
  | servingReport => exact hnext hexec (harea s.servingReport_recallArea)
  | servingLossLimit => exact hnext hexec (harea s.servingLossLimit_recallArea)
  | huntListenReadLimit => exact hnext hexec (harea s.huntListenReadLimit_recallArea)
  | huntLimit => exact hnext hexec (harea s.huntLimit_recallArea)
  | readingUnreadable => exact hnext hexec (harea s.readingUnreadable_recallArea)
  | grantWaitTimeout => exact hnext hexec (harea s.grantWaitTimeout_recallArea)
  | tooLong => exact hnext hexec (harea s.tooLong_recallArea)
  | affilAckWaitTimeout => exact hnext hexec (harea s.affilAckWaitTimeout_recallArea)
  | silenceTimeout => exact hnext hexec (harea s.silenceTimeout_recallArea)
  | hostFrameComplete bytes => exact hnext hexec (harea (s.receiveHost_recallArea bytes))
  | interByteGapTimeout => exact hnext hexec (harea s.gapTimeout_recallArea)
  | unknownKindCommand => exact hnext hexec (hcommand fun u f => by simp [State.unknownKind])
  | provision => exact hnext hexec (hcommand State.provision_recallArea)
  | setParameters => exact hnext hexec (hcommand State.setParameters_recallArea)
  | loadSite => exact hnext hexec (hcommand State.loadSiteCommand_recallArea)
  | dropSite => exact hnext hexec (hcommand State.dropSiteCommand_recallArea)
  | setHuntChannels => exact hnext hexec (hcommand State.setHuntChannels_recallArea)
  | setGroups => exact hnext hexec (hcommand State.setGroupsCommand_recallArea)
  | start => exact hnext hexec (hcommand State.startCommand_recallArea)
  | stop => exact hnext hexec (hcommand State.stopCommand_recallArea)
  | callState => exact hnext hexec (hcommand State.callStateCommand_recallArea)
  | roamHold => exact hnext hexec (hcommand State.roamHoldCommand_recallArea)
  | roamTo => exact hnext hexec (hcommand State.roamToCommand_recallArea)
  | roamAbort => exact hnext hexec (hcommand State.roamAbortCommand_recallArea)
  | querySite => exact hnext hexec (hcommand State.querySite_recallArea)
  | queryStatus => exact hnext hexec (hcommand State.queryStatus_recallArea)
  | recallClear => exact hnext hexec (h.takeCommand _ State.recallClear_page)
  | reset => exact hnext hexec (hcommand State.resetCommand_recallArea)
  | recordSent => exact hnext hexec (hrow s.recordSent_page)
  | softReset => exact hnext hexec (hrow s.softResetDue_page)
  | rstnLow => exact hnext hexec h.rstnLow
  | powerOn => exact hnext hexec (h.of_page s.powerOn_page)
  | recallWriteComplete => exact hnext hexec (h.whileRunning State.pageSound.recallWriteComplete)
  | recallEraseComplete => exact hnext hexec (h.whileRunning State.pageSound.recallEraseComplete)
  | powerLoss => exact hnext hexec h.powerLoss
  | hostFrameLengthDiscard bytes => exact hnext hexec (harea (s.receiveHost_recallArea bytes))
  | frontEndLengthDiscard bytes => exact hnext hexec (harea (s.receiveFrontEnd_recallArea bytes))

end Sys2Proof.Machine
end

section
/-! PROOFS. Every step keeps the recall page canonical (O5). -/

namespace Sys2Proof.Proofs

open Sys2Proof Sys2Proof.Machine

/-- Settles O5: a step runs one row on the state with the rest of the queue, or idles. -/
theorem everyStepKeepsTheRecallPageCanonical : Obligations.EveryStepKeepsTheRecallPageCanonical := by
  intro s t h hstep
  unfold step at hstep
  split at hstep
  · next rest _ =>
    have hpending : (s.setPending rest).pageSound := h
    exact exec_pageSound hpending hstep
  · cases hstep
    exact h

end Sys2Proof.Proofs
end

section
/-! SUPPORT. The recall list, the newest valid slot and the append request (R149, R150, R152). -/

namespace Sys2Proof.Machine

/-! ## The newest valid slot -/

/-- R149: with no newest valid slot every slot below the fill count is blank or torn. -/
theorem newestValid_eq_none {m : List Host.Cell} {n : Nat} (h : newestValid m n = none) : ∀ i < n, slotSite m i = none := by
  induction n with
  | zero => nofun
  | succ n ih =>
    intro i hi
    unfold newestValid at h
    split at h
    · cases h
    · next hn =>
      obtain rfl | hlt := Nat.lt_succ_iff_lt_or_eq.1 hi |>.symm
      · exact hn
      · exact ih h i hlt

/-- R149: the newest valid slot is the valid one of highest index. -/
theorem newestValid_eq_some {m : List Host.Cell} {n : Nat} {x : Site} (h : newestValid m n = some x) :
    ∃ i < n, slotSite m i = some x ∧ ∀ j, i < j → j < n → slotSite m j = none := by
  induction n with
  | zero => cases h
  | succ n ih =>
    unfold newestValid at h
    split at h
    · next hn => exact ⟨n, n.lt_succ_self, hn.trans h, by omega⟩
    · next hn =>
      obtain ⟨i, hi, hsite, hnewer⟩ := ih h
      refine ⟨i, by omega, hsite, fun j hij hj => ?_⟩
      obtain rfl | hlt := Nat.lt_succ_iff_lt_or_eq.1 hj |>.symm
      · exact hn
      · exact hnewer j hij hlt

/-! ## The recall list -/

/-- R152: a list under construction: it holds, newest first, the newest valid slot of each site code among the slots from `n` up to
`top`; `slots` are the indices they stand at. -/
structure RecallListFrom (m : List Host.Cell) (top n : Nat) (slots : List Nat) (list : List Site) : Prop where
  length : list.length ≤ 4
  codes : (list.map Site.code).Nodup
  falling : slots.Pairwise fun i j => j < i
  sites : slots.map (slotSite m) = list.map some
  range : ∀ k ∈ slots, n ≤ k ∧ k < top
  newest : ∀ k ∈ slots, ∀ j, k < j → j < top → ∀ x y, slotSite m k = some x → slotSite m j = some y → y.code ≠ x.code
  complete : ∀ i, n ≤ i → i < top → ∀ y, slotSite m i = some y → ∃ x ∈ list, x.code = y.code

namespace RecallListFrom

variable {m : List Host.Cell} {top n : Nat} {slots : List Nat} {list : List Site}

/-- Nothing is listed before the first slot is looked at. -/
theorem nil (m : List Host.Cell) (top : Nat) : RecallListFrom m top top [] [] where
  length := Nat.zero_le _
  codes := List.nodup_nil
  falling := .nil
  sites := rfl
  range := nofun
  newest := nofun
  complete i hi hlt := absurd hlt (by omega)

/-- The slot below adds no code to the list: it is not valid, or its code is listed. -/
theorem skip (h : RecallListFrom m top (n + 1) slots list)
    (hn : ∀ y, slotSite m n = some y → ∃ x ∈ list, x.code = y.code) : RecallListFrom m top n slots list where
  length := h.length
  codes := h.codes
  falling := h.falling
  sites := h.sites
  range k hk := ⟨(Nat.le_succ n).trans (h.range k hk).1, (h.range k hk).2⟩
  newest := h.newest
  complete i hi hlt y hy := by
    obtain rfl | hni := hi.eq_or_lt
    · exact hn y hy
    · exact h.complete i hni hlt y hy

/-- The slot below is valid and its code is not yet listed. -/
theorem append (h : RecallListFrom m top (n + 1) slots list) (hlen : list.length < 4) (htop : n < top) {site : Site}
    (hsite : slotSite m n = some site) (hnew : ∀ x ∈ list, x.code ≠ site.code) :
    RecallListFrom m top n (slots ++ [n]) (list ++ [site]) where
  length := by simpa using hlen
  codes := by
    rw [List.map_append, List.nodup_append]
    exact ⟨h.codes, List.nodup_singleton _, by simpa using hnew⟩
  falling := by
    rw [List.pairwise_append]
    exact ⟨h.falling, List.pairwise_singleton _ _, by simpa using fun k hk => (h.range k hk).1⟩
  sites := by simp [h.sites, hsite]
  range k hk := by
    obtain hk | rfl : k ∈ slots ∨ k = n := by simpa using hk
    · exact ⟨(Nat.le_succ n).trans (h.range k hk).1, (h.range k hk).2⟩
    · exact ⟨le_rfl, htop⟩
  newest k hk j hkj hj x y hx hy := by
    obtain hk | rfl : k ∈ slots ∨ k = n := by simpa using hk
    · exact h.newest k hk j hkj hj x y hx hy
    · obtain ⟨z, hz, hcode⟩ := h.complete j hkj hj y hy
      obtain rfl : site = x := Option.some.inj (hsite.symm.trans hx)
      exact hcode ▸ hnew z hz
  complete i hi hlt y hy := by
    obtain rfl | hni := hi.eq_or_lt
    · exact ⟨site, by simp, congrArg Site.code (Option.some.inj (hsite.symm.trans hy))⟩
    · obtain ⟨x, hx, hcode⟩ := h.complete i hni hlt y hy
      exact ⟨x, by simp [hx], hcode⟩

/-- R152: the build goes down to slot 0, or stops with 4 items. -/
theorem build (h : RecallListFrom m top n slots list) (htop : n ≤ top) :
    ∃ n' slots', RecallListFrom m top n' slots' (buildRecallList m n list)
      ∧ (n' = 0 ∨ (buildRecallList m n list).length = 4) := by
  induction n generalizing slots list with
  | zero => exact ⟨0, slots, h, .inl rfl⟩
  | succ n ih =>
    unfold buildRecallList
    split
    · next hfull => exact ⟨n + 1, slots, h, .inr (h.length.antisymm hfull)⟩
    · next hroom =>
      split
      · next site hsite =>
        split
        · next hlisted =>
          refine ih (h.skip fun y hy => ?_) (by omega)
          obtain rfl : site = y := Option.some.inj (hsite.symm.trans hy)
          simpa using hlisted
        · next hnew => exact ih (h.append (by omega) htop hsite (by simpa using hnew)) (by omega)
      · next hnone => exact ih (h.skip fun y hy => absurd (hnone.symm.trans hy) nofun) (by omega)

/-- An item stands in one of the slots. -/
theorem exists_slot (h : RecallListFrom m top n slots list) {x : Site} (hx : x ∈ list) :
    ∃ k ∈ slots, slotSite m k = some x := by
  rw [← List.mem_map, h.sites]
  exact List.mem_map_of_mem hx

end RecallListFrom

/-- R152: the recall list of a page, built down to slot 0 or to 4 items. -/
theorem recallListOf_spec (page : List Host.Cell) :
    ∃ n slots, RecallListFrom page (usedPrefix page) n slots (recallListOf page)
      ∧ (n = 0 ∨ (recallListOf page).length = 4) :=
  (RecallListFrom.nil page (usedPrefix page)).build le_rfl

/-! ## The append request -/

/-- R150: an idle writer starts the request at once. -/
theorem RecallArea.append_of_idle {a : RecallArea} (x : Site) (h : a.writer = .idle) : a.append x = a.startRequest x := by
  simp [RecallArea.append, h]

/-- R150: a busy writer makes it the pending write. -/
theorem RecallArea.append_of_busy {a : RecallArea} (x : Site) (h : a.writer ≠ .idle) :
    a.append x = { a with pendingWrite := some x } := by
  unfold RecallArea.append
  split
  · contradiction
  · rfl

end Sys2Proof.Machine
end

section
/-! PROOFS. The recall list and the append request (O22). -/

namespace Sys2Proof.Proofs

open Sys2Proof Sys2Proof.Machine

/-- Settles O22: the list is what the build keeps from slot to slot; a build that stops early has its 4 items. -/
theorem recallListHoldsTheNewestSites : Obligations.RecallListHoldsTheNewestSites := by
  refine ⟨fun page => ?_, fun page n => ⟨newestValid_eq_none, fun x => newestValid_eq_some⟩, fun a x =>
    ⟨RecallArea.append_of_idle x, RecallArea.append_of_busy x⟩⟩
  obtain ⟨n, slots, h, hend⟩ := recallListOf_spec page
  refine ⟨h.length, h.codes, fun x hx => ?_, fun hshort i hi y hy => ?_, slots, h.falling, h.sites, fun k hk => ?_,
    fun i hi y hy hleft k hk => ?_⟩
  · obtain ⟨k, hk, hsite⟩ := h.exists_slot hx
    exact ⟨k, (h.range k hk).2, hsite, fun j hkj hj y => h.newest k hk j hkj hj x y hsite⟩
  · obtain rfl | hfull := hend
    · exact h.complete i i.zero_le hi y hy
    · omega
  · exact ⟨(h.range k hk).2, h.newest k hk⟩
  · have hin : i < n := by
      by_contra hni
      obtain ⟨x, hx, hcode⟩ := h.complete i (by omega) hi y hy
      exact hleft x hx hcode
    exact hin.trans_le (h.range k hk).1

end Sys2Proof.Proofs
end

section
/-! SUPPORT. RECALL CLEAR and the writer's completions (R150, R151). -/

namespace Sys2Proof.Machine

/-! ## RECALL CLEAR -/

namespace RecallArea

theorem clear_of_idle {a : RecallArea} (h : a.writer = .idle) :
    a.clear = { a with pendingWrite := none, writer := .erasing } := by simp [clear, h]

theorem clear_of_writing {a : RecallArea} {x : Site} (h : a.writer = .writing x) :
    a.clear = { a with pendingWrite := none, clearRequested := true } := by simp [clear, h]

theorem clear_of_erasing {a : RecallArea} (h : a.writer = .erasing) : a.clear = { a with pendingWrite := none } := by
  simp [clear, h]

/-- R151: whatever the writer does, the pending write is discarded; the fill count stands. -/
theorem clear_pendingWrite_fill (a : RecallArea) : a.clear.pendingWrite = none ∧ a.clear.fill = a.fill := by
  unfold clear
  split <;> exact ⟨rfl, rfl⟩

end RecallArea

/-- R151: RECALL CLEAR taken and answered OK. -/
theorem exec_recallClear {s : State} {f : HostFrame} {rest : List HostFrame} (h : s.offers f rest) (hkind : f.kind = 0x0F#8)
    (hbody : f.body = []) :
    exec .recallClear s =
      .next ((s.setRecallArea s.recallArea.clear).setHost ((s.host.taken rest).answer f .ok [])) := by
  refine congrArg Host.Outcome.next ((takeKind_of_offers h hkind).trans ?_)
  simp only [State.recallClear, hbody, List.length_nil, ne_eq, not_true_eq_false, if_false]
  rfl

/-! ## The next work of the writer -/

namespace RecallArea

/-- R150: a request started on a blank page is a write into slot 0. -/
theorem startRequest_of_blank {a : RecallArea} (x : Site) (hfill : a.fill = 0) :
    a.startRequest x = { a with writer := .writing x } := by
  simp [startRequest, newestValid, hfill]

theorem startRequest_fill (a : RecallArea) (x : Site) : (a.startRequest x).fill = a.fill := by
  unfold startRequest
  split
  · rfl
  · split <;> rfl

theorem nextWork_fill (a : RecallArea) : a.nextWork.fill = a.fill := by
  unfold nextWork
  split
  · rfl
  · split
    · exact startRequest_fill _ _
    · rfl

theorem nextWork_of_clear {a : RecallArea} (h : a.clearRequested = true) :
    a.nextWork = { a with clearRequested := false, writer := .erasing } := by simp [nextWork, h]

theorem nextWork_of_none {a : RecallArea} (h : a.clearRequested = false) (hpending : a.pendingWrite = none) :
    a.nextWork = a := by simp [nextWork, h, hpending]

theorem nextWork_of_pending {a : RecallArea} {x : Site} (h : a.clearRequested = false) (hpending : a.pendingWrite = some x) :
    a.nextWork = { a with pendingWrite := none }.startRequest x := by simp [nextWork, h, hpending]

/-- R150: a pending write that an idle writer judges: the newest valid slot holds its site, or there is a slot left for it, or the
full page is erased first. -/
theorem nextWork_pending_cases {a : RecallArea} {x : Site} (hidle : a.writer = .idle) (h : a.clearRequested = false)
    (hpending : a.pendingWrite = some x) :
    if newestValid a.page a.fill = some x then a.nextWork.writer = .idle ∧ a.nextWork.pendingWrite = none
    else if a.fill < slotCount then a.nextWork.writer = .writing x ∧ a.nextWork.pendingWrite = none
    else a.nextWork.writer = .erasing ∧ a.nextWork.pendingWrite = some x := by
  rw [nextWork_of_pending h hpending]
  unfold startRequest
  split
  · exact ⟨hidle, rfl⟩
  · split <;> exact ⟨rfl, rfl⟩

/-! ## The completions -/

/-- R150: what a completed write puts into its slot. -/
def writtenContent (k : Nat) (x : Site) : List Byte := if Config.writeFails k then tornSlot k else slotBytes x

/-- R150: the Recall Area at the end of a write, before the next work. -/
def written (a : RecallArea) (k : Nat) (x : Site) : RecallArea :=
  { a with page := writeSlot a.page a.fill (writtenContent k x), fill := a.fill + 1, writer := .idle }

theorem finishWrite_eq (a : RecallArea) (k : Nat) (x : Site) : a.finishWrite k x = (a.written k x).nextWork := rfl

theorem length_writtenContent (k : Nat) (x : Site) : (writtenContent k x).length = slotSize := by
  unfold writtenContent
  split
  · exact length_tornSlot k
  · exact length_slotBytes x

theorem finishWrite_page (a : RecallArea) (k : Nat) (x : Site) :
    (a.finishWrite k x).page = writeSlot a.page a.fill (writtenContent k x) := nextWork_page _

theorem finishWrite_fill (a : RecallArea) (k : Nat) (x : Site) : (a.finishWrite k x).fill = a.fill + 1 := nextWork_fill _

/-- R149, R150: the slot of a completed write holds the request, or is torn when the write has failed. -/
theorem finishWrite_slot {a : RecallArea} (k : Nat) (x : Site) (hpage : Memory.wf a.page = true) (hfill : a.fill < slotCount) :
    readSlotBytes (a.finishWrite k x).page a.fill = slotBytes x ∨ slotTorn (a.finishWrite k x).page a.fill = true := by
  have hread := readSlotBytes_writeSlot_same hpage hfill (length_writtenContent k x)
  rw [← finishWrite_page] at hread
  by_cases hfails : Config.writeFails k
  · exact .inr (slotTorn_of_tornSlot (hread.trans (if_pos hfails)))
  · exact .inl (hread.trans (if_neg hfails))

/-- R150: a completed erase with nothing more to do. -/
theorem finishErase_of_none {a : RecallArea} (h : a.clearRequested = false) (hpending : a.pendingWrite = none) :
    a.finishErase = { a with page := [], fill := 0, pendingWrite := none, writer := .idle } :=
  (nextWork_of_none (a := { a with page := [], fill := 0, writer := .idle }) h hpending).trans (by simp [hpending])

/-- R150: a completed erase with a pending write, which is begun. -/
theorem finishErase_of_pending {a : RecallArea} {x : Site} (h : a.clearRequested = false) (hpending : a.pendingWrite = some x) :
    a.finishErase = { a with page := [], fill := 0, pendingWrite := none, writer := .writing x } :=
  (nextWork_of_pending (a := { a with page := [], fill := 0, writer := .idle }) h hpending).trans
    (startRequest_of_blank x rfl)

end RecallArea

theorem exec_recallWriteComplete {s : State} {x : Site} (hs : s.pins.supply = .running)
    (h : s.recallArea.writer = .writing x) :
    exec .recallWriteComplete s = .next (s.setRecallArea (s.recallArea.finishWrite s.free x)).nextFree := by
  refine congrArg Host.Outcome.next ((whileRunning_of_running hs).trans ?_)
  simp only [State.recallWriteComplete, h]

theorem exec_recallEraseComplete {s : State} (hs : s.pins.supply = .running) (h : s.recallArea.writer = .erasing) :
    exec .recallEraseComplete s = .next (s.setRecallArea s.recallArea.finishErase) := by
  refine congrArg Host.Outcome.next ((whileRunning_of_running hs).trans ?_)
  simp only [State.recallEraseComplete, h]

end Sys2Proof.Machine
end

section
/-! PROOFS. RECALL CLEAR (O47) and the writer's completions (O51). -/

namespace Sys2Proof.Proofs

open Sys2Proof Sys2Proof.Machine

/-- Settles O47: what the command does to the Recall Area, by the writer's state. -/
theorem recallClearAsksForAnErase : Obligations.RecallClearAsksForAnErase := by
  intro s f rest h hkind hbody
  obtain ⟨hpending, hfill⟩ := s.recallArea.clear_pendingWrite_fill
  refine ⟨_, exec_recallClear h hkind hbody, rfl, fun _ => hpending, RecallArea.clear_page _, RecallArea.clear_list _, hfill,
    fun hidle => ?_, fun herase => ?_, fun x hwrite => ?_⟩
  · simp [RecallArea.clear_of_idle hidle]
  · simp [RecallArea.clear_of_erasing herase, herase]
  · simp [RecallArea.clear_of_writing hwrite, hwrite]

/-- Settles O51: the slot of a completed write, then the next work case by case; a completed erase; and a second RECALL CLEAR. -/
theorem recallWriterCompletes : Obligations.RecallWriterCompletes := by
  refine ⟨fun s x hs hpage hwrite hfill => ?_, fun s hs herase hclear => ?_, fun s f rest x h hkind hbody hwrite hclear => ?_⟩
  · refine ⟨_, exec_recallWriteComplete hs hwrite, ?_⟩
    simp only [State.nextFree_frame, State.setRecallArea_recallArea, State.setRecallArea_table, State.setRecallArea_host,
      State.setRecallArea_roam, and_true]
    refine ⟨RecallArea.finishWrite_fill _ _ _, fun k _ hk => ?_, RecallArea.finishWrite_slot _ x hpage hfill,
      fun hclear => ?_, fun hclear hnone => ?_, fun hclear y hpending => ?_, RecallArea.finishWrite_list _ _ _⟩
    · rw [RecallArea.finishWrite_page]
      exact readSlotBytes_writeSlot_other hpage hk
    · rw [RecallArea.finishWrite_eq, RecallArea.nextWork_of_clear (a := s.recallArea.written s.free x) hclear]
      exact ⟨rfl, rfl⟩
    · rw [RecallArea.finishWrite_eq, RecallArea.nextWork_of_none (a := s.recallArea.written s.free x) hclear hnone]
      rfl
    · rw [RecallArea.finishWrite_page]
      exact RecallArea.nextWork_pending_cases (a := s.recallArea.written s.free x) rfl hclear hpending
  · rw [exec_recallEraseComplete hs herase]
    cases hpending : s.recallArea.pendingWrite with
    | none => rw [RecallArea.finishErase_of_none hclear hpending]
    | some x => rw [RecallArea.finishErase_of_pending hclear hpending]
  · rw [exec_recallClear h hkind hbody, RecallArea.clear_of_writing hwrite, ← hclear]

end Sys2Proof.Proofs
end

section
/-! SUPPORT. The rows of the sixteen commands: which frame each takes (R157, R164), and a body of a wrong length (R158). -/

namespace Sys2Proof.Machine

/-! ## The taking of a frame (R157, R164) -/

/-- R157, R164: when a command may be taken. -/
theorem State.mayTake_iff (s : State) :
    s.mayTake = true ↔ s.host.resetTaken = false ∧ repliesWaiting s.host.transmit < 3 := by
  simp [State.mayTake]

/-- Log 2: a row leaves the state when no frame of its kind is offered. -/
theorem takeKind_of_not_offered {s : State} {kind : Byte} {handle : State → HostFrame → State}
    (h : ∀ f rest, s.offers f rest → f.kind ≠ kind) : takeKind kind handle s = s := by
  by_cases hrun : s.pins.supply = .running
  · rw [takeKind, whileRunning_of_running hrun]
    obtain ⟨f, rest, hmay, hintake, hkind, -⟩ | hsame := takeCommand_cases s (fun k => k == kind) handle
    · obtain ⟨hreset, hfew⟩ := s.mayTake_iff.1 hmay
      exact absurd (beq_iff_eq.1 hkind) (h f rest ⟨hrun, hreset, hfew, hintake⟩)
    · exact hsame
  · exact whileRunning_of_not_running hrun

/-! ## The lengths that the readers of a body accept (12.4.1) -/

/-- R161: the items of SET PARAMETERS take three bytes each. -/
theorem readItems_length {body : List Byte} {items : List (Nat × Nat)} (h : readItems body = some items) :
    body.length = 3 * items.length := by
  induction body using readItems.induct generalizing items with
  | case1 => cases h; rfl
  | case2 => cases h
  | case3 => cases h
  | case4 c hi lo rest ih =>
    obtain ⟨tail, htail, rfl⟩ := Option.map_eq_some_iff.1 h
    simp only [List.length_cons, ih htail]
    omega

/-- R136: the pairs of SET GROUPS take six bytes each. -/
theorem readPairs_length {body : List Byte} {pairs : List GroupPair} (h : readPairs body = some pairs) :
    body.length = 6 * pairs.length := by
  induction body using readPairs.induct generalizing pairs with
  | case1 => cases h; rfl
  | case2 a b c d e f rest ih =>
    obtain ⟨tail, htail, rfl⟩ := Option.map_eq_some_iff.1 h
    simp only [List.length_cons, ih htail]
    omega
  | case3 body hnil hcons =>
    rw [readPairs.eq_3 body hnil hcons] at h
    cases h

/-- R82: the channels that are read are as many as the count byte says, in a body that has the length for them. -/
theorem readChannels_length {c : Byte} {packed : List Byte} {channels : List Nat}
    (h : readChannels (c :: packed) = some channels) :
    packed.length = (10 * c.toNat + 7) / 8 ∧ channels.length = c.toNat := by
  obtain ⟨hlength, hread⟩ := Option.ite_none_right_eq_some.1 h
  exact ⟨hlength, by rw [← Option.some.inj hread]; simp⟩

/-! ## A wrong length, command by command (R158) -/

section WrongLength

variable {s : State} {f : HostFrame}

theorem State.provision_of_length (h : f.body.length ≠ 3) : s.provision f = s.reply f .format := if_pos h

theorem State.setParameters_of_length (h : ¬(f.body.length % 3 = 0 ∧ f.body.length ≤ 39)) :
    s.setParameters f = s.reply f .format := by
  unfold State.setParameters
  cases hread : readItems f.body with
  | none => rfl
  | some items =>
    have hlength := readItems_length hread
    exact if_pos (.inl (by simp only [maxItems]; omega))

theorem State.loadSiteCommand_of_length (h : f.body.length ≠ 7) : s.loadSiteCommand f = s.reply f .format := by
  unfold State.loadSiteCommand
  cases readSwitch (at8 f.body 6) with
  | none => rfl
  | some pinned => exact if_pos (.inl h)

theorem State.dropSiteCommand_of_length (h : f.body.length ≠ 2) : s.dropSiteCommand f = s.reply f .format :=
  if_pos (.inl h)

theorem State.setHuntChannels_of_empty (h : f.body = []) : s.setHuntChannels f = s.reply f .format := by
  rw [State.setHuntChannels, h]
  rfl

theorem State.setHuntChannels_of_length {c : Byte} {packed : List Byte} (hb : f.body = c :: packed)
    (h : ¬(packed.length = (10 * c.toNat + 7) / 8 ∧ c.toNat ≤ 31)) : s.setHuntChannels f = s.reply f .format := by
  rw [State.setHuntChannels, hb]
  cases hread : readChannels (c :: packed) with
  | none => rfl
  | some channels =>
    obtain ⟨hpacked, hcount⟩ := readChannels_length hread
    exact if_pos (by omega)

theorem State.setGroupsCommand_of_length (h : ¬(f.body.length % 6 = 1 ∧ f.body.length ≤ 37)) :
    s.setGroupsCommand f = s.reply f .format := by
  unfold State.setGroupsCommand
  cases hb : f.body with
  | nil => rfl
  | cons head rest =>
    simp only
    cases hread : readPairs rest with
    | none => rfl
    | some pairs =>
      have hlength := readPairs_length hread
      rw [hb, List.length_cons] at h
      exact if_pos (by omega)

theorem State.startCommand_of_length (h : f.body.length ≠ 0) : s.startCommand f = s.reply f .format := if_pos h

theorem State.stopCommand_of_length (h : f.body.length ≠ 0) : s.stopCommand f = s.reply f .format := if_pos h

theorem State.callStateCommand_of_length (h : f.body.length ≠ 2) : s.callStateCommand f = s.reply f .format := by
  unfold State.callStateCommand
  split
  · exact if_pos h
  · rfl

theorem State.roamHoldCommand_of_length (h : f.body.length ≠ 1) : s.roamHoldCommand f = s.reply f .format := by
  unfold State.roamHoldCommand
  split
  · exact if_pos h
  · rfl

theorem State.roamToCommand_of_length (h : f.body.length ≠ 2) : s.roamToCommand f = s.reply f .format := if_pos (.inl h)

theorem State.roamAbortCommand_of_length (h : f.body.length ≠ 0) : s.roamAbortCommand f = s.reply f .format := if_pos h

theorem State.querySite_of_length (h : f.body.length ≠ 1) : s.querySite f = s.reply f .format := if_pos (.inl h)

theorem State.queryStatus_of_length (h : f.body.length ≠ 0) : s.queryStatus f = s.reply f .format := if_pos h

theorem State.recallClear_of_length (h : f.body.length ≠ 0) : s.recallClear f = s.reply f .format := if_pos h

theorem State.resetCommand_of_length (h : f.body.length ≠ 0) : s.resetCommand f = s.reply f .format := if_pos h

end WrongLength

/-! ## The rows -/

/-- A row of the sixteen commands takes the frames of its kind, and its handler answers FORMAT to a body whose length the row does
not allow. -/
def RowTakesItsKind (row : Instr × Byte × (List Byte → Bool)) : Prop :=
  ∃ handle : State → HostFrame → State,
    (∀ s, exec row.1 s = .next (takeKind row.2.1 handle s))
      ∧ ∀ s f, row.2.2 f.body = false → handle s f = s.reply f .format

/-- A row that allows one length. -/
theorem RowTakesItsKind.of_length {i : Instr} {kind : Byte} {n : Nat} {handle : State → HostFrame → State}
    (hexec : ∀ s, exec i s = .next (takeKind kind handle s))
    (hformat : ∀ {s f}, f.body.length ≠ n → handle s f = s.reply f .format) :
    RowTakesItsKind (i, kind, fun b => b.length == n) :=
  ⟨handle, hexec, fun _ _ h => hformat (beq_eq_false_iff_ne.1 h)⟩

theorem setParameters_takesItsKind :
    RowTakesItsKind (.setParameters, 0x02, fun b => b.length % 3 == 0 && decide (b.length ≤ 39)) :=
  ⟨State.setParameters, fun _ => rfl, fun _ _ h => State.setParameters_of_length (by simpa using h)⟩

theorem setGroups_takesItsKind :
    RowTakesItsKind (.setGroups, 0x06, fun b => b.length % 6 == 1 && decide (b.length ≤ 37)) :=
  ⟨State.setGroupsCommand, fun _ => rfl, fun _ _ h => State.setGroupsCommand_of_length (by simpa using h)⟩

/-- R157, R158: all sixteen rows. -/
theorem commandRows_takeTheirKind : ∀ row ∈ commandRows, RowTakesItsKind row := by
  simp only [commandRows, List.forall_mem_cons, List.not_mem_nil, false_implies, implies_true, and_true]
  refine ⟨.of_length (fun _ => rfl) State.provision_of_length,
    setParameters_takesItsKind,
    .of_length (fun _ => rfl) State.loadSiteCommand_of_length,
    .of_length (fun _ => rfl) State.dropSiteCommand_of_length,
    ⟨State.setHuntChannels, fun _ => rfl, fun s f h => ?_⟩,
    setGroups_takesItsKind,
    .of_length (fun _ => rfl) State.startCommand_of_length,
    .of_length (fun _ => rfl) State.stopCommand_of_length,
    .of_length (fun _ => rfl) State.callStateCommand_of_length,
    .of_length (fun _ => rfl) State.roamHoldCommand_of_length,
    .of_length (fun _ => rfl) State.roamToCommand_of_length,
    .of_length (fun _ => rfl) State.roamAbortCommand_of_length,
    .of_length (fun _ => rfl) State.querySite_of_length,
    .of_length (fun _ => rfl) State.queryStatus_of_length,
    .of_length (fun _ => rfl) State.recallClear_of_length,
    .of_length (fun _ => rfl) State.resetCommand_of_length⟩
  cases hb : f.body with
  | nil => exact State.setHuntChannels_of_empty hb
  | cons c packed =>
    rw [hb] at h
    exact State.setHuntChannels_of_length hb (by simpa using h)

end Sys2Proof.Machine
end

section
/-! PROOFS. The rows of the sixteen commands (O30, O31) and a frame of an unknown kind (O29). -/

namespace Sys2Proof.Proofs

open Sys2Proof Sys2Proof.Machine

/-- Settles O30: each row's handler refuses a body of a wrong length before anything else. -/
theorem wrongLengthIsAnsweredFormat : Obligations.WrongLengthIsAnsweredFormat := by
  intro row hrow s f rest h hkind hlength
  obtain ⟨handle, hexec, hformat⟩ := commandRows_takeTheirKind row hrow
  rw [hexec, takeKind_of_offers h hkind, hformat _ f hlength, reply_taken_eq_refusedWith]

/-- Settles O31: a row without its frame at the head leaves the state. -/
theorem commandRowWaitsForItsFrame : Obligations.CommandRowWaitsForItsFrame := by
  intro row hrow s hnone
  obtain ⟨handle, hexec, -⟩ := commandRows_takeTheirKind row hrow
  rw [hexec, takeKind_of_not_offered hnone]

/-- Settles O29: the row of the unknown kinds takes the frame and answers it. -/
theorem unknownKindIsAnswered : Obligations.UnknownKindIsAnswered := by
  intro s f rest h hkind
  have hunknown : (!isCommandKind f.kind) = true := by
    simp only [isCommandKind, Bool.not_eq_true', decide_eq_false_iff_not]
    omega
  have htake : s.takeCommand (fun k => !isCommandKind k) State.unknownKind = s.refusedWith f rest .unknownKind :=
    takeCommand_of_offers h hunknown
  exact congrArg Host.Outcome.next ((whileRunning_of_running h.1).trans htake)

end Sys2Proof.Proofs
end

section
/-! SUPPORT. The bytes of PROVISION (R160) and the items of SET PARAMETERS (R161). -/

namespace Sys2Proof.Machine

/-! ## The identity of PROVISION (R160) -/

/-- A byte behind a word, most significant first. -/
theorem toNat_append_byte {n : Nat} (x : BitVec n) (b : Byte) : (x ++ b).toNat = 256 * x.toNat + b.toNat := by
  rw [BitVec.toNat_append, ← Nat.shiftLeft_add_eq_or_of_lt b.isLt, Nat.shiftLeft_eq, Nat.mul_comm]

/-- R160: the identity of a PROVISION body is its three bytes. -/
theorem ofNat_at24_eq_append (a b c : Byte) : BitVec.ofNat 24 (at24 [a, b, c] 0) = (a ++ b ++ c : BitVec 24) := by
  have hfield : at24 [a, b, c] 0 = (a ++ b ++ c : BitVec 24).toNat := by
    simp only [toNat_append_byte, at24, at8, natOfBytes, List.getD_cons_zero, List.getD_cons_succ, List.foldl_cons,
      List.foldl_nil]
    omega
  rw [hfield, BitVec.ofNat_toNat, BitVec.setWidth_eq]

/-- R160: the generator's seed is the identity's low 16 bits, or 0xACE1 when they are zero. -/
theorem generatorSeed_append (a b c : Byte) :
    generatorSeed (a ++ b ++ c : BitVec 24) = if (b ++ c : BitVec 16) = 0#16 then 0xACE1#16 else (b ++ c : BitVec 16) := by
  have hlow : (a ++ b ++ c : BitVec 24).setWidth 16 = (b ++ c : BitVec 16) := by
    have hb := b.isLt
    have hc := c.isLt
    apply BitVec.eq_of_toNat_eq
    simp only [BitVec.toNat_setWidth, toNat_append_byte]
    omega
  rw [generatorSeed, hlow]

/-! ## The items of SET PARAMETERS (R161) -/

/-- R161: an item of three bytes: its parameter code and its value. -/
def itemOfBytes (x : Byte × Byte × Byte) : Nat × Nat := (x.1.toNat, 256 * x.2.1.toNat + x.2.2.toNat)

/-- R161: the items are read as they were written. -/
theorem readItems_flatMap (items : List (Byte × Byte × Byte)) :
    readItems (items.flatMap fun x => [x.1, x.2.1, x.2.2]) = some (items.map itemOfBytes) := by
  induction items with
  | nil => rfl
  | cons x items ih =>
    simp only [List.flatMap_cons, List.cons_append, List.nil_append, readItems, ih, Option.map_some, natOfBytes_pair]
    rfl

/-- R161: some item names no parameter. -/
theorem all_knownParam_eq_false_iff (items : List (Byte × Byte × Byte)) :
    (items.map itemOfBytes).all knownParam = false ↔ ∃ x ∈ items, x.1.toNat = 0 ∨ 27 < x.1.toNat := by
  have hunknown (n v : Nat) : ¬knownParam (n, v) = true ↔ n = 0 ∨ 27 < n := by
    simp only [knownParam, decide_eq_true_eq]
    omega
  simp [itemOfBytes, hunknown]

/-- R161: every value lies in its parameter's range. -/
theorem all_inParamRange_iff (items : List (Byte × Byte × Byte)) :
    (items.map itemOfBytes).all inParamRange = true ↔
      ∀ x ∈ items, clampParam (x.1.toNat - 1) (256 * x.2.1.toNat + x.2.2.toNat) = 256 * x.2.1.toNat + x.2.2.toNat := by
  simp [itemOfBytes, inParamRange]

/-- R161: a place of the pending values takes the clamped value of the last item that names it. -/
theorem writeItems_getD {pending : List (Option Nat)} {items : List (Nat × Nat)} (hcodes : ∀ item ∈ items, 1 ≤ item.1)
    {p : Nat} (hp : p < pending.length) :
    (writeItems pending items).getD p none =
      (items.reverse.find? fun item => item.1 == p + 1).elim (pending.getD p none)
        fun item => some (clampParam p item.2) := by
  induction items generalizing pending with
  | nil => rfl
  | cons item rest ih =>
    obtain ⟨hcode, hrest⟩ := List.forall_mem_cons.1 hcodes
    rw [writeItems, ih hrest (by simpa using hp), List.reverse_cons, List.find?_append]
    cases rest.reverse.find? fun item => item.1 == p + 1 with
    | some later => rfl
    | none =>
      by_cases hnames : item.1 = p + 1
      · simp [hnames, hp]
      · have hother : item.1 - 1 ≠ p := by omega
        simp [hnames, hother]

/-- R161: SET PARAMETERS with a code outside the table is refused. -/
theorem State.setParameters_of_unknown {s : State} {f : HostFrame} {items : List (Byte × Byte × Byte)}
    (hb : f.body = items.flatMap fun x => [x.1, x.2.1, x.2.2]) (h : ∃ x ∈ items, x.1.toNat = 0 ∨ 27 < x.1.toNat) :
    s.setParameters f = s.reply f .format := by
  rw [State.setParameters, hb, readItems_flatMap]
  exact if_pos (.inr ((all_knownParam_eq_false_iff items).2 h))

/-- R161: SET PARAMETERS whose codes are all of the table writes its items. -/
theorem State.setParameters_of_known {s : State} {f : HostFrame} {items : List (Byte × Byte × Byte)}
    (hb : f.body = items.flatMap fun x => [x.1, x.2.1, x.2.2]) (hlen : items.length ≤ 13)
    (h : ∀ x ∈ items, 1 ≤ x.1.toNat ∧ x.1.toNat ≤ 27) :
    s.setParameters f =
      (s.setHost { s.host with pendingParams := writeItems s.host.pendingParams (items.map itemOfBytes) }).reply f
        (if (items.map itemOfBytes).all inParamRange then .ok else .adjusted) := by
  rw [State.setParameters, hb, readItems_flatMap]
  refine if_neg (not_or.2 ⟨by simpa [maxItems] using hlen, fun hunknown => ?_⟩)
  obtain ⟨x, hx, hcode⟩ := (all_knownParam_eq_false_iff items).1 hunknown
  have hknown := h x hx
  omega

end Sys2Proof.Machine
end

section
/-! PROOFS. PROVISION (O32), SET PARAMETERS (O33), the events (O28) and RESET (O48). -/

namespace Sys2Proof.Proofs

open Sys2Proof Sys2Proof.Machine

/-- Settles O32: the refusals in their order, then the identity and the seed read from the three bytes. -/
theorem provisionIsJudged : Obligations.ProvisionIsJudged := by
  intro s f rest a b c h hkind hbody
  have hlength : ¬f.body.length ≠ 3 := by simp [hbody]
  refine congrArg Host.Outcome.next ((takeKind_of_offers h hkind).trans ?_)
  rw [State.provision, hbody, ofNat_at24_eq_append, ← hbody, ← generatorSeed_append a b c]
  exact if_neg hlength

/-- Settles O33: an unknown code refuses the whole; else the last item that names a place gives its pending value. -/
theorem setParametersMergesItsItems : Obligations.SetParametersMergesItsItems := by
  intro s f rest items h hkind hlen hpending hbody
  have hrow : exec .setParameters s = .next ((s.setHost (s.host.taken rest)).setParameters f) :=
    congrArg Host.Outcome.next (takeKind_of_offers h hkind)
  refine ⟨fun hunknown => ?_, fun hknown => ?_⟩
  · rw [hrow, State.setParameters_of_unknown hbody hunknown, reply_taken_eq_refusedWith]
  · refine ⟨writeItems s.host.pendingParams (items.map itemOfBytes), ?_, ?_, fun p hp => ?_⟩
    · rw [hrow, State.setParameters_of_known hbody hlen hknown]
      simp only [all_inParamRange_iff]
      rfl
    · rw [writeItems_length, hpending]
    · have hcodes : ∀ item ∈ items.map itemOfBytes, 1 ≤ item.1 := List.forall_mem_map.2 fun x hx => (hknown x hx).1
      rw [writeItems_getD hcodes (hpending ▸ hp), ← List.map_reverse, List.find?_map]
      change ((items.reverse.find? fun x => x.1.toNat == p + 1).map itemOfBytes).elim _ _ = _
      cases items.reverse.find? fun x => x.1.toNat == p + 1 <;> rfl

/-- Settles O28: an offer moves the Host Link alone, and each event has the kind and the body of 12.4.3. -/
theorem eventTakesItsNumber : Obligations.EventTakesItsNumber := by
  refine ⟨State.event_eq, fun _ _ _ _ => ⟨rfl, rfl⟩, fun _ _ _ _ => ⟨rfl, rfl⟩, fun _ _ _ _ _ => ⟨rfl, rfl⟩,
    fun _ _ _ _ => ⟨rfl, rfl⟩, fun _ _ _ _ _ _ => ⟨rfl, rfl⟩, fun _ _ _ _ _ _ _ => ⟨rfl, rfl⟩, fun _ _ => ⟨rfl, rfl⟩,
    fun code kind destination matching payload => ⟨rfl, ?_⟩, fun _ _ _ _ _ => ⟨rfl, rfl⟩, fun _ _ _ _ => ⟨rfl, rfl⟩,
    rfl, rfl, fun _ => ⟨rfl, rfl⟩⟩
  cases matching <;> rfl

/-- Settles O48: RESET is answered and taken note of, and the transmit queue gives up its head unless the head is that reply. -/
theorem resetWaitsForItsReply : Obligations.ResetWaitsForItsReply := by
  refine ⟨fun s f rest h hkind hbody => ?_, fun s r q hrun hqueue hother => ?_⟩
  · refine congrArg Host.Outcome.next ((takeKind_of_offers h hkind).trans ?_)
    exact if_neg (by simp [hbody])
  · have hkept : ¬(s.host.resetTaken && r.endsReset) = true := by
      simp only [HostFrame.endsReset, HostFrame.isReply, Bool.and_eq_true, beq_iff_eq]
      exact hother
    refine congrArg Host.Outcome.next ((whileRunning_of_running hrun).trans ?_)
    rw [State.recordSent, hqueue]
    exact if_neg hkept

end Sys2Proof.Proofs
end

section
/-! SUPPORT. The host's receive line: whole frames (R155, R157), damaged frames (R156) and the inter-byte gap. -/

namespace Sys2Proof.Machine

/-! ## The receiver (R155) -/

/-- The receiver with nothing received keeps nothing. -/
theorem State.keepHostBytes_nil {s : State} (h : s.host.received = []) : s.keepHostBytes [] = s := by
  rw [← h]
  rfl

/-- R155: bytes without a lead byte are passed over. -/
theorem hostReceive_of_no_lead {bytes : List Byte} (h : 0xA7#8 ∉ bytes) (n : Nat) (s : State) :
    hostReceive (n + 1) bytes s = s.keepHostBytes [] := by
  have hdrop : bytes.dropWhile (· != 0xA7#8) = [] :=
    List.dropWhile_eq_nil_iff.2 fun x hx => bne_iff_ne.2 fun heq => h (heq ▸ hx)
  rw [hostReceive, hdrop]

/-- R155: a lead byte with the byte behind it. -/
theorem hostReceive_lead (n : Nat) (length : Byte) (rest : List Byte) (s : State) :
    hostReceive (n + 1) (0xA7#8 :: length :: rest) s =
      if hostLengthAllowed length.toNat = false then hostReceive n (length :: rest) s.frameDamaged
      else if rest.length < length.toNat + 1 then s.keepHostBytes (0xA7#8 :: length :: rest)
      else if crc8 (length :: rest.take length.toNat) = at8 rest length.toNat then
        hostReceive n (rest.drop (length.toNat + 1))
          (s.placeHostFrame
            { kind := at8 (rest.take length.toNat) 0, tag := at8 (rest.take length.toNat) 1
              body := (rest.take length.toNat).drop 2 })
      else hostReceive n (length :: rest) s.frameDamaged := rfl

/-- R154: a body of up to 40 bytes has its length in one byte. -/
theorem toNat_byte_of_body {body : List Byte} (h : body.length ≤ 40) :
    (byte (body.length + 2)).toNat = body.length + 2 := by
  rw [byte, BitVec.toNat_ofNat]
  omega

/-- R155: a whole frame of an allowed length is placed, or discarded for its check with hunting at its length byte. -/
theorem hostReceive_whole {kind tag check : Byte} {body : List Byte} (h : body.length ≤ 40) (n : Nat) (s : State) :
    hostReceive (n + 1) (0xA7#8 :: byte (body.length + 2) :: kind :: tag :: (body ++ [check])) s =
      if crc8 (byte (body.length + 2) :: kind :: tag :: body) = check then
        hostReceive n [] (s.placeHostFrame { kind := kind, tag := tag, body := body })
      else hostReceive n (byte (body.length + 2) :: kind :: tag :: (body ++ [check])) s.frameDamaged := by
  have hallowed : hostLengthAllowed (body.length + 2) = true := by simp [hostLengthAllowed, h]
  have hwhole : ¬(kind :: tag :: (body ++ [check])).length < body.length + 2 + 1 := by simp
  have htake : (kind :: tag :: (body ++ [check])).take (body.length + 2) = kind :: tag :: body := by simp
  have hdrop : (kind :: tag :: (body ++ [check])).drop (body.length + 2 + 1) = [] := by simp
  have hcheck : at8 (kind :: tag :: (body ++ [check])) (body.length + 2) = check := by simp [at8]
  rw [hostReceive_lead]
  simp only [toNat_byte_of_body h, hallowed, htake, hdrop, hcheck, if_neg hwhole, Bool.true_eq_false, if_false]
  rfl

/-! ## Whole frames (R155, R156, R157) -/

/-- R157: where a frame is placed leaves the bytes received. -/
theorem State.placeHostFrame_received (s : State) (f : HostFrame) :
    (s.placeHostFrame f).host.received = s.host.received := by
  unfold State.placeHostFrame
  dsimp only
  split
  · rfl
  · split
    · rfl
    · simp

/-- R154, R155: a framed body is placed, and nothing of it stays in the receiver. -/
theorem State.receiveHost_frame {s : State} (hr : s.host.received = []) {body : List Byte} (h : body.length ≤ 40)
    (kind tag : Byte) :
    s.receiveHost (hostFrame kind tag body) = s.placeHostFrame { kind := kind, tag := tag, body := body } := by
  have hframe : hostFrame kind tag body =
      0xA7#8 :: byte (body.length + 2) :: kind :: tag
        :: (body ++ [crc8 (byte (body.length + 2) :: kind :: tag :: body)]) := rfl
  rw [State.receiveHost, hr, List.nil_append, hframe, hostReceive_whole h, if_pos rfl, List.length_cons,
    hostReceive_of_no_lead List.not_mem_nil, State.keepHostBytes_nil (by rw [s.placeHostFrame_received, hr])]

/-- R156, R157: the Host Link that a placed frame leads to. -/
theorem State.placeHostFrame_eq (s : State) (f : HostFrame) :
    s.placeHostFrame f =
      s.setHost
        (if s.host.intake.length < 4 then { s.host with linkError := false, intake := s.host.intake ++ [f] }
        else if s.host.transmit.any HostFrame.isBusy then { s.host with linkError := false }
        else { s.host.answer f .busy [] with linkError := false }) := by
  rw [apply_ite s.setHost, apply_ite s.setHost]
  rfl

/-! ## Damaged frames (R155, R156) -/

/-- R156: the Host Link with a damaged frame counted, and the first of a run reported. -/
def HostLink.damaged (h : HostLink) : HostLink :=
  let counted : HostLink := { h with checkErrors := min (h.checkErrors + 1) 65535 }
  if h.linkError then counted
  else
    { counted.offer (.linkError (min (h.checkErrors + 1) 65535)) with
      linkError := decide (eventsWaiting h.transmit < 12) }

/-- R156: a damaged frame moves the Host Link alone. -/
theorem State.frameDamaged_eq (s : State) : s.frameDamaged = s.setHost s.host.damaged := by
  rw [State.frameDamaged, HostLink.damaged, apply_ite s.setHost]
  simp only [State.event_eq]
  rfl

/-- R155: hunting on after a damaged frame over bytes that hold no lead byte. -/
theorem hostReceive_frameDamaged {bytes : List Byte} (h : 0xA7#8 ∉ bytes) (n : Nat) (s : State) :
    hostReceive (n + 1) bytes s.frameDamaged = s.setHost { s.host.damaged with received := [] } := by
  rw [hostReceive_of_no_lead h, State.frameDamaged_eq]
  rfl

/-- R155: a bad length behind a lead byte: the length byte may be a lead byte itself. -/
theorem State.receiveHost_bad_length {s : State} (hr : s.host.received = []) {length : Byte}
    (hl : length.toNat < 2 ∨ 42 < length.toNat) :
    s.receiveHost [0xA7#8, length] =
      s.setHost { s.host.damaged with received := if length = 0xA7#8 then [0xA7#8] else [] } := by
  have hlength : hostLengthAllowed length.toNat = false := by
    simp only [hostLengthAllowed, decide_eq_false_iff_not]
    omega
  rw [State.receiveHost, hr, List.nil_append, hostReceive_lead, if_pos hlength]
  split
  · next hlead =>
    rw [hlead, State.frameDamaged_eq]
    rfl
  · next hother => exact hostReceive_frameDamaged (by simpa using Ne.symm hother) _ s

/-- R155: a check that does not match discards the frame. -/
theorem State.receiveHost_bad_check {s : State} (hr : s.host.received = []) {kind tag check : Byte} {body : List Byte}
    (h : body.length ≤ 40) (hcheck : crc8 (byte (body.length + 2) :: kind :: tag :: body) ≠ check)
    (hlead : 0xA7#8 ∉ kind :: tag :: (body ++ [check])) :
    s.receiveHost (0xA7#8 :: byte (body.length + 2) :: kind :: tag :: (body ++ [check])) =
      s.setHost { s.host.damaged with received := [] } := by
  have hlength : 0xA7#8 ≠ byte (body.length + 2) := by
    intro heq
    have hnat := toNat_byte_of_body h
    rw [← heq] at hnat
    simp only [BitVec.toNat_ofNat] at hnat
    omega
  rw [State.receiveHost, hr, List.nil_append, hostReceive_whole h, if_neg hcheck, List.length_cons]
  exact hostReceive_frameDamaged (List.not_mem_cons_of_ne_of_not_mem hlength hlead) _ s

/-- R155: the gap behind a lone lead byte. -/
theorem State.gapTimeout_of_lead {s : State} (hr : s.host.received = [0xA7#8]) :
    s.gapTimeout = s.setHost { s.host.damaged with received := [] } := by
  rw [State.gapTimeout, hr]
  exact hostReceive_frameDamaged List.not_mem_nil _ s

end Sys2Proof.Machine
end

section
/-! PROOFS. The host line: whole frames (O52) and damaged ones (O53). -/

namespace Sys2Proof.Proofs

open Sys2Proof Sys2Proof.Machine

/-- Settles O52: the framed body passes the receiver whole and is placed. -/
theorem hostFrameIsPlaced : Obligations.HostFrameIsPlaced := by
  intro s kind tag body hrun hreceived hbody
  refine congrArg Host.Outcome.next ((whileRunning_of_running hrun).trans ?_)
  rw [State.receiveHost_frame hreceived hbody, State.placeHostFrame_eq]

/-- Settles O53: each of the three damages the Host Link alone, and leaves in the receiver what may begin a frame. -/
theorem damagedHostFrameIsReported : Obligations.DamagedHostFrameIsReported := by
  intro s hrun
  have hrow {g : State → State} {t : State} (h : g s = t) :
      (Host.Outcome.next (whileRunning g s) : Host.Outcome State Fault Refusal) = .next t :=
    congrArg Host.Outcome.next ((whileRunning_of_running hrun).trans h)
  exact ⟨fun hr _ hlength => hrow (State.receiveHost_bad_length hr hlength),
    fun hr _ _ _ _ hbody hcheck hlead => hrow (State.receiveHost_bad_check hr hbody hcheck hlead),
    fun hr => hrow (State.gapTimeout_of_lead hr)⟩

end Sys2Proof.Proofs
end

section
/-! PROOFS. A step is one row of the front command, or idling (O1). -/

namespace Sys2Proof.Machine

/-- The front command leaves the queue before its row runs. -/
theorem step_of_pending_cons {s : State} {c : Instr} {rest : List Instr} (h : s.pending = c :: rest) :
    step s = exec c (s.setPending rest) := by
  rw [step, h]

/-- With no command waiting the block idles. -/
theorem step_of_pending_nil {s : State} (h : s.pending = []) : step s = .next s := by
  rw [step, h]

end Sys2Proof.Machine

namespace Sys2Proof.Proofs

open Sys2Proof Sys2Proof.Machine

/-- Settles O1: the two arms of a step, by what waits in the queue. -/
theorem stepRunsTheFrontCommand : Obligations.StepRunsTheFrontCommand :=
  ⟨fun _ _ _ hfront => step_of_pending_cons hfront, fun _ hempty => step_of_pending_nil hempty⟩

end Sys2Proof.Proofs
end
